-- ==== Sys2Proof/Word.lean ====
section
/-!
DEFINITION. The word types of the device (R20, R35, R109): bytes, 32-bit register and cell words, 64-bit task words and
the 80-bit accumulators.
-/

namespace Sys2Proof

/-- A byte of memory. -/
abbrev Byte := BitVec 8

/-- A 32-bit register or cell data word. -/
abbrev Word := BitVec 32

/-- A 64-bit task register. -/
abbrev DWord := BitVec 64

/-- An 80-bit accumulator (R35). -/
abbrev Accu := BitVec 80

end Sys2Proof
end

