-- ==== Sys2Proof/Config.lean ====
section
/-!
DEFINITION. What the spec leaves open: free values, each an opaque constant with no value that a proof can see. The
assumption log names every use.
-/

namespace Sys2Proof

/-- A set-point of an axis: position Q48.16, velocity and acceleration in binary64 (R175, R176). -/
structure Motion where
  pos : DWord
  vel : DWord
  acc : DWord
  deriving DecidableEq, Repr, Inhabited

/-- A move or stop that the planner of an axis cell is asked for (R176): the present state, the target (none for a stop) and the
limits in binary32. -/
structure MoveReq where
  start : Motion
  target : Option DWord
  vmax : Word
  amax : Word
  jmax : Word
  deriving DecidableEq, Repr, Inhabited

end Sys2Proof

namespace Sys2Proof.Config

/-- The n-th fresh value of the run, for values the spec leaves undefined or unstated. -/
opaque freeValue : Nat → Nat

/-- Validity of a signature or an image's authentication (R384, R388): the spec gives the scheme, not the key. The
arguments are a number naming what is signed and the signed bits. -/
opaque authentic : Nat → Nat → Bool

/-- SHA-384 of bytes (R383), as a little-endian number. -/
opaque sha384 : List Nat → Nat

/-- Offset of the parameter set in the body of a safety image (R345): the spec does not say where it lies. -/
opaque psOffset : Nat

/-- Bytes of LPDDR4X fitted, at most 8 GiB (R28). -/
opaque lpddrSize : Nat

/-- Ticks that the plan of a move or stop takes (R176): the spec does not fix how the pieces are rounded. -/
opaque moveTicks : MoveReq → Nat

/-- Where a stop comes to rest (R176, R177). -/
opaque stopPos : MoveReq → DWord

/-- The set-point inside a plan, at a time in nanoseconds after its start (R176). -/
opaque moveAt : MoveReq → Nat → Motion

/-- Ticks that a path segment or a stop along the path takes (R186), by the number of the plan. -/
opaque pathTicks : Nat → Nat

/-- The set-point of a member inside a segment or a stop along the path (R185, R186), by plan, member and nanoseconds. -/
opaque pathAt : Nat → Nat → Nat → Motion

end Sys2Proof.Config
end

