-- ==== Sys2Proof/Machine/Fields.lean ====
section
/-!
DEFINITION. The names of the register fields of the register tables of spec/ (one constructor per field of a row, named
REGISTER_FIELD, or REGISTER where the register has one field), followed by the model's own scalar fields (INT: state that the
spec gives a unit but maps to no register), which begin with a lower-case x_. An instance number goes beside the name.
-/

namespace Sys2Proof.Machine

/-- The fields of the register tables, and the scalar internal state of the units. -/
inductive F where
  /-- R2: Part number. -/
  | IDENT_PART
  /-- R2: Stepping. -/
  | IDENT_STEP
  /-- R2: Package code, FC45. -/
  | IDENT_PKG
  /-- R32: Number of error-answered accesses; saturates at 0xFFFF. -/
  | ACC_ERR_COUNT
  /-- R32: Initiator of the first recorded access: 0x00 none, 0x01 to 0x04 task cores 0 to 3, 0x08 PCIe host, 0x09 service port, 0x0A Delta capture engine, 0x0B link engines, 0x0C pair unit; other codes are not used. -/
  | ACC_ERR_SOURCE
  /-- R32: Set by every error-answered access. -/
  | ACC_ERR_STICKY
  /-- R33: Address bits [31:0]. -/
  | ACC_ERR_ADDR_LO
  /-- R33: Address bits [39:32]. -/
  | ACC_ERR_ADDR_HI
  /-- R49: Corrected single-bit data-memory errors; saturates at 0xFF. -/
  | C_STAT_SEC_CNT
  /-- R49: Firings aborted under R48; saturates at 0xFF. -/
  | C_STAT_ILL_CNT
  /-- R49: The cell fault was an instruction-memory parity error. -/
  | C_STAT_IPAR
  /-- R49: The cell fault was an uncorrectable data-memory error. -/
  | C_STAT_DED
  /-- R49: The cell is retired. -/
  | C_STAT_FAULTED
  /-- R49: Bank 1 holds a firing. -/
  | C_STAT_LOAD1
  /-- R49: Bank 0 holds a firing. -/
  | C_STAT_LOAD0
  /-- R49: Bank that executes or last executed. -/
  | C_STAT_ACT
  /-- R49: Mode in effect: 0b000 QUAD, 0b001 DUALF, 0b010 ECO, 0b011 COMET; other codes are not used. -/
  | C_STAT_MODE
  /-- R49: CAUSE of the latest abort under R48. -/
  | C_ILL_CAUSE
  /-- R49: Local slot number of the aborted firing. -/
  | C_ILL_SLOT
  /-- R49: Address of the illegal instruction. -/
  | C_ILL_PC
  /-- R72: Slot enabled. -/
  | SLOT_CTL_EN
  /-- R72: An admission check for this slot is requested or running (R73). -/
  | SLOT_CTL_BUSY
  /-- R72: Request enable; cleared when the check ends. -/
  | SLOT_CTL_REQ_EN
  /-- R72: Request disable; cleared when done. -/
  | SLOT_CTL_REQ_DIS
  /-- R72: Request code exchange; cleared when the check ends. -/
  | SLOT_CTL_REQ_SWAP
  /-- R72: Result of the latest check; see R84. -/
  | SLOT_CTL_REFUSE
  /-- R72: Local slot whose check failed. -/
  | SLOT_CTL_REF_SLOT
  /-- R72: Priority 0 to 7. -/
  | SLOT_CTL_PRIO
  /-- R72: Pinned cell 0 to 4. -/
  | SLOT_CTL_CELL
  /-- R72: Period in ticks, minus 1: 1 to 65,536 ticks. -/
  | SLOT_TIME_PERIOD
  /-- R72: Tick offset, 0 to PERIOD, that is 0 to p − 1 (R69). -/
  | SLOT_TIME_TOFF
  /-- R72: Sample phase, 0 to 249. -/
  | SLOT_PH_SPHASE
  /-- R72: Output phase, 125 to 250 × period in ticks. -/
  | SLOT_PH_OPHASE
  /-- R72: Operand k in bits [4k+3:4k]: [3] USED, [2] REQ, [1:0] type, coded as TY of R42. -/
  | SLOT_OPS
  /-- R72: Entry address for REQ_EN or REQ_SWAP. -/
  | SLOT_ENTRY_ENTRY_NEW
  /-- R72: Entry address in effect. -/
  | SLOT_ENTRY_ENTRY
  /-- R72: A firing took more than WCET cycles from first issue to END, not counting cycles spent preempted. -/
  | SLOT_WCET_OVR
  /-- R72: Declared worst-case cycles w (R55) in effect. -/
  | SLOT_WCET_WCET
  /-- R72: LONG for REQ_EN or REQ_SWAP. -/
  | SLOT_LONG_LONG_NEW
  /-- R72: Longest run of cycles without an instruction boundary, 0 to 1,093. -/
  | SLOT_LONG_LONG
  /-- R72: WCET for REQ_EN or REQ_SWAP. -/
  | SLOT_WNEW
  /-- R72: State-area base word; loaded into P7 (R36). -/
  | SLOT_STATE_SBASE
  /-- R72: State-area length in words, 0 to 3,072. -/
  | SLOT_STATE_SLEN
  /-- R72: Global number of the inner slot when CASC = 1. -/
  | SLOT_POL_INNER
  /-- R72: This slot is the outer slot of a cascade. -/
  | SLOT_POL_CASC
  /-- R72: Lost set-point policy: 0b00 LAW, 0b01 HOLD, 0b10 SAFE. -/
  | SLOT_POL_LSP
  /-- R72: Deadline policy: 0b00 HOLD, 0b01 SAFE, 0b10 STOP. -/
  | SLOT_POL_DPOL
  /-- R72: Latest arrival of any required operand after the sample instant, in 4 ns steps. -/
  | SLOT_ARR
  /-- R72: Deadline misses, wrapping. -/
  | SLOT_MISS
  /-- R72: See R107. -/
  | TOK_IN
  /-- R72: See R107. -/
  | TOK_USED
  /-- R72: See R107. -/
  | TOK_UNUSED
  /-- R72: Accepted tokens to a USED operand whose TYPE differed from the operand's declared type, placed or consumed at once (R78); saturates at 0xFFFF. -/
  | SLOT_PEND_TYPE_MM
  /-- R72: See R107. -/
  | SLOT_PEND_PEND
  /-- R87: Value of load in R85 for the enabled slots, in 1/64 cycle per tick. -/
  | C_LOAD
  /-- R90: Global number of the owning slot. -/
  | OS_CFG_OWNER
  /-- R90: Hand-over blending enabled. -/
  | OS_CFG_BLEND
  /-- R90: Value type, coded as TY of R42. -/
  | OS_CFG_TYPE
  /-- R90: Stage enabled. -/
  | OS_CFG_EN
  /-- R90: Safe value. -/
  | OS_SAFE
  /-- R90: HANDOVER_LIMIT, a magnitude in TYPE. -/
  | OS_HLIM
  /-- R90: HANDOVER_RATE per firing, a magnitude in TYPE; 0 means unlimited. -/
  | OS_HRATE
  /-- R90: Value in effect. -/
  | OS_VAL
  /-- R90: Tokens from the owner counted late; saturates at 0xFF. -/
  | OS_STAT_LATE
  /-- R90: Tokens from other slots; saturates at 0xFF. -/
  | OS_STAT_NOTOWN
  /-- R90: QUAL of the value in effect; 0x10 while the SAFE value is in effect (R91). -/
  | OS_STAT_QUAL
  /-- R90: Hand-over blending in progress. -/
  | OS_STAT_BLENDING
  /-- R90: The safe value is in effect. -/
  | OS_STAT_SAFE_ACT
  /-- R90: The latest output instant kept the previous value. -/
  | OS_STAT_HELD
  /-- R90: Olisol link 0 to 19. -/
  | OS_MAP_LINK
  /-- R90: Station 0 to 7 on the link. -/
  | OS_MAP_STATION
  /-- R90: First byte in the station's output area, 0 to 239. -/
  | OS_MAP_OFFSET
  /-- R90: 0b00 1 byte, 0b01 2 bytes, 0b10 4 bytes. -/
  | OS_MAP_WIDTH
  /-- R90: Tokens reaching the stage, from any slot and whether the stage is enabled or not, whose TYPE differed from TYPE of OSn_CFG; saturates at 0xFFFF. -/
  | OS_TMM
  /-- R104: A committed mode change was not applied. -/
  | CELL_MODE_REJ
  /-- R104: Mode of C3. -/
  | CELL_MODE_M3
  /-- R104: Mode of C2. -/
  | CELL_MODE_M2
  /-- R104: Mode of C1. -/
  | CELL_MODE_M1
  /-- R104: Mode of C0. -/
  | CELL_MODE_M0
  /-- R106: Set when a producer stalls under R105. -/
  | MS_STAT_FULLSEEN
  /-- R106: Entries in use, 0 to 32. -/
  | MS_STAT_PENDING
  /-- R106: Largest PENDING since the last write of 1 to FULLSEEN. -/
  | MS_STAT_PEAK
  /-- R106: LOOP_CLK cycles in which at least one producer stalled on this block, wrapping. -/
  | MS_STALL
  /-- R117: Start the task; cleared when done. -/
  | TASK_CTL_REQ_START
  /-- R117: Kill the task; cleared when done. -/
  | TASK_CTL_REQ_KILL
  /-- R117: Core 0 to 3. -/
  | TASK_CTL_CORE
  /-- R117: Priority 0 to 31. -/
  | TASK_CTL_PRIO
  /-- R117: Entry address bits [27:2]. -/
  | TASK_ENTRY
  /-- R117: State under R116. -/
  | TASK_STAT_STATE
  /-- R117: PC of the next instruction, or of the faulting instruction. -/
  | TASK_STAT_PC
  /-- R117: Cause under R115, 0x00 if none. -/
  | TASK_FAULT
  /-- R117: Event flags. -/
  | TASK_FLAGS
  /-- R117: A 1 sets the flag, as FSET. -/
  | TASK_FSET
  /-- R117: Wait mask in effect. -/
  | TASK_WMASK
  /-- R117: Bits [31:0] of the tick number at which the delay or timeout expires. -/
  | TASK_WAKE
  /-- R117: Cycles spent RUNNING, wrapping. -/
  | TASK_RUN
  /-- R124: 32-bit instance ID. -/
  | TIM_ID
  /-- R124: IN at the last evaluation. -/
  | TIM_CFG_IN_LAST
  /-- R124: Q at the last evaluation. -/
  | TIM_CFG_Q
  /-- R124: Timing in progress. -/
  | TIM_CFG_RUN
  /-- R124: Notify on expiry (R126). -/
  | TIM_CFG_NOTE
  /-- R124: Task to notify. -/
  | TIM_CFG_NTASK
  /-- R124: Flag to set. -/
  | TIM_CFG_NFLAG
  /-- R124: 0: 1 µs; 1: 1 ms, that is 1,000 ticks. -/
  | TIM_CFG_UNIT
  /-- R124: 0b000 FREE, 0b001 TON, 0b010 TOF, 0b011 TP; other codes leave the field unchanged. -/
  | TIM_CFG_TYPE
  /-- R124: Preset in UNIT. -/
  | TIM_PT
  /-- R124: Elapsed time at the last evaluation, in UNIT. -/
  | TIM_ET
  /-- R127: Queue enabled. -/
  | Q_CFG_EN
  /-- R127: Packet mode. -/
  | Q_CFG_PKT
  /-- R127: Attached to a hardware unit. -/
  | Q_CFG_ATT
  /-- R127: Capacity in items, minus 1: 2 to 32,768. -/
  | Q_CFG_SIZE
  /-- R127: First item in the store. -/
  | Q_BASE
  /-- R127: Items of the packet under construction. -/
  | Q_LEVEL_UNCOMMIT
  /-- R127: Committed items not yet read. -/
  | Q_LEVEL_LEVEL
  /-- R127: Items written, wrapping. -/
  | Q_IN
  /-- R127: Items read, wrapping. -/
  | Q_OUT
  /-- R127: Items dropped by QDROP, wrapping. -/
  | Q_DROP
  /-- R127: Items rewound, wrapping. -/
  | Q_RWD
  /-- R127: A packet was rewound for want of space. -/
  | Q_STAT_OVSZ
  /-- R127: A writer found the queue full. -/
  | Q_STAT_FULLSEEN
  /-- R134: VALUE of the latest token. -/
  | TR_VAL
  /-- R134: FTAG of the latest token. -/
  | TR_INFO_FTAG
  /-- R134: TYPE of the latest token. -/
  | TR_INFO_TYPE
  /-- R134: QUAL of the latest token; STALE until the first arrival. -/
  | TR_INFO_QUAL
  /-- R134: Tokens arrived, wrapping. -/
  | TR_CNT
  /-- R134: Notify on arrival. -/
  | TR_NOTE_EN
  /-- R134: Task to notify. -/
  | TR_NOTE_TASK
  /-- R134: Flag to set. -/
  | TR_NOTE_FLAG
  /-- R139: Cyclic task; takes effect at the next cycle start, or stops further starts. -/
  | CYC_CTL_EN
  /-- R139: 0: publish at EXIT; 1: publish at the next cycle start. -/
  | CYC_CTL_OMODE
  /-- R139: Cycle period in ticks, minus 1: 1 to 16,777,216 ticks. -/
  | CYC_PER
  /-- R139: Tick offset, 0 to CPERIOD. -/
  | CYC_OFF
  /-- R139: Watchdog time in ticks; 0 means the cycle period, CPERIOD + 1 ticks. -/
  | CYC_WDOG
  /-- R139: Input image entries, 0 to 255. -/
  | CYC_IIMG_CNT
  /-- R139: Input image address bits [23:3]. -/
  | CYC_IIMG_ADDR
  /-- R139: Output image entries, 0 to 255. -/
  | CYC_OIMG_CNT
  /-- R139: Output image address bits [23:3]. -/
  | CYC_OIMG_ADDR
  /-- R139: Overruns; saturates at 0xFFFF. -/
  | CYC_STAT_OVR
  /-- R139: Entries skipped under R140 or R142; saturates at 0xFF. -/
  | CYC_STAT_BADDESC
  /-- R139: Station-field writes suppressed under R142; saturates at 0xFF. -/
  | CYC_STAT_CONFLICT
  /-- R139: Longest cycle in ticks from start to EXIT, rounded up; saturates. -/
  | CYC_MAXT
  /-- R149: Resign to the standby on a stop. -/
  | WD_CTL
  /-- R149: The region is stopped. -/
  | WD_STAT_STOPPED
  /-- R149: 0x01 watchdog expiry, 0x02 task fault; other codes are not used. -/
  | WD_STAT_CAUSE
  /-- R149: Task recorded under R145. -/
  | WD_STAT_TASK
  /-- R149: Tick number bits [31:0] of t0. -/
  | WD_TICK
  /-- R154: Record address bits [23:3]. -/
  | CHG_REC
  /-- R154: Check and start the record; cleared when the check ends. -/
  | CHG_CTL_GO
  /-- R154: Abandon the remaining switches; cleared when done. -/
  | CHG_CTL_ABORT
  /-- R154: Entries, 1 to 4,095. -/
  | CHG_CTL_CNT
  /-- R154: Switches outstanding. -/
  | CHG_STAT_BUSY
  /-- R154: Every task has switched. -/
  | CHG_STAT_DONE
  /-- R154: Switches were abandoned. -/
  | CHG_STAT_ABANDONED
  /-- R154: Result of the latest check (R151). -/
  | CHG_STAT_REFUSE
  /-- R154: Entry that failed. -/
  | CHG_STAT_REF_ENTRY
  /-- R154: Tasks 0 to 31 yet to switch. -/
  | CHG_WAIT_LO
  /-- R154: Tasks 32 to 63 yet to switch. -/
  | CHG_WAIT_HI
  /-- R173: Filter, 0 to 255 cycles (R156). -/
  | E_CFG_FILT
  /-- R173: Count direction inverted. -/
  | E_CFG_INV
  /-- R173: Mode under R155. -/
  | E_CFG_MODE
  /-- R173: MA half-period, 13 to 500 cycles. -/
  | E_SER_HALF
  /-- R173: Data bits, 8 to 40. -/
  | E_SER_LEN
  /-- R173: SSI data in Gray code. -/
  | E_SER_GRAY
  /-- R173: SSI even parity bit. -/
  | E_SER_PAR
  /-- R173: Pause after a frame, 1 to 255 µs. -/
  | E_SER_TPAUSE
  /-- R173: Position token DEST (R22). -/
  | E_DEST_PDEST
  /-- R173: Speed token DEST. -/
  | E_DEST_SDEST
  /-- R173: Sample period in ticks, minus 1. -/
  | E_TIME_PERIOD
  /-- R173: Tick offset, 0 to PERIOD. -/
  | E_TIME_TOFF
  /-- R173: Launch position tokens. -/
  | E_TOK_PEN
  /-- R173: Launch speed tokens. -/
  | E_TOK_SEN
  /-- R173: Speed format (R168). -/
  | E_TOK_SFMT
  /-- R173: Standstill time, 1 to 65,535 ticks. -/
  | E_TOK_STILL_T
  /-- R173: Sample phase, 0 to 249. -/
  | E_TOK_SPHASE
  /-- R173: Standstill (R166, R167). -/
  | E_STAT_STILL
  /-- R173: Reversal edge awaiting its successor. -/
  | E_STAT_REV
  /-- R173: Direction of the latest edge: 0 up, 1 down. -/
  | E_STAT_DIR
  /-- R173: CRC or parity error seen. -/
  | E_STAT_CRCSEEN
  /-- R173: Missing start bit seen. -/
  | E_STAT_NOACKSEEN
  /-- R173: Sensor error at the latest good frame. -/
  | E_STAT_SERR
  /-- R173: Sensor warning at the latest good frame. -/
  | E_STAT_SWARN
  /-- R173: Hall state 000 or 111 seen. -/
  | E_STAT_HALLBAD
  /-- R173: Illegal transition seen. -/
  | E_STAT_ILLSEEN
  /-- R173: Accepted levels of A, B, Z. -/
  | E_STAT_LVL
  /-- R173: Hall sector 0 to 5; 0b111 none yet. -/
  | E_STAT_SECTOR
  /-- R173: COUNT[31:0]; the read captures as R161. -/
  | E_CNT_LO
  /-- R173: COUNT[63:32]. -/
  | E_CNT_HI
  /-- R173: Counts up, wrapping. -/
  | E_UP
  /-- R173: Counts down, wrapping. -/
  | E_DOWN
  /-- R173: Sum of adjustments, wrapping. -/
  | E_ADJ
  /-- R173: Signed value added to COUNT and ADJ. -/
  | E_ADD
  /-- R173: Illegal transitions, wrapping. -/
  | E_ILL
  /-- R173: CRC or parity errors; saturates. -/
  | E_SERR_CRCE
  /-- R173: Missing start bits; saturates. -/
  | E_SERR_NOACK
  /-- R173: Samples skipped; saturates. -/
  | E_SERR_OVL
  /-- R173: Latest speed, in SFMT. -/
  | E_SPD
  /-- R173: Latch armed. -/
  | E_LCFG_EN
  /-- R173: Continuous latching. -/
  | E_LCFG_CONT
  /-- R173: Edge, 0b00 leaves the field unchanged. -/
  | E_LCFG_EDGE
  /-- R173: Gate Z with A = B = 1. -/
  | E_LCFG_GATE
  /-- R173: Source, 0 to 16. -/
  | E_LCFG_SRC
  /-- R173: Notify a task. -/
  | E_LCFG_NOTE
  /-- R173: Task to notify. -/
  | E_LCFG_NTASK
  /-- R173: Flag to set. -/
  | E_LCFG_NFLAG
  /-- R173: FIFO entries, 0 to 4. -/
  | E_LCFG_LEVEL
  /-- R173: Count of the oldest entry; the read removes it. -/
  | E_LCNT
  /-- R173: Tick number bits [23:0]. -/
  | E_LTIME_TICK
  /-- R173: Phase, 0 to 249. -/
  | E_LTIME_PHASE
  /-- R173: Events lost to a full FIFO, wrapping. -/
  | E_LLOST
  /-- R173: Pulse output enabled. -/
  | E_PCFG_PEN
  /-- R173: 0 quadrature, 1 step and direction. -/
  | E_PCFG_PSD
  /-- R173: |LAG| exceeded 2^30. -/
  | E_PCFG_OVF
  /-- R173: Source cell, 0 to 31. -/
  | E_PCFG_PSRC
  /-- R173: Minimum state time, 5 to 255 cycles. -/
  | E_PCFG_PSPACE
  /-- R173: Numerator. -/
  | E_PRAT_NUM
  /-- R173: Denominator. -/
  | E_PRAT_DEN
  /-- R173: Net counts emitted, wrapping; the read captures LAG and ACC. -/
  | E_POUT
  /-- R173: Counts owed, signed. -/
  | E_PLAG
  /-- R173: Divider remainder, signed. -/
  | E_PACC
  /-- R174: Accepted level of LATCHk. -/
  | LIN_CFG_LEVEL
  /-- R174: Filter, 0 to 255 cycles. -/
  | LIN_CFG_FILT
  /-- R183: Mode under R175. -/
  | AX_CFG_MODE
  /-- R183: Software limits on. -/
  | AX_CFG_SLEN
  /-- R183: Program-region stop is a fault (R179). -/
  | AX_CFG_WDSTOP
  /-- R183: Interpolation group 0 to 7. -/
  | AX_CFG_GRP
  /-- R183: Encoder cell for following error. -/
  | AX_CFG_ENC
  /-- R183: Master: 0 to 31 encoder cell COUNT, 32 to 63 position set-point of axis MSRC − 32. -/
  | AX_CFG_MSRC
  /-- R183: Sample period in ticks, minus 1. -/
  | AX_TIME_PERIOD
  /-- R183: Tick offset, 0 to PERIOD. -/
  | AX_TIME_TOFF
  /-- R183: Launch position tokens. -/
  | AX_TOK_PEN
  /-- R183: Launch velocity tokens. -/
  | AX_TOK_VEN
  /-- R183: Launch acceleration tokens. -/
  | AX_TOK_AEN
  /-- R183: Sample phase, 0 to 249. -/
  | AX_TOK_SPHASE
  /-- R183: Position token DEST (R22). -/
  | AX_PVDEST_PDEST
  /-- R183: Velocity token DEST. -/
  | AX_PVDEST_VDEST
  /-- R183: Acceleration token DEST. -/
  | AX_ADEST
  /-- R183: FP32 limit; a value that is not positive and finite leaves the register unchanged. -/
  | AX_VMAX
  /-- R183: FP32 limit; a value that is not positive and finite leaves the register unchanged. -/
  | AX_AMAX
  /-- R183: FP32 limit; a value that is not positive and finite leaves the register unchanged. -/
  | AX_JMAX
  /-- R183: FP32 limit; a value that is not positive and finite leaves the register unchanged. -/
  | AX_QAMAX
  /-- R183: FP32 limit; a value that is not positive and finite leaves the register unchanged. -/
  | AX_QJMAX
  /-- R183: Following-error limit in counts; 0 off. -/
  | AX_FEMAX
  /-- R183: Upper limit, signed 64-bit counts. -/
  | AX_SLP_LO
  /-- R183: Upper limit, signed 64-bit counts. -/
  | AX_SLP_HI
  /-- R183: Lower limit, signed 64-bit counts. -/
  | AX_SLN_LO
  /-- R183: Lower limit, signed 64-bit counts. -/
  | AX_SLN_HI
  /-- R183: Target, Q48.16. -/
  | AX_TGT_LO
  /-- R183: Target, Q48.16. -/
  | AX_TGT_HI
  /-- R183: Move to TGT; cleared when taken. -/
  | AX_CMD_GO
  /-- R183: Programmed stop. -/
  | AX_CMD_STOP
  /-- R183: Quick stop. -/
  | AX_CMD_QSTOP
  /-- R183: Leave HALTED. -/
  | AX_CMD_CLR
  /-- R183: 0b000 IDLE, 0b001 MOVE, 0b010 STOPPING, 0b011 QSTOPPING, 0b100 PATH, 0b101 FOLLOW, 0b110 HALTED. -/
  | AX_STAT_STATE
  /-- R183: Software-limit stop made. -/
  | AX_STAT_SOFT_LIMIT
  /-- R183: Stopped beyond a limit. -/
  | AX_STAT_LIMIT_OVER
  /-- R183: Target refused. -/
  | AX_STAT_TGT_REJ
  /-- R183: Command refused. -/
  | AX_STAT_CMD_REJ
  /-- R183: GEAR or CAM set-point exceeded VMAX. -/
  | AX_STAT_VLIM
  /-- R183: 0x0 none, 0x1 following error, 0x2 trip, 0x3 program stop, 0x4 safety, 0x5 bad segment, 0x6 limit in GEAR, CAM or GROUP. -/
  | AX_STAT_CAUSE
  /-- R183: Present set-point, Q48.16. -/
  | AX_POS_LO
  /-- R183: Present set-point, Q48.16. -/
  | AX_POS_HI
  /-- R183: Present velocity, FP32. -/
  | AX_VEL
  /-- R183: Present acceleration, FP32. -/
  | AX_ACC
  /-- R183: Stopping distance of the latest reversal; saturates. -/
  | AX_STOPD
  /-- R183: Gear numerator, signed. -/
  | AX_GNUM
  /-- R183: Gear denominator, 1 to 0xFFFF_FFFF. -/
  | AX_GDEN
  /-- R183: Periodic cam. -/
  | AX_CAM_PERIODIC
  /-- R183: Table of 2^K + 1 entries, K 4 to 12. -/
  | AX_CAM_K
  /-- R183: First entry, a word index 0 to 8,191 in the block's cam memory. -/
  | AX_CAM_CBASE
  /-- R183: Master counts per table, 1 to 0xFFFF_FFFF. -/
  | AX_CSPAN
  /-- R187: Group enabled; attaches QUEUE. -/
  | G_CFG_EN
  /-- R187: Segment queue 0 to 63. -/
  | G_CFG_QUEUE
  /-- R187: FP32 path limit; a value that is not positive and finite leaves the register unchanged. -/
  | G_VPATH
  /-- R187: FP32 path limit; a value that is not positive and finite leaves the register unchanged. -/
  | G_APATH
  /-- R187: FP32 path limit; a value that is not positive and finite leaves the register unchanged. -/
  | G_JPATH
  /-- R187: FP32 path limit; a value that is not positive and finite leaves the register unchanged. -/
  | G_QAPATH
  /-- R187: FP32 path limit; a value that is not positive and finite leaves the register unchanged. -/
  | G_QJPATH
  /-- R187: FP32 path limit; a value that is not positive and finite leaves the register unchanged. -/
  | G_JVEL
  /-- R187: Start the path. -/
  | G_CMD_START
  /-- R187: Programmed stop along the path. -/
  | G_CMD_STOP
  /-- R187: Quick stop along the path. -/
  | G_CMD_QSTOP
  /-- R187: Stop and discard segments. -/
  | G_CMD_FLUSH
  /-- R187: 0b000 IDLE, 0b001 RUN, 0b010 STARVED, 0b011 STOPPING, 0b100 HALTED. -/
  | G_STAT_STATE
  /-- R187: A bad segment was consumed. -/
  | G_STAT_BADSEG
  /-- R187: START refused. -/
  | G_STAT_CMD_REJ
  /-- R187: ID of the segment being executed. -/
  | G_STAT_ID
  /-- R187: Segments completed, wrapping. -/
  | G_DONE
  /-- R187: Starvations, wrapping. -/
  | G_STARVE
  /-- R194: Outputs enabled. -/
  | PWM_CFG_EN
  /-- R194: High-side gates active low. -/
  | PWM_CFG_POLH
  /-- R194: Low-side gates active low. -/
  | PWM_CFG_POLL
  /-- R194: Update at apexes as well. -/
  | PWM_CFG_DUP
  /-- R194: Carrier period, 1 to 1,000 ticks. -/
  | PWM_CFG_PPER
  /-- R194: Valley tick offset, 0 to PPER − 1; used modulo PPER when it is larger (R396). -/
  | PWM_CFG_POFF
  /-- R194: Valley phase, 0 to 249. -/
  | PWM_CFG_PPH
  /-- R194: Dead time, 0 to 6,400 steps. -/
  | PWM_DT
  /-- R194: Trip latched. -/
  | PWM_TRIP_TRIPPED
  /-- R194: Filtered TRIPa asserted. -/
  | PWM_TRIP_LEVEL
  /-- R194: 1: TRIPa active high. -/
  | PWM_TRIP_TPOL
  /-- R194: A trip is an axis fault. -/
  | PWM_TRIP_TSTOP
  /-- R194: Filter, 0 to 8 cycles. -/
  | PWM_TRIP_TFILT
  /-- R194: Compare value in effect. -/
  | PWM_CMPU
  /-- R194: Compare value in effect. -/
  | PWM_CMPV
  /-- R194: Compare value in effect. -/
  | PWM_CMPW
  /-- R194: A stage value was clamped. -/
  | PWM_STAT_CLAMP
  /-- R194: Gates held off by the safety region. -/
  | PWM_STAT_STOP0
  /-- R201: Channel enabled. -/
  | ST_CFG_EN
  /-- R201: Microstep resolution, 0 to 8. -/
  | ST_CFG_MRES
  /-- R201: Phase B sense inverted. -/
  | ST_CFG_INV
  /-- R201: Blanking, (TBL + 1) × 250 ns. -/
  | ST_CFG_TBL
  /-- R201: Minimum decay, (TOFFM + 1) × 500 ns. -/
  | ST_CFG_TOFFM
  /-- R201: Time to hold current, 1 to 255 ms. -/
  | ST_CFG_THOLD
  /-- R201: Run maximum code. -/
  | ST_CUR_IMAX
  /-- R201: Run minimum code, at most IMAX. -/
  | ST_CUR_IMIN
  /-- R201: Hold code. -/
  | ST_CUR_IHOLD
  /-- R201: Load for IMAX. -/
  | ST_LOAD_LHI
  /-- R201: Load for IMIN. -/
  | ST_LOAD_LLO
  /-- R201: Latest load. -/
  | ST_LOAD_LOAD
  /-- R201: Current code in effect. -/
  | ST_LOAD_ICUR
  /-- R201: 1 to 0x0100_0000. -/
  | ST_SVMAX
  /-- R201: 1 to 0xFFFF_FFFF. -/
  | ST_SAMAX
  /-- R201: Target when the stage is not enabled. -/
  | ST_TGT
  /-- R201: Commanded position. -/
  | ST_POS
  /-- R201: HYST held at a limit. -/
  | ST_STAT_HLIM
  /-- R201: Profile in motion. -/
  | ST_STAT_MOVING
  /-- R201: ICUR = IHOLD. -/
  | ST_STAT_HOLD
  /-- R201: Held off by the safety region. -/
  | ST_STAT_STOP0
  /-- R201: Phase A hysteresis. -/
  | ST_STAT_HYSTA
  /-- R201: Phase B hysteresis. -/
  | ST_STAT_HYSTB
  /-- R201: Phase A on-to-off changes in the latest window. -/
  | ST_FCHOP_FA
  /-- R201: Phase B on-to-off changes in the latest window. -/
  | ST_FCHOP_FB
  /-- R214: Converter enabled. -/
  | SD_CFG_EN
  /-- R214: Low-power mode (R212). -/
  | SD_CFG_LP
  /-- R214: Sequence entries, minus 1. -/
  | SD_CFG_NENT
  /-- R214: Conversions abandoned; saturates. -/
  | SD_STAT_ABORT
  /-- R214: Suspended by a calibration. -/
  | SD_STAT_CALSUSP
  /-- R214: Urgent conversion running. -/
  | SD_STAT_URGACT
  /-- R214: Entry in progress. -/
  | SD_STAT_ENTRY
  /-- R214: Urgent OSR, 200 to 65,535. -/
  | SD_URG_OSR
  /-- R214: Trigger phase, 0 to 249. -/
  | SD_URG_SPHASE
  /-- R214: Urgent filter. -/
  | SD_URG_FILT
  /-- R214: Urgent gain code. -/
  | SD_URG_GAIN
  /-- R214: Urgent channel. -/
  | SD_URG_CH
  /-- R214: Tick trigger enabled. -/
  | SD_URG_TRIG
  /-- R214: Trigger period in ticks, minus 1. -/
  | SD_UTIME_PERIOD
  /-- R214: Tick offset, 0 to PERIOD. -/
  | SD_UTIME_TOFF
  /-- R214: Request; cleared when the request is accepted or refused. -/
  | SD_UCTL_REQ
  /-- R214: Urgent request in progress. -/
  | SD_UCTL_BUSY
  /-- R214: Notify a task. -/
  | SD_UCTL_NOTE
  /-- R214: Task to notify. -/
  | SD_UCTL_NTASK
  /-- R214: Flag to set. -/
  | SD_UCTL_NFLAG
  /-- R214: Requests refused; saturates. -/
  | SD_UCTL_REJ
  /-- R214: Latest urgent result. -/
  | SD_URES
  /-- R214: Its QUAL. -/
  | SD_UINFO_QUAL
  /-- R214: Urgent results, wrapping. -/
  | SD_UINFO_CNT
  /-- R214: OSR, 200 to 65,535. -/
  | SD_SEQ_OSR
  /-- R214: Results per pass, minus 1. -/
  | SD_SEQ_REP
  /-- R214: Filter (R205). -/
  | SD_SEQ_FILT
  /-- R214: Gain code, G = 2^GAIN. -/
  | SD_SEQ_GAIN
  /-- R214: Channel 0 to 3. -/
  | SD_SEQ_CH
  /-- R215: Open-wire currents on. -/
  | AIN_CFG_OWEN
  /-- R215: 0: 1 µA; 1: 10 µA. -/
  | AIN_CFG_OWI
  /-- R215: Token period in ticks, minus 1. -/
  | AIN_TIME_PERIOD
  /-- R215: Tick offset, 0 to PERIOD. -/
  | AIN_TIME_TOFF
  /-- R215: Launch tokens. -/
  | AIN_TOK_TEN
  /-- R215: Sample phase, 0 to 249. -/
  | AIN_TOK_SPHASE
  /-- R215: Token DEST (R22). -/
  | AIN_TOK_DEST
  /-- R215: Open-wire threshold, Q31. -/
  | AIN_OWTH
  /-- R215: Lower range limit, Q31. -/
  | AIN_RLO
  /-- R215: Upper range limit, Q31. -/
  | AIN_RHI
  /-- R215: Latest result. -/
  | AIN_RES
  /-- R215: QUAL of the latest result. -/
  | AIN_RINFO_QUAL
  /-- R215: Results, wrapping. -/
  | AIN_RINFO_CNT
  /-- R219: Command (R217). -/
  | CAL_CTL_CMD
  /-- R219: 0b00 AIN, 0b01 FAIN, 0b10 AOUT. -/
  | CAL_CTL_TGT
  /-- R219: Input or output number. -/
  | CAL_CTL_CH
  /-- R219: Gain code, for AIN. -/
  | CAL_CTL_GAIN
  /-- R219: Averaging, 2^NAVG results. -/
  | CAL_CTL_NAVG
  /-- R219: OSR for AIN calibration. -/
  | CAL_OSR
  /-- R219: Expected span value, Q31. -/
  | CAL_REF
  /-- R219: Current measured at OUTLO, nA. -/
  | CAL_MLO
  /-- R219: Current measured at OUTHI, nA. -/
  | CAL_MHI
  /-- R219: Command running. -/
  | CAL_STAT_BUSY
  /-- R219: Command ended. -/
  | CAL_STAT_DONE
  /-- R219: Calibration in progress. -/
  | CAL_STAT_ACTIVE
  /-- R219: Latest refusal (R217). -/
  | CAL_STAT_ERR
  /-- R219: Computed offset. -/
  | CAL_OFS
  /-- R219: Computed gain. -/
  | CAL_GAIN
  /-- R222: Pair enabled. -/
  | SAR_CFG_EN
  /-- R222: Own sample phase, 0 to 249. -/
  | SAR_CFG_SPHASE
  /-- R222: Own period in ticks, minus 1. -/
  | SAR_TIME_PERIOD
  /-- R222: Tick offset, 0 to PERIOD. -/
  | SAR_TIME_TOFF
  /-- R222: Subscribers enabled. -/
  | SAR_SEN
  /-- R222: DEST for input A. -/
  | SAR_SUB_DESTA
  /-- R222: DEST for input B. -/
  | SAR_SUB_DESTB
  /-- R222: Latest code of A. -/
  | SAR_RES_CODEA
  /-- R222: Latest code of B. -/
  | SAR_RES_CODEB
  /-- R222: Delayed conversions; saturates. -/
  | SAR_STAT_COLL
  /-- R222: B reached a code limit. -/
  | SAR_STAT_CLIPB
  /-- R222: A reached a code limit. -/
  | SAR_STAT_CLIPA
  /-- R228: Output enabled. -/
  | AOUT_CFG_EN
  /-- R228: Multidrop, parked at 4.0 mA. -/
  | AOUT_CFG_MDROP
  /-- R228: Drive the alarm level. -/
  | AOUT_CFG_AFORCE
  /-- R228: 0: alarm low (ALO); 1: alarm high (AHI). -/
  | AOUT_CFG_ADIR
  /-- R228: QUAL bits that select the alarm. -/
  | AOUT_CFG_AQMASK
  /-- R228: High alarm code. -/
  | AOUT_ALM_AHI
  /-- R228: Low alarm code. -/
  | AOUT_ALM_ALO
  /-- R228: Upper signal limit code. -/
  | AOUT_LIM_LHI
  /-- R228: Lower signal limit code, at most LHI. -/
  | AOUT_LIM_LLO
  /-- R228: Amplifier at its limit (R227). -/
  | AOUT_STAT_HEADROOM
  /-- R228: HEADROOM was set. -/
  | AOUT_STAT_HRSEEN
  /-- R228: A value was limited. -/
  | AOUT_STAT_CLAMP
  /-- R228: Alarm level in effect. -/
  | AOUT_STAT_ALARM
  /-- R228: Corrected code in effect; 0 while the gate is off (R224). -/
  | AOUT_STAT_CODE
  /-- R234: Modem enabled; attaches TXQ and RXQ. -/
  | FM_CFG_EN
  /-- R234: Output 8b + CHAN. -/
  | FM_CFG_CHAN
  /-- R234: Carrier threshold, 80 to 120 mV peak to peak. -/
  | FM_CFG_CDTH
  /-- R234: Transmit queue. -/
  | FM_CFG_TXQ
  /-- R234: Receive queue. -/
  | FM_CFG_RXQ
  /-- R234: Carrier detected. -/
  | FM_STAT_CD
  /-- R234: Transmitting. -/
  | FM_STAT_TX
  /-- R234: Change waiting (R233). -/
  | FM_STAT_CHPEND
  /-- R234: Parity errors; saturates. -/
  | FM_ERR_PERR
  /-- R234: Framing errors; saturates. -/
  | FM_ERR_FERR
  /-- R234: Bytes lost under R232, wrapping. -/
  | FM_LOST
  /-- R252: Link enabled. -/
  | OL_CFG_EN
  /-- R252: Send ALLSAFE. -/
  | OL_CFG_SAFE
  /-- R252: Link cycle, 5 to 1,000 ticks. -/
  | OL_CFG_CYC
  /-- R252: Tick offset, 0 to CYC − 1. -/
  | OL_CFG_COFF
  /-- R252: Station watchdog, 1 to 255. -/
  | OL_CFG_WD
  /-- R252: Transmit delay, 250 to 65,535 steps of 4 ns. -/
  | OL_TIME_TXD
  /-- R252: Declared round trip, steps of 4 ns. -/
  | OL_TIME_RTTMAX
  /-- R252: Stations with a block. -/
  | OL_SEL_PRESENT
  /-- R252: A commit was not applied (R237). -/
  | OL_SEL_REJ
  /-- R252: Stations whose blocks go to RXQ. -/
  | OL_SEL_RXSEL
  /-- R252: Receive queue. -/
  | OL_SEL_RXQ
  /-- R252: Receiver has symbol lock. -/
  | OL_STAT_LINKUP
  /-- R252: A frame returned after the completion instant. -/
  | OL_STAT_LATESEEN
  /-- R252: Measured RTT exceeded RTTMAX. -/
  | OL_STAT_RTTOVR
  /-- R252: A higher epoch was seen (R250). -/
  | OL_STAT_EPOCHHI
  /-- R252: Latest round trip, 0.25 ns. -/
  | OL_RTT
  /-- R252: Frames sent, wrapping. -/
  | OL_FRAMES
  /-- R252: Frames late or not returned, wrapping. -/
  | OL_LATE
  /-- R252: Packets rewound for want of room, wrapping. -/
  | OL_RXLOST
  /-- R252: Completion offset in effect, ns. -/
  | OL_CMPL
  /-- R253: Output area, 0 to 240 bytes. -/
  | STN_LEN_OLEN
  /-- R253: Input area, 0 to 240 bytes. -/
  | STN_LEN_ILEN
  /-- R253: Cycles with a block; the read captures as R251. -/
  | STN_CYCLES
  /-- R253: Blocks received, wrapping. -/
  | STN_IN_OK
  /-- R253: Blocks missed, wrapping. -/
  | STN_IN_MISS
  /-- R253: Outputs acknowledged, wrapping. -/
  | STN_OUT_ACK
  /-- R253: Outputs not acknowledged, wrapping. -/
  | STN_OUT_NACK
  /-- R253: Consecutive missed cycles; saturates. -/
  | STN_STAT_CONSEC
  /-- R253: STATUS of the latest received trailer. -/
  | STN_STAT_TSTAT
  /-- R253: Received in the latest cycle. -/
  | STN_STAT_REPLIED
  /-- R253: From the latest received trailer. -/
  | STN_EPOCH
  /-- R254: Map enabled. -/
  | MAP_CFG_EN
  /-- R254: Sign-extend a 1- or 2-byte field. -/
  | MAP_CFG_SGN
  /-- R254: 0b00 1 byte, 0b01 2, 0b10 4. -/
  | MAP_CFG_WIDTH
  /-- R254: Token TYPE, coded as TY of R42. -/
  | MAP_CFG_TY
  /-- R254: Station 0 to 7. -/
  | MAP_CFG_STATION
  /-- R254: First byte, 0 to 239. -/
  | MAP_CFG_OFFSET
  /-- R254: Token DEST (R22). -/
  | MAP_DEST
  /-- R263: Port enabled; attaches its queues. -/
  | ETH_CFG_EN
  /-- R263: Accept every frame. -/
  | ETH_CFG_PROMISC
  /-- R263: Time base for stamps and gates. -/
  | ETH_CFG_TBSEL
  /-- R263: Gate control on. -/
  | ETH_CFG_GEN
  /-- R263: SGMII link up. -/
  | ETH_CFG_LINKUP
  /-- R263: 0b00 10, 0b01 100, 0b10 1,000 Mbit/s. -/
  | ETH_CFG_SPEED
  /-- R263: Receive queue. -/
  | ETH_CFG_RXQ
  /-- R263: MACADDR bytes 2 to 5. -/
  | ETH_MACLO
  /-- R263: MACADDR bytes 0 and 1. -/
  | ETH_MACHI
  /-- R263: One byte per TQ, TQ0 to TQ3 then TQ4 to TQ7: [7] EN, [6] 0, [5:0] queue. -/
  | ETH_TQMAP0
  /-- R263: One byte per TQ, TQ0 to TQ3 then TQ4 to TQ7: [7] EN, [6] 0, [5:0] queue. -/
  | ETH_TQMAP1
  /-- R263: Transmit correction, signed ns. -/
  | ETH_LAT_TXLAT
  /-- R263: Receive correction, signed ns. -/
  | ETH_LAT_RXLAT
  /-- R263: An entry was read. -/
  | ETH_TSQ_ID_VALID
  /-- R263: Entries held before the read, 0 to 16. -/
  | ETH_TSQ_ID_LEVEL
  /-- R263: TSID of the entry; the read removes it. -/
  | ETH_TSQ_ID_TSID
  /-- R263: Nanoseconds. -/
  | ETH_TSQ_NS
  /-- R263: Seconds [31:0]. -/
  | ETH_TSQ_SLO
  /-- R263: Seconds [47:32]. -/
  | ETH_TSQ_SHI
  /-- R263: A stamp was discarded. -/
  | ETH_TSSTAT_TSOVF
  /-- R263: Stamps discarded, wrapping. -/
  | ETH_TSSTAT_TSLOST
  /-- R263: Frame counters of R256 and R257, wrapping. -/
  | ETH_TXOK
  /-- R263: Frame counters of R256 and R257, wrapping. -/
  | ETH_TXBAD
  /-- R263: Frame counters of R256 and R257, wrapping. -/
  | ETH_RXOK
  /-- R263: Frame counters of R256 and R257, wrapping. -/
  | ETH_RXERR
  /-- R263: Frame counters of R256 and R257, wrapping. -/
  | ETH_RXFILT
  /-- R263: Frame counters of R256 and R257, wrapping. -/
  | ETH_RXLOST
  /-- R263: Change lists (R262). -/
  | ETH_GCL_SWAP
  /-- R263: Change waiting. -/
  | ETH_GCL_PEND
  /-- R263: Bank in effect. -/
  | ETH_GCL_LSEL
  /-- R263: Bit t: a frame of TQt fits no window. -/
  | ETH_GCL_STUCK
  /-- R263: Entries of the bank for the next SWAP, minus 1. -/
  | ETH_GCL_NENT
  /-- R263: Cycle in effect, ns. -/
  | ETH_CYC
  /-- R263: Cycle for the next SWAP, 1,000 to 1,000,000,000 ns. -/
  | ETH_NCYC
  /-- R263: NBASE seconds [31:0]; seconds [63:32] are taken as those of the time base. -/
  | ETH_NBASE_S
  /-- R263: NBASE nanoseconds, 0 to 999,999,999. -/
  | ETH_NBASE_NS
  /-- R263: Gates open, bit t for TQt. -/
  | ETH_GCLE_GATES
  /-- R263: 1 to 16,777,215 ns. -/
  | ETH_GCLE_INTERVAL
  /-- R274: Controller enabled; attaches RXQ. -/
  | CAN_CFG_EN
  /-- R274: CAN FD frames allowed. -/
  | CAN_CFG_FDEN
  /-- R274: Bit-rate switching allowed. -/
  | CAN_CFG_BRSEN
  /-- R274: One attempt per request. -/
  | CAN_CFG_ONESHOT
  /-- R274: Listen-only. -/
  | CAN_CFG_LISTEN
  /-- R274: Internal loop-back. -/
  | CAN_CFG_LOOPB
  /-- R274: Time-triggered schedule. -/
  | CAN_CFG_TTEN
  /-- R274: Time master. -/
  | CAN_CFG_TTMASTER
  /-- R274: Time base for stamps. -/
  | CAN_CFG_TBSEL
  /-- R274: A commit was not applied (R265). -/
  | CAN_CFG_REJ
  /-- R274: Receive queue. -/
  | CAN_CFG_RXQ
  /-- R274: Prescaler, minus 1: 1 to 32. -/
  | CAN_NBT_NBRP
  /-- R274: Minus 1: 2 to 256. -/
  | CAN_NBT_NTSEG1
  /-- R274: Minus 1: 2 to 128. -/
  | CAN_NBT_NTSEG2
  /-- R274: Minus 1: 1 to 128. -/
  | CAN_NBT_NSJW
  /-- R274: Minus 1: 1 to 32. -/
  | CAN_DBT_DBRP
  /-- R274: Minus 1: 1 to 32. -/
  | CAN_DBT_DTSEG1
  /-- R274: Minus 1: 1 to 16. -/
  | CAN_DBT_DTSEG2
  /-- R274: Minus 1: 1 to 16. -/
  | CAN_DBT_DSJW
  /-- R274: Delay compensation on. -/
  | CAN_DBT_TDCEN
  /-- R274: Offset, CAN_CLK cycles. -/
  | CAN_DBT_TDCO
  /-- R274: 0b00 active, 0b01 passive, 0b10 bus-off. -/
  | CAN_ERR_STATE
  /-- R274: Start bus-off recovery. -/
  | CAN_ERR_RECOV
  /-- R274: Secondary sample point out of range. -/
  | CAN_ERR_TDCFAIL
  /-- R274: Last error: 0b001 stuff, 0b010 form, 0b011 ACK, 0b100 bit 1, 0b101 bit 0, 0b110 CRC. -/
  | CAN_ERR_LEC
  /-- R274: Transmit error counter. -/
  | CAN_ERR_TEC
  /-- R274: Receive error counter. -/
  | CAN_ERR_REC
  /-- R274: Latest measured delay, CAN_CLK cycles. -/
  | CAN_ERR_TDCV
  /-- R274: Bit n requests TXBn. -/
  | CAN_TXREQ
  /-- R274: Bit n cancels TXBn; cleared when handled. -/
  | CAN_TXCAN
  /-- R274: TXBn sent. -/
  | CAN_TXOK
  /-- R274: TXBn not sent. -/
  | CAN_TXFAIL
  /-- R274: TXBn sent despite cancel. -/
  | CAN_TXSDC
  /-- R274: Frame counters of R271, wrapping. -/
  | CAN_RXOK
  /-- R274: Frame counters of R271, wrapping. -/
  | CAN_RXFILT
  /-- R274: Frame counters of R271, wrapping. -/
  | CAN_RXLOST
  /-- R274: Notify at each transmit completion. -/
  | CAN_NOTE_NOTE
  /-- R274: Task to notify. -/
  | CAN_NOTE_TASK
  /-- R274: Flag to set. -/
  | CAN_NOTE_FLAG
  /-- R274: Filter enabled. -/
  | CAN_FID_EN
  /-- R274: Extended identifier. -/
  | CAN_FID_XTD
  /-- R274: Identifier. -/
  | CAN_FID_FID
  /-- R274: Mask, 1 compares. -/
  | CAN_FMSK
  /-- R274: Basic cycle, 1 to 65,535 ticks. -/
  | CAN_TT_BCYC
  /-- R274: Basic cycles, minus 1. -/
  | CAN_TT_NCYC
  /-- R274: Reference buffer. -/
  | CAN_TT_REFBUF
  /-- R274: Slave synchronised. -/
  | CAN_TTSTAT_SYNC
  /-- R274: Reference missed. -/
  | CAN_TTSTAT_MISSREF
  /-- R274: Basic cycle b. -/
  | CAN_TTSTAT_CYCLE
  /-- R274: COLOFS of column 2i + 1. -/
  | CAN_COL_OFSH
  /-- R274: COLOFS of column 2i. -/
  | CAN_COL_OFSL
  /-- R280: Link trained. -/
  | PCIE_STAT_LINKUP
  /-- R280: PCIE_CLKSEL as sampled. -/
  | PCIE_STAT_CLKSEL
  /-- R280: Generation, 1 to 3. -/
  | PCIE_STAT_GEN
  /-- R280: Lanes, 1, 2 or 4. -/
  | PCIE_STAT_WIDTH
  /-- R280: Aperture base bits [39:24]. -/
  | PCIE_AP
  /-- R280: BAR2 base bits [39:30]. -/
  | PCIE_B2
  /-- R280: Queue enabled; ignored if QUEUE is in packet mode. -/
  | HQ_CFG_EN
  /-- R280: 0 device to host, 1 host to device. -/
  | HQ_CFG_DIR
  /-- R280: HOST write ignored. -/
  | HQ_CFG_HOSTERR
  /-- R280: Ring of 2^RSZ items, 4 to 16. -/
  | HQ_CFG_RSZ
  /-- R280: Hardware queue. -/
  | HQ_CFG_QUEUE
  /-- R280: Host address [31:0], a multiple of 8. -/
  | HQ_RING_LO
  /-- R280: Host address [63:32]. -/
  | HQ_RING_HI
  /-- R280: Host count. -/
  | HQ_HOST
  /-- R280: Device count. -/
  | HQ_DEV
  /-- R283: Start; cleared when the operation starts or is refused. -/
  | XSPI_CTL_GO
  /-- R283: Operation (R282). -/
  | XSPI_CTL_OP
  /-- R283: Bytes, minus 1. -/
  | XSPI_CTL_LEN
  /-- R283: Flash byte address. -/
  | XSPI_ADDR
  /-- R283: Buffer address [31:0]; [39:32] in bits [7:0] of BUF_HI, other bits 0. -/
  | XSPI_BUF_LO
  /-- R283: Buffer address [31:0]; [39:32] in bits [7:0] of BUF_HI, other bits 0. -/
  | XSPI_BUF_HI
  /-- R283: Operation running. -/
  | XSPI_STAT_BUSY
  /-- R283: Operation ended. -/
  | XSPI_STAT_DONE
  /-- R283: Latest refusal or error. -/
  | XSPI_STAT_ERR
  /-- R290: Nanoseconds; the read captures as R287. -/
  | TB_NS
  /-- R290: Fraction, 2^−16 ns. -/
  | TB_FRAC
  /-- R290: Seconds [31:0], [63:32]. -/
  | TB_SEC_LO
  /-- R290: Seconds [31:0], [63:32]. -/
  | TB_SEC_HI
  /-- R290: Rate, 2^−32 ns per cycle (R285). -/
  | TB_RATE
  /-- R290: Nanoseconds for SET or STEP. -/
  | TB_NEW_NS
  /-- R290: Seconds [31:0], [63:32] for SET or STEP. -/
  | TB_NEW_SLO
  /-- R290: Seconds [31:0], [63:32] for SET or STEP. -/
  | TB_NEW_SHI
  /-- R290: Set; cleared when done. -/
  | TB_CTL_SET
  /-- R290: Step; cleared when done. -/
  | TB_CTL_STEP
  /-- R290: A SET or STEP was ignored. -/
  | TB_CTL_REJ
  /-- R290: Snapshot all time bases. -/
  | TIME_SNAP
  /-- R290: Snapshot of TBk, laid out as TBk_NS, SEC_LO, SEC_HI and FRAC. -/
  | SN_NS
  /-- R290: Snapshot of TBk, laid out as TBk_NS, SEC_LO, SEC_HI and FRAC. -/
  | SN_SEC_LO
  /-- R290: Snapshot of TBk, laid out as TBk_NS, SEC_LO, SEC_HI and FRAC. -/
  | SN_SEC_HI
  /-- R290: Snapshot of TBk, laid out as TBk_NS, SEC_LO, SEC_HI and FRAC. -/
  | SN_FRAC
  /-- R302: Unit enabled. -/
  | DC_CFG_EN
  /-- R302: 0b00 RING, 0b01 SEG, 0b10 CONT. -/
  | DC_CFG_MODE
  /-- R302: Follow and drive the nets. -/
  | DC_CFG_LINK
  /-- R302: Drive the ARM net. -/
  | DC_CFG_MASTER
  /-- R302: Fire on Sediment log records. -/
  | DC_CFG_SEDEN
  /-- R302: Lowest SEV that fires. -/
  | DC_CFG_FSEV
  /-- R302: Segments, minus 1. -/
  | DC_CFG_NSEG
  /-- R302: Area base in 4 KiB blocks; BASE + SIZE ≤ 2,047. -/
  | DC_MEM_BASE
  /-- R302: Area in 4 KiB blocks, minus 1. -/
  | DC_MEM_SIZE
  /-- R302: Records after a fire. -/
  | DC_POST
  /-- R302: Arm. -/
  | DC_CTL_ARM
  /-- R302: Fire. -/
  | DC_CTL_FIRE
  /-- R302: Stop. -/
  | DC_CTL_STOP
  /-- R302: 0b000 IDLE, 0b001 ARMED, 0b010 POST, 0b011 DONE, 0b100 CONT. -/
  | DC_STAT_STATE
  /-- R302: ARM refused. -/
  | DC_STAT_REJ
  /-- R302: A copy was lost. -/
  | DC_STAT_OVF
  /-- R302: Segment in use. -/
  | DC_STAT_SEG
  /-- R302: Index of the next record. -/
  | DC_WPTR
  /-- R302: Counts of R301, wrapping. -/
  | DC_SEEN
  /-- R302: Counts of R301, wrapping. -/
  | DC_REC
  /-- R302: Counts of R301, wrapping. -/
  | DC_SKIP
  /-- R302: Counts of R301, wrapping. -/
  | DC_LOST
  /-- R302: Counts of R301, wrapping. -/
  | DC_IDLE
  /-- R302: Counts of R301, wrapping. -/
  | DC_DISC
  /-- R302: Tap enabled. -/
  | TAP_CFG_EN
  /-- R302: Tap may fire. -/
  | TAP_CFG_TRIG
  /-- R302: Condition (R297). -/
  | TAP_CFG_TMODE
  /-- R302: 0 token tap, 1 event tap. -/
  | TAP_CFG_EVT
  /-- R302: DEST, or event code. -/
  | TAP_CFG_KEY
  /-- R302: Dead band. -/
  | TAP_DB
  /-- R302: Trigger level or mask. -/
  | TAP_LEVEL
  /-- R302: Ticks between KEEP records; 0 never. -/
  | TAP_KEEP
  /-- R303: Stream enabled. -/
  | DCS_CFG_EN
  /-- R303: 0 host, 1 LPDDR4X. -/
  | DCS_CFG_DST
  /-- R303: HOST write ignored. -/
  | DCS_CFG_HOSTERR
  /-- R303: Ring of 2^RSZ blocks, 1 to 18. -/
  | DCS_CFG_RSZ
  /-- R303: Flush time, 1 to 65,535 ticks. -/
  | DCS_CFG_FLUSH
  /-- R303: Ring address [31:0], [63:32]; a multiple of 4,096. -/
  | DCS_RING_LO
  /-- R303: Ring address [31:0], [63:32]; a multiple of 4,096. -/
  | DCS_RING_HI
  /-- R303: Blocks freed. -/
  | DCS_HOST
  /-- R303: Blocks written. -/
  | DCS_DEV
  /-- R312: Freeze the log. -/
  | SED_CTL_FREEZE
  /-- R312: Flood threshold, 16 to 255. -/
  | SED_CTL_FLOODN
  /-- R312: Start-up scan complete. -/
  | SED_STAT_READY
  /-- R312: Index 4,095 written. -/
  | SED_STAT_FULL
  /-- R312: Only FATAL records are written. -/
  | SED_STAT_RESERVE
  /-- R312: Flood in progress. -/
  | SED_STAT_FLOOD
  /-- R312: No MRAM writes are made. -/
  | SED_STAT_FRZ
  /-- R312: A freeze timed out. -/
  | SED_STAT_FRZTO
  /-- R312: Records in the area, 0 to 4,096. -/
  | SED_STAT_USED
  /-- R312: SEQ of the next record; 0 once SEQ is exhausted (R403). -/
  | SED_NEXT
  /-- R312: Counters of R311, wrapping. -/
  | SED_EVT
  /-- R312: Counters of R311, wrapping. -/
  | SED_NEW
  /-- R312: Counters of R311, wrapping. -/
  | SED_RPT
  /-- R312: Counters of R311, wrapping. -/
  | SED_FLD
  /-- R312: Counters of R311, wrapping. -/
  | SED_FULLD
  /-- R312: Counters of R311, wrapping. -/
  | SED_FRZL
  /-- R312: Events waiting, 0 to 64. -/
  | SED_HELD
  /-- R319: The mirror is complete. -/
  | SPARE_MIRROK
  /-- R319: C5 serves the slots of FROM. -/
  | SPARE_SUBST
  /-- R319: Move slots back (R318); cleared when done. -/
  | SPARE_RESTORE
  /-- R319: Self-test and re-admit CELL; service port only. -/
  | SPARE_READMIT
  /-- R319: 0x00 none, 0x01 pass, 0x02 data memory failed, 0x03 instruction memory or data path failed, 0x04 refused: CELL not retired, or RESTORE without a passed READMIT. -/
  | SPARE_RESULT
  /-- R319: Cell whose slots C5 serves. -/
  | SPARE_FROM
  /-- R319: Cell 0 to 5, or 6 for the block. -/
  | SPARE_CELL
  /-- R319: Image address bits [23:15] in the shared program SRAM. -/
  | C_IMG
  /-- R321: Events lost to a full hold under R321; saturates. -/
  | ERR_HOLD_EVLOST
  /-- R321: Events held, 0 to 64. -/
  | ERR_HOLD_HELD
  /-- R335: Pairing enabled. -/
  | PAIR_CTL_EN
  /-- R335: Preferred device. -/
  | PAIR_CTL_PREF
  /-- R335: 0 REVERT, 1 HOLD. -/
  | PAIR_CTL_RMODE
  /-- R335: Resign when ACTIVE. -/
  | PAIR_CTL_RESIGN
  /-- R335: Self-test and leave FAILED; service port only. -/
  | PAIR_CTL_READMIT
  /-- R335: Major cycle, 250 to 10,000 ticks. -/
  | PAIR_CTL_MAJOR
  /-- R335: 0b000 ALONE, 0b001 ACTIVE, 0b010 STANDBY, 0b011 SYNCING, 0b100 FAILED. -/
  | PAIR_STAT_ROLE
  /-- R335: Pair link up. -/
  | PAIR_STAT_LINKUP
  /-- R335: No heartbeat missed since the last one received. -/
  | PAIR_STAT_HBOK
  /-- R335: Partner has the same PREF. -/
  | PAIR_STAT_PAIRERR
  /-- R335: Clean checkpoints in a row, saturating at 10. -/
  | PAIR_STAT_CLEAN
  /-- R335: Latest role change: 0x01 heartbeats, 0x02 resign, 0x03 REVERT, 0x04 higher epoch, 0x05 device fault, 0x06 PFAIL_N, 0x07 start-up. -/
  | PAIR_STAT_CAUSE
  /-- R335: READMIT result: 0x01 pass, 0x02 fail. -/
  | PAIR_STAT_TEST
  /-- R335: Control epoch. -/
  | PAIR_EPOCH
  /-- R335: Checkpoint counts, wrapping. -/
  | CP_BEGUN
  /-- R335: Checkpoint counts, wrapping. -/
  | CP_COMMIT
  /-- R335: Checkpoint counts, wrapping. -/
  | CP_ABORT
  /-- R335: A checkpoint is in progress. -/
  | CP_STAT_INPROG
  /-- R335: Full stream in progress. -/
  | CP_STAT_FULL
  /-- R335: Dirty data of the latest checkpoint, KiB. -/
  | CP_STAT_DIRTY
  /-- R335: Tick bits [31:0] of the latest committed boundary. -/
  | CP_TICK
  /-- R335: Address bits [39:8]. -/
  | AREA_BASE
  /-- R335: Area declared. -/
  | AREA_LEN_EN
  /-- R335: 0 slot owner, 1 task owner. -/
  | AREA_LEN_OKIND
  /-- R335: Global slot, or task 0 to 63. -/
  | AREA_LEN_OWNER
  /-- R335: Length in 64-byte lines. -/
  | AREA_LEN_LEN
  /-- R337: WARM reset. -/
  | RST_CTL_WARM
  /-- R337: 0x5A enables the write. -/
  | RST_CTL_KEY
  /-- R337: [3] SAFE, [2] FIELD, [1] PROG, [0] LOOP. -/
  | RST_CTL_REGION
  /-- R337: Latest reset, coded as DATA of log CODE 0x40; written at the end of every reset. -/
  | RST_CAUSE
  /-- R337: Enter QUIESCE. -/
  | PWR_CTL_QUIESCE
  /-- R337: Leave QUIESCE. -/
  | PWR_CTL_RUN
  /-- R337: Enter DEEP. -/
  | PWR_CTL_DEEP
  /-- R337: 0b00 RUN, 0b01 QUIESCE, 0b10 STANDBY. -/
  | PWR_CTL_STATE
  /-- R357: 0b000 INIT, 0b001 RUN, 0b010 LOCKOUT. -/
  | SAFE_STAT_STATE
  /-- R357: Core disagreement (R344). -/
  | SAFE_STAT_CORE
  /-- R357: Clock monitor fault. -/
  | SAFE_STAT_CLK
  /-- R357: Uncorrectable safety memory error. -/
  | SAFE_STAT_MEM
  /-- R357: Refusal under R347 or R358. -/
  | SAFE_STAT_PSERR
  /-- R357: Image slot in effect: 0 A, 1 B. -/
  | SAFE_STAT_SLOT
  /-- R357: CRC-32 of the parameter set in effect. -/
  | SAFE_PSID
  /-- R357: Accepted level of SINn. -/
  | SAFE_IN
  /-- R357: Test-pulse fault of SINn. -/
  | SAFE_TPF
  /-- R357: SOUTm commanded on. -/
  | SAFE_OUT_ON
  /-- R357: Level of SFBm. -/
  | SAFE_OUT_FB
  /-- R357: Output fault of SOUTm. -/
  | SAFE_OUT_OFLT
  /-- R357: Axes held by STOP 0. -/
  | SAFE_S0
  /-- R357: Axes in STOP 1. -/
  | SAFE_S1
  /-- R357: Steppers held by STOP 0. -/
  | SAFE_ST
  /-- R357: 0b000 OFF, 0b001 RUN, 0b010 STOPPING, 0b011 TRIPPED, 0b100 WAIT_RESET, 0b101 FAULT. -/
  | FN_STAT_STATE
  /-- R357: Discrepancy caused the latest FAULT. -/
  | FN_STAT_DISCF
  /-- R357: Test-pulse fault caused the latest FAULT. -/
  | FN_STAT_TPF
  /-- R357: Output fault caused the latest FAULT. -/
  | FN_STAT_OUTF
  /-- R357: Demands and faults; saturates. -/
  | FN_STAT_TRIPS
  /-- R363: Spread of the spreadable domains (R361). -/
  | CLK_CTL
  /-- R363: Root PLL locked. -/
  | CLK_STAT_PLLLOCK
  /-- R363: Reference present. -/
  | CLK_STAT_REFOK
  /-- R363: Spread in effect. -/
  | CLK_STAT_SSC_ACT
  /-- R363: TMUX0 to TMUX7. -/
  | SLEW_TMUX
  /-- R363: Service port and TDO. -/
  | SLEW_SVC
  /-- R363: xSPI. -/
  | SLEW_XSPI
  /-- R363: CANc_TX. -/
  | SLEW_CAN
  /-- R363: ENCn_MA, PLSk_A, PLSk_B. -/
  | SLEW_ENC
  /-- R363: Stepper pins. -/
  | SLEW_STP
  /-- R363: PWM gates. -/
  | SLEW_PWM
  /-- R363: PAIR_HB_OUT, PERST_N-independent outputs, xSPI reset. -/
  | SLEW_MISC
  /-- R363: TJ reached WLIM. -/
  | TEMP_TWARN
  /-- R363: Warning limit, 0 to 120 °C. -/
  | TEMP_WLIM
  /-- R363: Hottest sensor of both dies, signed, 1/16 °C. -/
  | TEMP_TJ
  /-- R390: Entry active; service session only. -/
  | FORCE_CTL_EN
  /-- R390: DEST to force. -/
  | FORCE_CTL_KEY
  /-- R390: Value given to the forced tokens. -/
  | FORCE_VAL
  /-- R390: QUAL that the producer gave the latest token replaced. -/
  | FORCE_QUAL
  /-- R390: Tokens replaced, wrapping. -/
  | FORCE_HITS
  /-- R392: Region r in bits [6r+5:6r]: [1:0] slot loaded, 0b00 A, 0b01 B, 0b11 none; [2] preferred slot failed; [5:3] failure of the latest failed slot: 0b001 magic or region, 0b010 digest, 0b011 signature, 0b100 version, 0b101 flash read. -/
  | BOOT_STAT
  /-- R392: A session is open. -/
  | SVC_STAT_OPEN
  /-- R392: Port closed after a wrong signature. -/
  | SVC_STAT_LOCKED
  /-- R392: A fuse write failed. -/
  | SVC_STAT_RFAIL
  /-- R392: Blown anti-rollback fuses of the region selected by the latest ROLLFWD. -/
  | SVC_STAT_ARB
  /-- R392: Release the loop region from its boot hold (R384); cleared when done. -/
  | BOOT_CTL_LOOP_GO
  /-- R392: The loop region is loaded and waits for LOOP_GO. -/
  | BOOT_CTL_LOOP_HELD
  /-- R34: Commit the region shadows (R7). -/
  | CFG_COMMIT_GO
  /-- R34: A committed snapshot waits for its tick. -/
  | CFG_COMMIT_PENDING
  /-- R34: Tokens absorbed under R19, wrapping. -/
  | TOKEN_STAT_ABSORBED
  /-- R34: Tokens absorbed under R23, wrapping. -/
  | TOKEN_STAT_MISROUTED
  /-- Time base k (R284), in units of 2^-32 ns. -/
  | x_TBV
  /-- Region held in reset; instance = region code 0 loop, 1 program, 2 field, 3 safety, 4 chip-level units (R337, R384). -/
  | x_HELD
  /-- TIME_CLK cycles elapsed, the model clock of steps on an empty queue. -/
  | x_CYC
  /-- The bank ACT of the cell executes (R39). -/
  | x_RUNB
  /-- An enable check has passed and EN does not read 1 yet (R400). -/
  | x_SLOT_PASS
  /-- Tick in which the latest check of the slot passed. -/
  | x_SLOT_PTICK
  /-- A swap check has passed and waits for its tick (R75). -/
  | x_SLOT_SWAP
  /-- First tick at which the slot counts as enabled (R73, R401). -/
  | x_SLOT_FIRST
  /-- Tick in which the waiting REQ_DIS was written, or from which a held one may act (R74). -/
  | x_SLOT_DTICK
  /-- Number plus 1 of the latest firing whose output instant was carried out. -/
  | x_SLOT_OUTD
  /-- Number plus 1 of the latest firing whose cut-off was judged. -/
  | x_SLOT_MISSD
  /-- The block has taken a DPOL STOP that waits for its tick (R94). -/
  | x_BLK_STOP
  /-- Tick in which the block took the STOP. -/
  | x_BLK_STICK
  /-- Last value of operand k of slot g, instance 8 g + k (R80). -/
  | x_LASTV
  /-- Last QUAL of operand k of slot g, instance 8 g + k (R80). -/
  | x_LASTQ
  /-- Stage number plus 1 whose VAL the HANDOVER firing of the slot receives (R99). -/
  | x_HO_STG
  /-- Switch tick of that change of owner (R93). -/
  | x_HO_TICK
  /-- Hand-over step next due at the stage: 0 none, 1 HLIM, 2 HRATE (R100). -/
  | x_OS_STEP
  /-- Switch tick of the latest change of owner of the stage (R93). -/
  | x_OS_SWT
  /-- The device is in DEEP (R338). -/
  | x_DEEP
  /-- ENTRY that a passed swap will give (R75). -/
  | x_SWAP_E
  /-- WCET that a passed swap will give. -/
  | x_SWAP_W
  /-- LONG that a passed swap will give. -/
  | x_SWAP_L
  /-- The program-region stop is signalled to the loop region (R95). -/
  | x_LSPSIG
  /-- Substitution in progress: C5 of the block has not started dispatching (R317). -/
  | x_SUB_WIN
  /-- RESTORE has copied and writes of C5 go through to the cell (R318). -/
  | x_RST_COPY
  /-- RESTORE has switched: firings load on the re-admitted cell (R318). -/
  | x_RST_SW
  /-- Tick in which the copy of RESTORE was complete. -/
  | x_RST_TICK
  /-- Number plus 1 of the task that RUNS on the core; 0 none (R118). -/
  | x_RUNT
  /-- Tick at which the delay or timeout of the task expires (R122). -/
  | x_WAKE
  /-- The wait of the task has a timeout. -/
  | x_TIMED
  /-- Start tick of the timer instance (R125). -/
  | x_TIMST
  /-- The notification of the running instance has been given (R126). -/
  | x_TIMNT
  /-- Tick of the cycle in which the program region stopped (R146). -/
  | x_STOPT
  /-- Tick of the latest cycle start of the task (R136). -/
  | x_CYCST
  /-- Number plus 1 of the latest cycle-start tick handled for the task. -/
  | x_CYCD
  /-- Direction of the attachment of the queue: 1 source, 2 sink (R128). -/
  | x_QDIR
  /-- Tick in which the change-record check was requested. -/
  | x_CHGAT
  /-- Role of the partner as last seen on the pair link: 0 none or ALONE, else as PAIR_STAT.ROLE. -/
  | x_PARTNER
  /-- Epoch last received from the partner (R323). -/
  | x_PEPOCH
  /-- Completed link cycles in which the station was received with a good CRC, instance 8 k + s (R141, R247). -/
  | x_STNRX
  /-- Entries of the change record that passed its check. -/
  | x_CHGCNT
  /-- last_t of the speed estimator, ns (R166). -/
  | x_E_LT
  /-- last_c of the speed estimator (R166). -/
  | x_E_LC
  /-- ref_t of the speed estimator, ns (R166). -/
  | x_E_RT
  /-- ref_c of the speed estimator (R166). -/
  | x_E_RC
  /-- v_meas of the speed estimator, binary64 (R166). -/
  | x_E_VM
  /-- first of the speed estimator (R166). -/
  | x_E_FIRST
  /-- pending of the speed estimator (R166). -/
  | x_E_PENDG
  /-- Number plus 1 of the latest sample tick handled. -/
  | x_E_DONE
  /-- An illegal transition waits for the next tokens (R158). -/
  | x_E_ILLP
  /-- Number plus 1 of the sample tick whose serial frame runs (R162, R163); 0 none. -/
  | x_E_FRM
  /-- Sample instant of that frame, ns. -/
  | x_E_FRT
  /-- End of TPAUSE after the latest frame, ns. -/
  | x_E_PAUSE
  /-- Position of the latest good frame (R164). -/
  | x_E_POS
  /-- A good frame has been received in the mode (R164). -/
  | x_E_GOOD
  /-- Sample instant of the latest good frame, ns (R167). -/
  | x_E_GT
  /-- Instant of the latest change of COUNT in a serial mode, ns (R167). -/
  | x_E_CHT
  /-- Last fresh position value (R25). -/
  | x_E_LASTP
  /-- Count of latch FIFO entry j of cell e, instance 4 e + j (R169). -/
  | x_LQ_CNT
  /-- Time stamp of latch FIFO entry j of cell e: tick x 256 + phase (R169). -/
  | x_LQ_TIME
  /-- Quadrature state of the pulse pins, in the sequence of R158 (R172). -/
  | x_P_ST
  /-- Direction level of PLSk_B in step mode (R172). -/
  | x_P_DIR
  /-- Instant at which that level was set, ns. -/
  | x_P_DIRT
  /-- Earliest instant of the next emission under the spacing rules, ns (R172). -/
  | x_P_NEXT
  /-- QUAL of the tokens of the latest sample of the cell (R181). -/
  | x_E_LQ
  /-- Target latched by GO (R177). -/
  | x_AX_TGT
  /-- Rank of the stop in progress, 1 to 5; 0 none (R179). -/
  | x_AX_RANK
  /-- Cause that the stop in progress leaves. -/
  | x_AX_RCAUSE
  /-- Rank of the stop request that waits for its tick; 0 none. -/
  | x_AX_REQ
  /-- Cause of that request. -/
  | x_AX_QCAUSE
  /-- Tick in which the waiting move or stop request arrived. -/
  | x_AX_RTICK
  /-- Rest reported to the safety region (R353). -/
  | x_AX_REST
  /-- Safety STOP 1 asserted (R179). -/
  | x_AX_STOP1
  /-- Safety STOP 0 asserted (R352). -/
  | x_AX_STOP0
  /-- Number plus 1 of the latest sample tick handled. -/
  | x_AX_DONE
  /-- Gear or cam engaged (R188). -/
  | x_AX_ENG
  /-- Master position at engagement (R188). -/
  | x_AX_M0
  /-- Set-point at engagement (R188). -/
  | x_AX_P0
  /-- Cam result at engagement, in 1/65536 counts (R189). -/
  | x_AX_R0
  /-- Rank of the group stop request that waits for its tick; 0 none. -/
  | x_G_REQ
  /-- Cause of that request. -/
  | x_G_QCAUSE
  /-- Tick in which it arrived. -/
  | x_G_RTICK
  /-- Rank of the group stop in progress. -/
  | x_G_RANK
  /-- Cause that it leaves. -/
  | x_G_RCAUSE
  /-- The gates of the axis are active (R192). -/
  | x_PWM_ACT
  /-- Instant at which the last hold cause ended, ns (R192). -/
  | x_PWM_ENDT
  /-- Instant plus 1 of the latest turning point handled, ns (R191). -/
  | x_PWM_TURN
  /-- Stage value last converted, instance 3 a + phase (R190). -/
  | x_PWM_SRC
  /-- Instant at which the stage last wrote a value, ns (R91, R191). -/
  | x_OS_WAT
  /-- Target of the profile in effect (R196). -/
  | x_ST_PT
  /-- Square of the speed of the profile, in (1/256 step/s)^2 (R196). -/
  | x_ST_W
  /-- Direction of motion of the profile (R196). -/
  | x_ST_DOWN
  /-- Tick in which STn_TGT was last written. -/
  | x_ST_TWT
  /-- Instant at which the profile came to rest, ns (R199). -/
  | x_ST_RESTT
  /-- The phase is on, instance 2 n + phase (R197). -/
  | x_ST_ON
  /-- Instant at which the phase last changed, ns (R197). -/
  | x_ST_PHT
  /-- On-to-off changes of the phase in the window (R198). -/
  | x_ST_CHOPS
  /-- On-time of the phase in the window, ns (R199). -/
  | x_ST_ONSUM
  /-- The phase was on in the window (R198). -/
  | x_ST_WASON
  /-- Start instant of the window, ns (R198). -/
  | x_ST_WIN
  /-- Encoder cell retired (R313). -/
  | x_RET_E
  /-- Axis cell retired (R313). -/
  | x_RET_AX
  /-- Analogue input retired; instance n for AINn, 64 + n for FAINn (R305, R313). -/
  | x_RET_AIN
  /-- Loop output retired (R313). -/
  | x_RET_AO
  /-- PWM block retired (R313). -/
  | x_RET_PWM
  /-- Stepper block retired (R313). -/
  | x_RET_STP
  /-- Link block retired (R313). -/
  | x_RET_LNK
  /-- A conversion of the sequence is in progress (R205). -/
  | x_SD_RUN
  /-- Start of that conversion, ns (R205). -/
  | x_SD_T0
  /-- Results of the present entry delivered (R205). -/
  | x_SD_R
  /-- Settings of the preceding conversion plus 1; 0 none precedes (R206). -/
  | x_SD_KEY
  /-- Results that still carry SETTLING (R206). -/
  | x_SD_SET
  /-- Start of the urgent conversion, ns (R208). -/
  | x_SD_UT0
  /-- Settings of the urgent conversion (R208). -/
  | x_SD_UCFG
  /-- A committed change waits for the urgent conversion to end (R207). -/
  | x_SD_RST
  /-- Number plus 1 of the latest trigger tick handled (R208). -/
  | x_SD_TDONE
  /-- Instant plus 1 at which the latest result ended, ns (R213). -/
  | x_AIN_T
  /-- Instant plus 1 of the previous token, ns (R213). -/
  | x_AIN_PT
  /-- Number plus 1 of the latest token tick handled (R213). -/
  | x_AIN_DONE
  /-- Instant plus 1 of the latest sample instant handled, instance 4 p + k, ns (R221). -/
  | x_SAR_DONE
  /-- End of the latest conversion started, ns (R221). -/
  | x_SAR_END
  /-- Calibration step: 0 none, 1 ZERO, 2 SPAN, 3 OUTLO, 4 OUTHI, 5 SPAN of an output (R217). -/
  | x_CAL_STEP
  /-- Command that runs (R217). -/
  | x_CAL_CMD
  /-- Target kind of the calibration in progress. -/
  | x_CAL_TGT
  /-- Its input or output number. -/
  | x_CAL_CH
  /-- Its gain code. -/
  | x_CAL_GAIN
  /-- Commit tick instant plus 1 of the latest change of the output (R225). -/
  | x_AO_CMT
  /-- A write that changes the code waits (R225). -/
  | x_AO_WR
  /-- Start of the burst, ns (R231). -/
  | x_FM_T0
  /-- End of the latest burst plus 1, ns (R231). -/
  | x_FM_END
  /-- EN that waits (R233). -/
  | x_FM_NEN
  /-- CHAN that waits (R233). -/
  | x_FM_NCH
  /-- CD has cleared and held bytes wait for a place before the commit (R232). -/
  | x_FM_CMTP
  /-- Number plus 1 of the latest cycle start handled (R236). -/
  | x_OL_DONE
  /-- Progress of the link cycle: 0 none, 1 started, 2 snapshot taken, 3 frame sent, 4 completed (R236). -/
  | x_OL_PH
  /-- Tick at which the waiting configuration passed (R237). -/
  | x_OL_PT
  /-- The frame of the latest completed cycle returned (R239). -/
  | x_OL_RTTOK
  /-- Cycle tick plus 1 of the latest token of the map (R248). -/
  | x_MAP_DONE
  /-- Highest epoch signalled to the pair unit plus 1; 0 none (R250). -/
  | x_EPHI
  /-- A frame is in transmission (R257). -/
  | x_ETH_BUSY
  /-- Earliest instant of the next frame start, inter-frame gap included, ns (R261). -/
  | x_ETH_TXI
  /-- A gate control list is in effect (R261). -/
  | x_ETH_LON
  /-- First list start of that list, ns of its time base (R261). -/
  | x_ETH_BASE
  /-- Entries of that list, minus 1 (R262). -/
  | x_ETH_LNENT
  /-- Earliest list start of the waiting change, ns of the time base (R262). -/
  | x_ETH_SWF
  /-- Gates opened by the latest gate control entry (R261). -/
  | x_ETH_GATE
  /-- Number plus 1 of the buffer in transmission; 0 none (R267). -/
  | x_CAN_CUR
  /-- That attempt is one of the schedule matrix (R273). -/
  | x_CAN_CURT
  /-- Nanoseconds plus 1 of the SOF of the last attempt of the buffer, instance 32 c + n; 0 none (R267). -/
  | x_CAN_SOF
  /-- Instant of that SOF on TB0, ns (R293). -/
  | x_CAN_SOFT
  /-- Number plus 1 of the buffer that the schedule has waiting; 0 none (R273). -/
  | x_CAN_TTB
  /-- Why it waits: 1 EXCL, 2 ARB, 3 reference (R273). -/
  | x_CAN_TTK
  /-- Next column of the row (R273). -/
  | x_CAN_COLN
  /-- A basic cycle has started (R273). -/
  | x_CAN_BCA
  /-- Start of the basic cycle, ns (R273). -/
  | x_CAN_BCT
  /-- Instant of the latest reference, or of the enabling, ns (R273). -/
  | x_CAN_REFT
  /-- b of the next basic cycle of a master (R273). -/
  | x_CAN_NB
  /-- Number plus 1 of the latest tick at which a master started a basic cycle (R273). -/
  | x_CAN_BCD
  /-- MSI-X vector waits to be sent, instance 0 to 33 (R278). -/
  | x_MSI_PEND
  /-- Tick plus 1 in which the vector was last sent (R278). -/
  | x_MSI_T
  /-- Number of times the vector was sent (R278). -/
  | x_MSI_SENT
  /-- Cycle number in which the waiting SET or STEP of the time base acts (R286). -/
  | x_TB_ACT
  /-- NEW_S of that request. -/
  | x_TB_S
  /-- NEW_NS of that request. -/
  | x_TB_N
  /-- Records of the unit since ARM, in the area or the FIFO (R294). -/
  | x_DC_SEQ
  /-- Records written in the segment or since the stream area was empty (R295, R299). -/
  | x_DC_NWR
  /-- Records put since the stream area was empty (R299). -/
  | x_DC_NPUT
  /-- The FIRE mark of the segment is written (R295). -/
  | x_DC_FW
  /-- Records left to accept after the fire (R295). -/
  | x_DC_LEFT
  /-- The last record after the fire is accepted and not written yet (R295). -/
  | x_DC_CLOSE
  /-- Between segments (R295). -/
  | x_DC_GAP
  /-- Instant plus 1 of the latest fire, ns (R297). -/
  | x_DC_FT
  /-- Bits [63:32] of the tick number in the latest TIME mark, plus 1; 0 none (R294). -/
  | x_DC_THI
  /-- Copies lost since the previous record, saturating (R294). -/
  | x_DC_LOSTN
  /-- The area holds stream blocks (R299). -/
  | x_DC_STREAM
  /-- Blocks sent since the area was empty (R299). -/
  | x_DC_SENT
  /-- Tick of the first record of the present block (R299). -/
  | x_DC_BT
  /-- End of the drive of the FIRE net by the unit, ns; 0 none (R298). -/
  | x_DC_FDRV
  /-- last_v of tap t of unit u, instance 32 u + t (R292). -/
  | x_TAP_LV
  /-- last_q of the tap (R292). -/
  | x_TAP_LQ
  /-- last_ty of the tap (R292). -/
  | x_TAP_LTY
  /-- last_tick of the tap (R292). -/
  | x_TAP_LT
  /-- The tap has a record since arming (R292). -/
  | x_TAP_HAS
  /-- ARM net asserted, as the following units last saw it (R298). -/
  | x_CAP_ARM
  /-- CAP_ARM asserted from outside (R298). -/
  | x_CAP_APIN
  /-- FIRE net asserted, as the following units last saw it (R298). -/
  | x_CAP_FIRE
  /-- CAP_FIRE asserted from outside (R298). -/
  | x_CAP_FPIN
  /-- Earliest start of the next block, ns (R299). -/
  | x_DCS_T
  /-- Records in the log area (R304), as the start-up scan finds them. -/
  | x_SED_USED
  /-- Number of the present flood window (R308). -/
  | x_SED_WIN
  /-- Events that count in that window (R308). -/
  | x_SED_WCNT
  /-- Events summarised in the present flood, saturating (R308). -/
  | x_SED_FN
  /-- FIRST tick of the first such event. -/
  | x_SED_FT0
  /-- Its phase. -/
  | x_SED_FP0
  /-- FIRST tick of the last such event. -/
  | x_SED_FT1
  /-- Tick at which FREEZE was set (R310). -/
  | x_SED_FRT
  /-- Frozen on PFAIL_N until the next reset (R310). -/
  | x_SED_PF
  /-- Sihus cell retired: the record in MRAM (R313, R339); instance = global cell. -/
  | x_RETC
  /-- Loop block retired: its matching store and sequencer (R313, R318). -/
  | x_RETB
  /-- Instant plus 1 of the cell fault after which the stages of the slot write SAFE at its next output instant, ns (R316). -/
  | x_SLOT_SAFE
  /-- Monitoring of the stop command line of the axis has failed (R18). -/
  | x_PM_AX
  /-- Monitoring of the stop command line of the stepper has failed (R18). -/
  | x_PM_ST
  /-- Monitoring of the rest report of the axis has failed (R18). -/
  | x_PM_REST
  /-- Monitoring of the image load path has failed (R18). -/
  | x_PM_LOAD
  /-- A REGION reset of the region runs (R337); instance as x_HELD. -/
  | x_RSTA
  /-- TIME_CLK cycle in which it began. -/
  | x_RSTC
  /-- The boot ROM has run since the latest reset of the chip-level units (R384). -/
  | x_BOOTED
  /-- Active slot of region r (R382 codes) plus 1; 0 none (R384). -/
  | x_ACT
  /-- Blown anti-rollback fuses of region r (R383, R385). -/
  | x_ARB
  /-- PFAIL_N has been accepted (R368). -/
  | x_PFQ
  /-- The frequency of every domain is unspecified (R362). -/
  | x_FRQ
  /-- TIME_CLK cycle plus 1 of the clock fault (R362); 0 none. -/
  | x_CLKF
  /-- A takeover has been made and execution has not started (R330). -/
  | x_TO_WAIT
  /-- Tick of the takeover. -/
  | x_TO_TICK
  /-- Cause of the takeover that is due; 0 none (R330, R334). -/
  | x_TO_CAUSE
  /-- The partner has requested a hand-back (R334). -/
  | x_HB_REQ
  /-- The hand-back boundary has passed: no new firing and no new cycle (R334). -/
  | x_HB_DRAIN
  /-- A hand-back has been requested of the partner (R334). -/
  | x_HB_SENT
  /-- Heartbeats of the partner missed in a row, up to 3 (R325, R330). -/
  | x_HB_MISS
  /-- Tick plus 1 of the latest heartbeat received (R325). -/
  | x_HB_RX
  /-- Tick plus 1 of the latest heartbeat judged missed (R325). -/
  | x_HB_MD
  /-- Tick plus 1 of the latest pulse on PAIR_HB_OUT (R325). -/
  | x_HB_T
  /-- Boundary tick of the latest checkpoint started (R326). -/
  | x_CP_BND
  /-- Number plus 1 of the latest boundary tick handled (R326, R328). -/
  | x_CP_BD
  /-- Tick plus 1 at which the commit marker was sent; 0 not yet (R328). -/
  | x_CP_MARK
  /-- The area has flipped: slot g, or 256 + i for AREAi (R327). -/
  | x_CP_FLIP
  /-- Dirty lines of the latest checkpoint (R328). -/
  | x_CP_LINES
  /-- Lines of the area carried by the full stream (R328). -/
  | x_CP_CARR
  /-- Lines of the area that the checkpoint in progress adds to them. -/
  | x_CP_ADD
  /-- Lines that the full stream may still add to the checkpoint in progress (R328). -/
  | x_CP_BUD
  /-- Task n was not DORMANT at the boundary of the latest checkpoint applied (R331). -/
  | x_CP_LIVE
  /-- Clean checkpoints since the device became STANDBY, up to 10 (R334). -/
  | x_CP_SB
  /-- TIME_CLK cycle from which the pairing timeout runs (R322). -/
  | x_PAIR_C0
  /-- ACTIVE from start-up, CAUSE 0x07 (R324). -/
  | x_PAIR_SU
  /-- Cycles of the link completed since the device became ACTIVE (R324). -/
  | x_OL_NCY
  /-- Link plus 1 that signalled the highest epoch (R324). -/
  | x_EPL
  /-- Stop command lines: STOP 0 of each axis (R352, R358). -/
  | x_L_S0
  /-- Stop command lines: STOP 1 of each axis (R353). -/
  | x_L_S1
  /-- Stop command lines: STOP 0 of each stepper (R352). -/
  | x_L_ST
  /-- Safety cycles since INIT ended (R343). -/
  | x_S_CYC
  /-- Raw level of input n in the latest cycle (R350). -/
  | x_S_RAW
  /-- Cycles for which that level has been stable (R350). -/
  | x_S_CNT
  /-- Cycle number up to which the inputs of TPOk are held (R350). -/
  | x_S_HOLD
  /-- Test pulses of TPOk made (R350). -/
  | x_S_TPN
  /-- Cycle in which output m last switched (R351). -/
  | x_S_SWT
  /-- Cycle in which output m last switched on or was pulsed (R351). -/
  | x_S_OPT
  /-- Cycles in a row in which the cores disagreed (R344). -/
  | x_S_DIS
  /-- A REGION reset of the safety region waits for its functions (R358). -/
  | x_S_PRE
  /-- Cycles for which a discrepancy of function f has lasted, instance 2 f + button (R348). -/
  | x_F_DISC
  /-- Cycle of the demand that put function f in STOPPING (R349). -/
  | x_F_DEM
  /-- Cycles for which RSTIN of function f has been 1 in WAIT_RESET (R349). -/
  | x_F_RST
  /-- RSTIN of function f has been 0 in WAIT_RESET (R349). -/
  | x_F_RLOW
  /-- Every channel of function f has been in its demand level together since FAULT (R349). -/
  | x_F_TOG
  /-- Both buttons of function f have been released (R348). -/
  | x_F_REL
  /-- Cycle plus 1 in which a button was actuated, instance 2 f + button; 0 not actuated (R348). -/
  | x_F_ACT
  /-- Nonce of the latest challenge (R388). -/
  | x_NONCE
  /-- A challenge waits for its response (R388). -/
  | x_CHAL
  /-- TIME_CLK cycle of the latest service transfer of the session (R388). -/
  | x_SVC_T
  /-- TIME_CLK cycle in which the port was closed (R388). -/
  | x_SVC_L
  /-- Signal on TMUX pin: 1 + 256 x region + code; 0 none (R391). -/
  | x_TMUX
  /-- Tick of the commit write whose snapshot waits, by region (R7). -/
  | x_CFG_T
  /-- The latest access of the host was completed with Completer Abort (R276). -/
  | x_CPL_CA
  /-- Bytes of the latest read completion to the host, little-endian (R276). -/
  | x_CPL_VAL
  /-- Number of bytes of the latest read completion (R276). -/
  | x_CPL_N
  /-- Names a byte of an output image in the fields of a checkpoint, by its offset from the base of the links (R252, R326); no register holds it. -/
  | x_OIMG
  deriving DecidableEq, Repr

/-- The region a register belongs to (R17, R28). -/
inductive Rgn where
  | LOOP | PROG | FIELD | SAFE | CHIP
  deriving DecidableEq, Repr

/-- The access codes of R5, and INT for state that no register shows. -/
inductive Acc where
  | RW | RO | WO | W1C | W1S | ST | INT
  deriving DecidableEq, Repr

/-- The survival classes of R9. -/
inductive Cls where
  | N | K | S | C
  deriving DecidableEq, Repr

/-- One row of a register table: region, class, access code, lowest bit, width in bits (0: unbounded, internal fields only),
Reset value, whether a locked slot field (R72), and whether a unit of directly wired I/O (R333). -/
structure FDesc where
  rgn : Rgn
  cls : Cls
  acc : Acc
  lo : Nat
  width : Nat
  reset : Nat
  locked : Bool
  direct : Bool
  deriving DecidableEq, Repr

end Sys2Proof.Machine
end

