-- ==== Sys2Proof/Machine/Carried.lean ====
section
/-!
DEFINITION. What a checkpoint carries besides memory (R182, R326, R331): class S fields, plans, path states, and which tasks were not
DORMANT.
-/

namespace Sys2Proof.Machine

/-- The plan of an axis in PROFILE behaviour (R176, R177): from tick t0, first a stop with the limits `stop` where there is one, then a
move to the target where there is one. -/
structure Plan where
  t0 : Nat
  start : Motion
  stop : Option (Word × Word)
  target : Option DWord
  vmax : Word
  amax : Word
  jmax : Word
  deriving DecidableEq, Repr

/-- The path state of a group (R185, R186): the segment in execution, the members' positions where it or the stop began, its first tick
and the number of its plan; whether a stop runs, and the ticks at which dwells and moves end. -/
structure Path where
  seg : List Nat
  starts : List DWord
  t0 : Nat
  key : Nat
  stopping : Bool
  deriving DecidableEq, Repr

/-- A checkpoint as the standby receives it (R326 to R328, R331, R334): its boundary tick and epoch, class S fields, plans and path
states, 64-byte lines by line number, the mask of tasks that were not DORMANT, whether the full stream is complete with it, whether it is
the one of a hand-back, and whether marker and CRC arrived intact. -/
structure Checkpoint where
  boundary : Nat
  epoch : Nat
  fields : List (F × Nat × Nat)
  plans : List (Nat × Plan)
  paths : List (Nat × Path)
  lines : List (Nat × Nat)
  live : Nat
  full : Bool
  handBack : Bool
  intact : Bool
  deriving DecidableEq, Repr

end Sys2Proof.Machine
end

