-- ==== Sys2Proof/Syntax.lean ====
section
/-!
DEFINITION. The commands of the block: one constructor per row of the opcode table, with the row's operands.
-/

namespace Sys2Proof

/-- A cell that may fault (R11, R305): a Sihus cell by global number, an encoder cell, an axis cell, AINn, FAINn, a loop output. -/
inductive CellId where
  | loop (c : Fin 24)
  | encoder (e : Fin 32)
  | axis (a : Fin 32)
  | ain (n : Fin 64)
  | fain (n : Fin 20)
  | aout (n : Fin 32)
  deriving DecidableEq, Repr

/-- A block that may fault (R11, R305): LBb, EBb, MBb, ABb, the stepper block, the PWM block, the link block of OLk. -/
inductive BlockId where
  | loop (b : Fin 4)
  | encoder (b : Fin 4)
  | motion (b : Fin 4)
  | analogue (b : Fin 4)
  | stepper
  | pwm
  | link (k : Fin 20)
  deriving DecidableEq, Repr

/-- A monitored path of the safety region (R18): a stop command line of an axis or a stepper, the rest report of an axis, the image
load path. -/
inductive SafePath where
  | axisLine (a : Fin 32)
  | stepperLine (n : Fin 16)
  | restReport (a : Fin 32)
  | load
  deriving DecidableEq, Repr

/-- Who makes a register access (R32): a task core, the PCIe host, the service port. -/
inductive Initiator where
  | core (k : Fin 4)
  | host
  | service
  deriving DecidableEq, Repr

/-- A region with a commit register (R34). -/
inductive CfgRegion where
  | loop
  | prog
  | field
  | chip
  deriving DecidableEq, Repr


/-- A command: a register access, an instruction issue, a scheduled event or an event on a pin or link. -/
inductive Instr where
  /-- R5: A write to a register field that has no row of its own acts according to its access code. -/
  | registerWrite (ini : Initiator) (a : BitVec 40) (size : Fin 4) (v : BitVec 64)
  /-- R7: A write of 1 to GO snapshots the region's ST shadows and sets PENDING. -/
  | cfgCommit (r : CfgRegion)
  /-- R7: At the first confluence tick after the commit, the snapshot takes effect together and PENDING clears. -/
  | snapshotTakesEffect (r : CfgRegion)
  /-- R337: Supplies rising through the supervisor threshold reset the whole device. -/
  | por
  /-- R366: VDD_CORE or VDD_SRAM below the brown-out threshold for 1 µs resets the whole device. -/
  | bor
  /-- R337: RST_N held low for at least 1 µs resets the whole device. -/
  | pinReset (clksel : Bool)
  /-- R337: A keyed write of RST_CTL.WARM resets every region and the chip-level units except the LPDDR4X controller. -/
  | warm (key : BitVec 8)
  /-- R337: A keyed write of an RST_CTL.REGION bit holds one region in reset for 20 µs. -/
  | regionReset (key : BitVec 8) (regions : BitVec 4)
  /-- R337: After 20 µs the region leaves reset, the loop region without LOOP_GO. -/
  | regionResetEnd (r : Fin 4) (readFail : BitVec 2)
  /-- R13: The work of tick n is not done by the start of tick n + 2, which is a block fault. -/
  | sequencerWatchdogExpiry (i : BlockId)
  /-- R13: A granted request has no response within 100 µs, or requests wait 10 µs without a grant, which is a region fault. -/
  | regionWatchdogExpiry (r : Fin 4)
  /-- R18: Failed monitoring of a safety path makes its receiving end take it in its safe sense. -/
  | pathMonitorFailure (p : SafePath)
  /-- R77: A token that reaches a matching store is assigned to a firing and placed, consumed or made to stall its producer. -/
  | tokenAccepted (b : Fin 4) (k : Nat)
  /-- R105: When an entry frees, a stalled token enters the store and its producer resumes. -/
  | stalledTokenAccepted (b : Fin 4)
  /-- R101: A comet token that waited in the lane is placed when its slot's entry frees. -/
  | cometLaneRelease (g : Fin 256)
  /-- R79: A HANDOVER firing whose only REQ operand is operand 7 gets an entry at its sample instant or when one frees, and becomes ready. -/
  | handoverEntry (g : Fin 256)
  /-- R83: The dispatcher loads the head of a cell's ready queue into the idle bank, displacing a lower-priority unstarted firing if allowed. -/
  | dispatch (c : Fin 24)
  /-- R40: At the next instruction boundary a higher-priority loaded firing preempts the executing one after a 4-cycle switch. -/
  | preemption (c : Fin 24)
  /-- R94: At the cut-off of a firing that has not finished, MISS counts and the firing is withdrawn or left to run by its state. -/
  | deadlineMiss (g : Fin 256)
  /-- R91: At the owner's output instant each owned stage writes the firing's value, or acts by DPOL or LSP, or writes a forced value. -/
  | outputInstant (g : Fin 256)
  /-- R91: A token reaching an output stage is taken as the firing's value or counted as LATE, NOTOWN or TYPE_MM. -/
  | tokenAtOutputStage (k : Nat)
  /-- R94: After a miss under DPOL STOP, every slot of the block is disabled at the next tick with REFUSE 0x09. -/
  | blockStop (b : Fin 4)
  /-- R73: A write of 1 to REQ_EN requests the admission check of a slot and sets BUSY. -/
  | reqEn (g : Fin 256)
  /-- R74: A write of 1 to REQ_DIS requests that the slot be disabled at the next tick, or holds the request while a check runs. -/
  | reqDis (g : Fin 256)
  /-- R75: A write of 1 to REQ_SWAP requests the admission check for a code exchange of an enabled slot. -/
  | reqSwap (g : Fin 256)
  /-- R84: When the checks ahead of it have ended, the sequencer runs the slot's admission check and writes REFUSE and REF_SLOT. -/
  | admissionCheck (b : Fin 4)
  /-- R73: At the first tick after a passed enable check, EN becomes 1. -/
  | slotEnable (g : Fin 256)
  /-- R74: At the first tick after REQ_DIS, or after a held REQ_DIS may act, the slot is disabled and its pending firings withdrawn. -/
  | slotDisable (g : Fin 256)
  /-- R75: At the first tick after a passed swap check, the new ENTRY, WCET and LONG take effect. -/
  | swapTakesEffect (g : Fin 256)
  /-- R106: A write of 1 to FULLSEEN clears it and resets PEAK to PENDING. -/
  | msStatFullseenClear (b : Fin 4)
  /-- R107: A read of TOK_IN captures TOK_USED, TOK_UNUSED and SLOT_PEND. -/
  | tokInRead (g : Fin 256)
  /-- R44: Cell: DD := DA + DB, wrapping. -/
  | add (c : Fin 24) (dd : BitVec 4) (da : BitVec 4) (db : BitVec 4)
  /-- R44: Cell: DD := DA + DB, saturating. -/
  | adds (c : Fin 24) (dd : BitVec 4) (da : BitVec 4) (db : BitVec 4)
  /-- R44: Cell: DD := DA − DB, wrapping. -/
  | sub (c : Fin 24) (dd : BitVec 4) (da : BitVec 4) (db : BitVec 4)
  /-- R44: Cell: DD := DA − DB, saturating. -/
  | subs (c : Fin 24) (dd : BitVec 4) (da : BitVec 4) (db : BitVec 4)
  /-- R44: Cell: flags from DA − DB. -/
  | cmp (c : Fin 24) (da : BitVec 4) (db : BitVec 4)
  /-- R44: Cell: DD := DA AND DB. -/
  | and_ (c : Fin 24) (dd : BitVec 4) (da : BitVec 4) (db : BitVec 4)
  /-- R44: Cell: DD := DA OR DB. -/
  | or_ (c : Fin 24) (dd : BitVec 4) (da : BitVec 4) (db : BitVec 4)
  /-- R44: Cell: DD := DA XOR DB. -/
  | xor (c : Fin 24) (dd : BitVec 4) (da : BitVec 4) (db : BitVec 4)
  /-- R44: Cell: DD := signed minimum of DA and DB. -/
  | min (c : Fin 24) (dd : BitVec 4) (da : BitVec 4) (db : BitVec 4)
  /-- R44: Cell: DD := signed maximum of DA and DB. -/
  | max (c : Fin 24) (dd : BitVec 4) (da : BitVec 4) (db : BitVec 4)
  /-- R44: Cell: DD := |DA|, saturating. -/
  | abs (c : Fin 24) (dd : BitVec 4) (da : BitVec 4)
  /-- R44: Cell: DD := −DA, wrapping. -/
  | neg (c : Fin 24) (dd : BitVec 4) (da : BitVec 4)
  /-- R44: Cell: DD := −DA, saturating. -/
  | negs (c : Fin 24) (dd : BitVec 4) (da : BitVec 4)
  /-- R44: Cell: arithmetic shift right of DA by DB[5:0]. -/
  | asr (c : Fin 24) (dd : BitVec 4) (da : BitVec 4) (db : BitVec 4)
  /-- R44: Cell: logical shift right of DA by DB[5:0]. -/
  | lsr (c : Fin 24) (dd : BitVec 4) (da : BitVec 4) (db : BitVec 4)
  /-- R44: Cell: shift left of DA by DB[5:0]. -/
  | lsl (c : Fin 24) (dd : BitVec 4) (da : BitVec 4) (db : BitVec 4)
  /-- R44: Cell: DD := low 32 bits of the signed product. -/
  | mul (c : Fin 24) (dd : BitVec 4) (da : BitVec 4) (db : BitVec 4)
  /-- R67: Cell: DD := rounded, saturated Q31 product with shift SH. -/
  | mulq (c : Fin 24) (dd : BitVec 4) (da : BitVec 4) (db : BitVec 4) (sh : BitVec 5)
  /-- R67: Cell: DD := 2^46 / DA, rounded and saturated. -/
  | rcpq (c : Fin 24) (dd : BitVec 4) (da : BitVec 4)
  /-- R44: Cell: DD := DA. -/
  | mov (c : Fin 24) (dd : BitVec 4) (da : BitVec 4)
  /-- R43: Cell: DD := DA + sign-extended IMM. -/
  | addi (c : Fin 24) (dd : BitVec 4) (da : BitVec 4) (imm : BitVec 18)
  /-- R43: Cell: DD := sign-extended IMM[15:0]. -/
  | movl (c : Fin 24) (dd : BitVec 4) (imm : BitVec 16)
  /-- R43: Cell: DD[31:16] := IMM[15:0]. -/
  | movh (c : Fin 24) (dd : BitVec 4) (imm : BitVec 16)
  /-- R43: Cell: DD := DA AND zero-extended IMM. -/
  | andi (c : Fin 24) (dd : BitVec 4) (da : BitVec 4) (imm : BitVec 18)
  /-- R43: Cell: DD := DA OR zero-extended IMM. -/
  | ori (c : Fin 24) (dd : BitVec 4) (da : BitVec 4) (imm : BitVec 18)
  /-- R53: Cell: D := data-memory word read in the X half-cycle. -/
  | ld (c : Fin 24) (dd : BitVec 4) (p : BitVec 3) (am : BitVec 2) (m : BitVec 3) (ofs : BitVec 14) (sec : Bool)
  /-- R53: Cell: data-memory word written from D in the second half-cycle. -/
  | st (c : Fin 24) (dd : BitVec 4) (p : BitVec 3) (am : BitVec 2) (m : BitVec 3) (ofs : BitVec 14)
  /-- R43: Cell: DA := X and DB := Y from two reads. -/
  | ld2 (c : Fin 24) (da : BitVec 4) (db : BitVec 4) (px : BitVec 3) (mx : BitVec 3) (py : BitVec 3) (my : BitVec 3) (ux : Bool) (uy : Bool)
  /-- R43: Cell: the word at PY := X. -/
  | mvm (c : Fin 24) (px : BitVec 3) (mx : BitVec 3) (py : BitVec 3) (my : BitVec 3) (ux : Bool) (uy : Bool)
  /-- R58: Cell: four products of X and Y with D0 to D3 into A0 to A3. -/
  | qmac (c : Fin 24) (px : BitVec 3) (mx : BitVec 3) (py : BitVec 3) (my : BitVec 3) (ux : Bool) (uy : Bool) (fr : Bool) (ac : BitVec 2)
  /-- R58: Cell: two products of X with D0 and D1 into A0 and A1. -/
  | dmac (c : Fin 24) (px : BitVec 3) (mx : BitVec 3) (ux : Bool) (fr : Bool) (ac : BitVec 2)
  /-- R58: Cell: one product of X with a D register into an accumulator. -/
  | smac (c : Fin 24) (an : BitVec 2) (db : BitVec 4) (px : BitVec 3) (mx : BitVec 3) (ux : Bool) (fr : Bool) (ac : BitVec 2)
  /-- R58: Cell: one product of X and Y into an accumulator. -/
  | xmac (c : Fin 24) (an : BitVec 2) (px : BitVec 3) (mx : BitVec 3) (py : BitVec 3) (my : BitVec 3) (ux : Bool) (uy : Bool) (fr : Bool) (ac : BitVec 2)
  /-- R58: Cell, DUALF: two FP32 fused multiply-adds into D4 and D5. -/
  | fmac2 (c : Fin 24) (px : BitVec 3) (mx : BitVec 3) (py : BitVec 3) (my : BitVec 3) (ux : Bool) (uy : Bool)
  /-- R66: Cell: D := rounded, saturated extraction of an accumulator. -/
  | mva (c : Fin 24) (dd : BitVec 4) (an : BitVec 2) (sh : BitVec 4) (rm : Bool)
  /-- R45: Cell: accumulator := sign-extended D × 2^32. -/
  | mvd (c : Fin 24) (dd : BitVec 4) (an : BitVec 2)
  /-- R45: Cell: accumulator := 0. -/
  | clra (c : Fin 24) (an : BitVec 2)
  /-- R45: Cell: A(AN) := A(AN) + A(AS). -/
  | adda (c : Fin 24) (an : BitVec 2) (as_ : BitVec 2)
  /-- R45: Cell: A(AN) := A(AN) − A(AS). -/
  | suba (c : Fin 24) (an : BitVec 2) (as_ : BitVec 2)
  /-- R45: Cell: arithmetic shift right of an accumulator by SH. -/
  | asha (c : Fin 24) (an : BitVec 2) (sh : BitVec 4)
  /-- R45: Cell: D := low 32 bits of an accumulator. -/
  | mval (c : Fin 24) (dd : BitVec 4) (an : BitVec 2)
  /-- R46: Cell: FP32 addition. -/
  | fadd (c : Fin 24) (dd : BitVec 4) (da : BitVec 4) (db : BitVec 4)
  /-- R46: Cell: FP32 subtraction. -/
  | fsub (c : Fin 24) (dd : BitVec 4) (da : BitVec 4) (db : BitVec 4)
  /-- R46: Cell: FP32 multiplication. -/
  | fmul (c : Fin 24) (dd : BitVec 4) (da : BitVec 4) (db : BitVec 4)
  /-- R46: Cell: FP32 fused multiply-add. -/
  | fma (c : Fin 24) (dd : BitVec 4) (da : BitVec 4) (db : BitVec 4) (dc : BitVec 4)
  /-- R46: Cell: FP32 fused multiply-subtract. -/
  | fms (c : Fin 24) (dd : BitVec 4) (da : BitVec 4) (db : BitVec 4) (dc : BitVec 4)
  /-- R46: Cell: FP32 minimum. -/
  | fmin (c : Fin 24) (dd : BitVec 4) (da : BitVec 4) (db : BitVec 4)
  /-- R46: Cell: FP32 maximum. -/
  | fmax (c : Fin 24) (dd : BitVec 4) (da : BitVec 4) (db : BitVec 4)
  /-- R46: Cell: DA with bit 31 cleared. -/
  | fabs (c : Fin 24) (dd : BitVec 4) (da : BitVec 4)
  /-- R46: Cell: DA with bit 31 inverted. -/
  | fneg (c : Fin 24) (dd : BitVec 4) (da : BitVec 4)
  /-- R46: Cell: FP32 compare into Z, N, V and C. -/
  | fcmp (c : Fin 24) (da : BitVec 4) (db : BitVec 4)
  /-- R46: Cell: correctly rounded FP32 reciprocal. -/
  | frcp (c : Fin 24) (dd : BitVec 4) (da : BitVec 4)
  /-- R46: Cell: Q31 to FP32. -/
  | cvtqf (c : Fin 24) (dd : BitVec 4) (da : BitVec 4)
  /-- R68: Cell: FP32 to Q31, rounded and saturated. -/
  | cvtfq (c : Fin 24) (dd : BitVec 4) (da : BitVec 4)
  /-- R46: Cell: I32 to FP32. -/
  | cvtif (c : Fin 24) (dd : BitVec 4) (da : BitVec 4)
  /-- R68: Cell: FP32 to I32, rounded and saturated. -/
  | cvtfi (c : Fin 24) (dd : BitVec 4) (da : BitVec 4)
  /-- R43: Cell: branch to TARGET if COND holds. -/
  | br (c : Fin 24) (cond : BitVec 4) (target : BitVec 13)
  /-- R43: Cell: push PC + 1 and jump to TARGET. -/
  | call (c : Fin 24) (target : BitVec 13)
  /-- R43: Cell: if COND holds, pop the return stack into PC. -/
  | ret (c : Fin 24) (cond : BitVec 4)
  /-- R59: Cell: REP #n repeats the next instruction CNT + 1 times. -/
  | repN (c : Fin 24) (cnt : BitVec 10) (nextWord : BitVec 32)
  /-- R59: Cell: REP Ds repeats the next instruction Ds times. -/
  | repDs (c : Fin 24) (ds : BitVec 4) (nextWord : BitVec 32)
  /-- R43: Cell: sets a P, M, L or B register. -/
  | seta (c : Fin 24) (cl : BitVec 2) (idx : BitVec 3) (src : Bool) (ds : BitVec 4) (imm : BitVec 16)
  /-- R43: Cell: PD := PS + OFS modulo 16,384. -/
  | lea (c : Fin 24) (pd : BitVec 3) (ps : BitVec 3) (ofs : BitVec 14)
  /-- R43: Cell: DS := a P, M, L or B register. -/
  | geta (c : Fin 24) (cl : BitVec 2) (idx : BitVec 3) (ds : BitVec 4)
  /-- R38: Cell: D := SR or FST. -/
  | mfs (c : Fin 24) (dd : BitVec 4) (k : BitVec 3)
  /-- R38: Cell: SR := D. -/
  | mts (c : Fin 24) (dd : BitVec 4)
  /-- R63: Cell: launches one token through the emit buffer, waiting when the buffer is full. -/
  | emit (c : Fin 24) (ds : BitVec 4) (dq : BitVec 4) (ty : BitVec 2) (dest : BitVec 16)
  /-- R64: A place frees in a full emit buffer and the waiting EMIT completes. -/
  | emitBufferPlaceFreed (c : Fin 24)
  /-- R62: Cell: T := (QK AND MASK) ≠ 0. -/
  | qtst (c : Fin 24) (k : BitVec 3) (mask : BitVec 8)
  /-- R43: Cell: D := OR of the selected quality tags. -/
  | qor (c : Fin 24) (dd : BitVec 4) (mask : BitVec 8)
  /-- R43: Cell: D := QK. -/
  | qget (c : Fin 24) (dd : BitVec 4) (k : BitVec 3)
  /-- R62: Cell: T := FST.HO. -/
  | htst (c : Fin 24)
  /-- R65: Cell: ends the firing, releases its bank and resumes or starts the next loaded firing. -/
  | end_ (c : Fin 24)
  /-- R43: Cell: no operation. -/
  | nop (c : Fin 24)
  /-- R48: An illegal or unavailable word, or a bad REP, CALL or RET, aborts the firing and is recorded in Cc_ILL. -/
  | illegalInstructionAbort (c : Fin 24) (word : BitVec 32)
  /-- R313: An uncorrectable data-memory or instruction-parity error, or a cell fault of a field cell, retires the cell. -/
  | cellFault (i : CellId) (ded : Bool) (ipar : Bool)
  /-- R315: After a change of the enabled set or state areas, the block rebuilds the cell's mirror and MIRROK returns to 1. -/
  | mirrorRebuild (b : Fin 4)
  /-- R313: An uncorrectable matching-store error or sequencer-watchdog expiry retires the block and drives its stages safe. -/
  | blockFault (i : BlockId) (ms : Bool)
  /-- R313: An uncorrectable interconnect error or region-watchdog expiry becomes a device fault. -/
  | regionFault (r : Fin 4)
  /-- R318: READMIT from the service port self-tests a retired cell or the block. -/
  | spareReadmit (b : Fin 4) (cell : Fin 8)
  /-- R318: The cell self-test ends and RESULT is written; a pass clears FAULTED. -/
  | spareSelfTestEnd (b : Fin 4) (result : Fin 3)
  /-- R318: RESTORE copies the image and mirror areas back into the re-admitted cell. -/
  | restore (b : Fin 4) (cell : Fin 8)
  /-- R318: At the first tick after the copy, firings load on the cell; when C5 holds no moved firing SUBST clears. -/
  | restoreSwitch (b : Fin 4)
  /-- R112: Task: 64-bit ADD. -/
  | taskAdd (k : Fin 4) (xd : BitVec 5) (xa : BitVec 5) (xb : BitVec 5)
  /-- R112: Task: 64-bit saturating ADD. -/
  | taskAdds (k : Fin 4) (xd : BitVec 5) (xa : BitVec 5) (xb : BitVec 5)
  /-- R112: Task: 64-bit SUB. -/
  | taskSub (k : Fin 4) (xd : BitVec 5) (xa : BitVec 5) (xb : BitVec 5)
  /-- R112: Task: 64-bit saturating SUB. -/
  | taskSubs (k : Fin 4) (xd : BitVec 5) (xa : BitVec 5) (xb : BitVec 5)
  /-- R112: Task: 64-bit compare. -/
  | taskCmp (k : Fin 4) (xa : BitVec 5) (xb : BitVec 5)
  /-- R112: Task: 64-bit AND. -/
  | taskAnd (k : Fin 4) (xd : BitVec 5) (xa : BitVec 5) (xb : BitVec 5)
  /-- R112: Task: 64-bit OR. -/
  | taskOr (k : Fin 4) (xd : BitVec 5) (xa : BitVec 5) (xb : BitVec 5)
  /-- R112: Task: 64-bit XOR. -/
  | taskXor (k : Fin 4) (xd : BitVec 5) (xa : BitVec 5) (xb : BitVec 5)
  /-- R112: Task: 64-bit signed minimum. -/
  | taskMin (k : Fin 4) (xd : BitVec 5) (xa : BitVec 5) (xb : BitVec 5)
  /-- R112: Task: 64-bit signed maximum. -/
  | taskMax (k : Fin 4) (xd : BitVec 5) (xa : BitVec 5) (xb : BitVec 5)
  /-- R112: Task: 64-bit saturating absolute value. -/
  | taskAbs (k : Fin 4) (xd : BitVec 5) (xa : BitVec 5)
  /-- R112: Task: 64-bit negation. -/
  | taskNeg (k : Fin 4) (xd : BitVec 5) (xa : BitVec 5)
  /-- R112: Task: 64-bit saturating negation. -/
  | taskNegs (k : Fin 4) (xd : BitVec 5) (xa : BitVec 5)
  /-- R112: Task: 64-bit arithmetic shift right by XB[6:0]. -/
  | taskAsr (k : Fin 4) (xd : BitVec 5) (xa : BitVec 5) (xb : BitVec 5)
  /-- R112: Task: 64-bit logical shift right by XB[6:0]. -/
  | taskLsr (k : Fin 4) (xd : BitVec 5) (xa : BitVec 5) (xb : BitVec 5)
  /-- R112: Task: 64-bit shift left by XB[6:0]. -/
  | taskLsl (k : Fin 4) (xd : BitVec 5) (xa : BitVec 5) (xb : BitVec 5)
  /-- R112: Task: low 64 bits of the product. -/
  | taskMul (k : Fin 4) (xd : BitVec 5) (xa : BitVec 5) (xb : BitVec 5)
  /-- R112: Task: XD := XA. -/
  | taskMov (k : Fin 4) (xd : BitVec 5) (xa : BitVec 5)
  /-- R112: Task: bits [127:64] of the signed product. -/
  | mulh (k : Fin 4) (xd : BitVec 5) (xa : BitVec 5) (xb : BitVec 5)
  /-- R112: Task: signed quotient truncated towards zero. -/
  | div (k : Fin 4) (xd : BitVec 5) (xa : BitVec 5) (xb : BitVec 5)
  /-- R112: Task: unsigned quotient. -/
  | divu (k : Fin 4) (xd : BitVec 5) (xa : BitVec 5) (xb : BitVec 5)
  /-- R112: Task: remainder with the sign of the dividend. -/
  | rem (k : Fin 4) (xd : BitVec 5) (xa : BitVec 5) (xb : BitVec 5)
  /-- R112: Task: XD := XA + sign-extended IMM. -/
  | taskAddi (k : Fin 4) (xd : BitVec 5) (xa : BitVec 5) (imm : BitVec 16)
  /-- R112: Task: XD := sign-extended IMM. -/
  | taskMovl (k : Fin 4) (xd : BitVec 5) (imm : BitVec 16)
  /-- R112: Task: XD := XA AND zero-extended IMM. -/
  | taskAndi (k : Fin 4) (xd : BitVec 5) (xa : BitVec 5) (imm : BitVec 16)
  /-- R112: Task: XD := XA OR zero-extended IMM. -/
  | taskOri (k : Fin 4) (xd : BitVec 5) (xa : BitVec 5) (imm : BitVec 16)
  /-- R112: Task: replaces one 16-bit field of XD with IMM. -/
  | movk (k : Fin 4) (xd : BitVec 5) (part : BitVec 5) (imm : BitVec 16)
  /-- R112: Task: loads 64 bits. -/
  | ldd (k : Fin 4) (xd : BitVec 5) (xa : BitVec 5) (imm : BitVec 16)
  /-- R112: Task: stores 64 bits. -/
  | std (k : Fin 4) (xd : BitVec 5) (xa : BitVec 5) (imm : BitVec 16)
  /-- R112: Task: loads 32 bits sign-extended. -/
  | ldw (k : Fin 4) (xd : BitVec 5) (xa : BitVec 5) (imm : BitVec 16)
  /-- R112: Task: loads 32 bits zero-extended. -/
  | ldwu (k : Fin 4) (xd : BitVec 5) (xa : BitVec 5) (imm : BitVec 16)
  /-- R112: Task: stores 32 bits. -/
  | stw (k : Fin 4) (xd : BitVec 5) (xa : BitVec 5) (imm : BitVec 16)
  /-- R112: Task: loads 16 bits sign-extended. -/
  | ldh (k : Fin 4) (xd : BitVec 5) (xa : BitVec 5) (imm : BitVec 16)
  /-- R112: Task: loads 16 bits zero-extended. -/
  | ldhu (k : Fin 4) (xd : BitVec 5) (xa : BitVec 5) (imm : BitVec 16)
  /-- R112: Task: stores 16 bits. -/
  | sth (k : Fin 4) (xd : BitVec 5) (xa : BitVec 5) (imm : BitVec 16)
  /-- R112: Task: loads 8 bits zero-extended. -/
  | ldb (k : Fin 4) (xd : BitVec 5) (xa : BitVec 5) (imm : BitVec 16)
  /-- R112: Task: stores 8 bits. -/
  | stb (k : Fin 4) (xd : BitVec 5) (xa : BitVec 5) (imm : BitVec 16)
  /-- R112: Task: FP32 addition on bits [31:0]. -/
  | taskFadd (k : Fin 4) (xd : BitVec 5) (xa : BitVec 5) (xb : BitVec 5)
  /-- R112: Task: FP32 subtraction. -/
  | taskFsub (k : Fin 4) (xd : BitVec 5) (xa : BitVec 5) (xb : BitVec 5)
  /-- R112: Task: FP32 multiplication. -/
  | taskFmul (k : Fin 4) (xd : BitVec 5) (xa : BitVec 5) (xb : BitVec 5)
  /-- R112: Task: FP32 fused multiply-add. -/
  | taskFma (k : Fin 4) (xd : BitVec 5) (xa : BitVec 5) (xb : BitVec 5) (xc : BitVec 5)
  /-- R112: Task: FP32 fused multiply-subtract. -/
  | taskFms (k : Fin 4) (xd : BitVec 5) (xa : BitVec 5) (xb : BitVec 5) (xc : BitVec 5)
  /-- R112: Task: FP32 minimum. -/
  | taskFmin (k : Fin 4) (xd : BitVec 5) (xa : BitVec 5) (xb : BitVec 5)
  /-- R112: Task: FP32 maximum. -/
  | taskFmax (k : Fin 4) (xd : BitVec 5) (xa : BitVec 5) (xb : BitVec 5)
  /-- R112: Task: FP32 absolute value. -/
  | taskFabs (k : Fin 4) (xd : BitVec 5) (xa : BitVec 5)
  /-- R112: Task: FP32 negation. -/
  | taskFneg (k : Fin 4) (xd : BitVec 5) (xa : BitVec 5)
  /-- R112: Task: FP32 compare. -/
  | taskFcmp (k : Fin 4) (xa : BitVec 5) (xb : BitVec 5)
  /-- R112: Task: FP32 reciprocal. -/
  | taskFrcp (k : Fin 4) (xd : BitVec 5) (xa : BitVec 5)
  /-- R112: Task: Q31 to FP32. -/
  | taskCvtqf (k : Fin 4) (xd : BitVec 5) (xa : BitVec 5)
  /-- R112: Task: FP32 to Q31. -/
  | taskCvtfq (k : Fin 4) (xd : BitVec 5) (xa : BitVec 5)
  /-- R112: Task: I32 to FP32. -/
  | taskCvtif (k : Fin 4) (xd : BitVec 5) (xa : BitVec 5)
  /-- R112: Task: FP32 to I32. -/
  | taskCvtfi (k : Fin 4) (xd : BitVec 5) (xa : BitVec 5)
  /-- R113: Task: FP64 addition. -/
  | fp64Fadd (k : Fin 4) (xd : BitVec 5) (xa : BitVec 5) (xb : BitVec 5)
  /-- R113: Task: FP64 subtraction. -/
  | fp64Fsub (k : Fin 4) (xd : BitVec 5) (xa : BitVec 5) (xb : BitVec 5)
  /-- R113: Task: FP64 multiplication. -/
  | fp64Fmul (k : Fin 4) (xd : BitVec 5) (xa : BitVec 5) (xb : BitVec 5)
  /-- R113: Task: FP64 fused multiply-add. -/
  | fp64Fma (k : Fin 4) (xd : BitVec 5) (xa : BitVec 5) (xb : BitVec 5) (xc : BitVec 5)
  /-- R113: Task: FP64 fused multiply-subtract. -/
  | fp64Fms (k : Fin 4) (xd : BitVec 5) (xa : BitVec 5) (xb : BitVec 5) (xc : BitVec 5)
  /-- R113: Task: FP64 minimum. -/
  | fp64Fmin (k : Fin 4) (xd : BitVec 5) (xa : BitVec 5) (xb : BitVec 5)
  /-- R113: Task: FP64 maximum. -/
  | fp64Fmax (k : Fin 4) (xd : BitVec 5) (xa : BitVec 5) (xb : BitVec 5)
  /-- R113: Task: FP64 absolute value. -/
  | fp64Fabs (k : Fin 4) (xd : BitVec 5) (xa : BitVec 5)
  /-- R113: Task: FP64 negation. -/
  | fp64Fneg (k : Fin 4) (xd : BitVec 5) (xa : BitVec 5)
  /-- R113: Task: FP64 compare. -/
  | fp64Fcmp (k : Fin 4) (xa : BitVec 5) (xb : BitVec 5)
  /-- R113: Task: FP64 reciprocal. -/
  | fp64Frcp (k : Fin 4) (xd : BitVec 5) (xa : BitVec 5)
  /-- R113: Task: Q31 to FP64. -/
  | fp64Cvtqf (k : Fin 4) (xd : BitVec 5) (xa : BitVec 5)
  /-- R113: Task: FP64 to Q31. -/
  | fp64Cvtfq (k : Fin 4) (xd : BitVec 5) (xa : BitVec 5)
  /-- R113: Task: I32 to FP64. -/
  | fp64Cvtif (k : Fin 4) (xd : BitVec 5) (xa : BitVec 5)
  /-- R113: Task: FP64 to I32. -/
  | fp64Cvtfi (k : Fin 4) (xd : BitVec 5) (xa : BitVec 5)
  /-- R113: Task: FP64 division, correctly rounded. -/
  | fdiv (k : Fin 4) (xd : BitVec 5) (xa : BitVec 5) (xb : BitVec 5)
  /-- R113: Task: FP64 square root, correctly rounded. -/
  | fsqrt (k : Fin 4) (xd : BitVec 5) (xa : BitVec 5)
  /-- R113: Task: FP64 to FP32. -/
  | cvtds (k : Fin 4) (xd : BitVec 5) (xa : BitVec 5)
  /-- R113: Task: FP32 to FP64. -/
  | cvtsd (k : Fin 4) (xd : BitVec 5) (xa : BitVec 5)
  /-- R113: Task: I64 to FP64. -/
  | cvtld (k : Fin 4) (xd : BitVec 5) (xa : BitVec 5)
  /-- R113: Task: FP64 to I64. -/
  | cvtdl (k : Fin 4) (xd : BitVec 5) (xa : BitVec 5)
  /-- R113: Task: sets one bit. -/
  | bset (k : Fin 4) (xd : BitVec 5) (xa : BitVec 5) (xb : BitVec 5)
  /-- R113: Task: clears one bit. -/
  | bclr (k : Fin 4) (xd : BitVec 5) (xa : BitVec 5) (xb : BitVec 5)
  /-- R113: Task: T := one bit of XA. -/
  | btst (k : Fin 4) (xa : BitVec 5) (xb : BitVec 5)
  /-- R113: Task: extracts a bit field. -/
  | bfx (k : Fin 4) (xd : BitVec 5) (xa : BitVec 5) (xb : BitVec 5) (xc : BitVec 5)
  /-- R113: Task: inserts a bit field. -/
  | bfi (k : Fin 4) (xd : BitVec 5) (xa : BitVec 5) (xb : BitVec 5) (xc : BitVec 5)
  /-- R113: Task: counts leading zeros. -/
  | clz (k : Fin 4) (xd : BitVec 5) (xa : BitVec 5)
  /-- R113: Task: counts set bits. -/
  | popc (k : Fin 4) (xd : BitVec 5) (xa : BitVec 5)
  /-- R113: Task: rotates left. -/
  | rol (k : Fin 4) (xd : BitVec 5) (xa : BitVec 5) (xb : BitVec 5)
  /-- R113: Task: rotates right. -/
  | ror (k : Fin 4) (xd : BitVec 5) (xa : BitVec 5) (xb : BitVec 5)
  /-- R113: Task: sign-extends XA[31:0]. -/
  | sxw (k : Fin 4) (xd : BitVec 5) (xa : BitVec 5)
  /-- R113: Task: zero-extends XA[31:0]. -/
  | zxw (k : Fin 4) (xd : BitVec 5) (xa : BitVec 5)
  /-- R113: Task: sign-extends XA[15:0]. -/
  | sxh (k : Fin 4) (xd : BitVec 5) (xa : BitVec 5)
  /-- R113: Task: sign-extends XA[7:0]. -/
  | sxb (k : Fin 4) (xd : BitVec 5) (xa : BitVec 5)
  /-- R112: Task: PC-relative branch if COND holds. -/
  | taskBr (k : Fin 4) (cond : BitVec 4) (ofs : BitVec 22)
  /-- R112: Task: X31 := PC + 4 and PC-relative jump. -/
  | taskCall (k : Fin 4) (ofs : BitVec 22)
  /-- R112: Task: PC := X31 if COND holds. -/
  | taskRet (k : Fin 4) (cond : BitVec 4)
  /-- R112: Task: PC := XA[27:0]. -/
  | jr (k : Fin 4) (xa : BitVec 5)
  /-- R109: Task: reads SR. -/
  | taskMfs (k : Fin 4) (xd : BitVec 5)
  /-- R109: Task: writes SR. -/
  | taskMts (k : Fin 4) (xa : BitVec 5)
  /-- R112: Task: no operation. -/
  | taskNop (k : Fin 4)
  /-- R120: Task: ORs flags into the FLAGS of another task. -/
  | fset (k : Fin 4) (xa : BitVec 5) (xb : BitVec 5)
  /-- R113: Task: clears bits of its own FLAGS. -/
  | fclr (k : Fin 4) (xb : BitVec 5)
  /-- R120: Task: waits until any masked flag is set, with timeout. -/
  | fwaito (k : Fin 4) (xd : BitVec 5) (xa : BitVec 5) (xb : BitVec 5)
  /-- R120: Task: waits until all masked flags are set, with timeout. -/
  | fwaita (k : Fin 4) (xd : BitVec 5) (xa : BitVec 5) (xb : BitVec 5)
  /-- R120: Task: FWAITO that clears the masked flags at the wake. -/
  | fwaitoc (k : Fin 4) (xd : BitVec 5) (xa : BitVec 5) (xb : BitVec 5)
  /-- R120: Task: FWAITA that clears the masked flags at the wake. -/
  | fwaitac (k : Fin 4) (xd : BitVec 5) (xa : BitVec 5) (xb : BitVec 5)
  /-- R113: Task: XD := FLAGS. -/
  | fget (k : Fin 4) (xd : BitVec 5)
  /-- R120: A waiting task's flag condition is met and it becomes READY. -/
  | flagWaitWake (n : Fin 64)
  /-- R122: Task: delays for n ticks. -/
  | dly (k : Fin 4) (xa : BitVec 5)
  /-- R122: Task: delays until a given tick. -/
  | dlyu (k : Fin 4) (xa : BitVec 5)
  /-- R123: At a tick the scheduler releases each expired delay or timeout, making the task READY. -/
  | delayRelease (k : Fin 4)
  /-- R118: Task: moves to the tail of its priority level. -/
  | yield (k : Fin 4)
  /-- R113: Task: XD := the current tick number. -/
  | tnum (k : Fin 4) (xd : BitVec 5)
  /-- R136: Task: becomes DORMANT, ending a cyclic task's cycle and publishing its output image when OMODE = 0. -/
  | exit (k : Fin 4)
  /-- R129: Task: writes an item to a queue, waiting when full or not the producer. -/
  | qpush (k : Fin 4) (xa : BitVec 5) (xb : BitVec 5) (xc : BitVec 5)
  /-- R129: Task: reads the oldest committed item, waiting when empty. -/
  | qpop (k : Fin 4) (xd : BitVec 5) (xa : BitVec 5) (xc : BitVec 5)
  /-- R130: Task: commits the packet under construction. -/
  | qcmt (k : Fin 4) (xa : BitVec 5)
  /-- R130: Task: rewinds the packet under construction. -/
  | qrwd (k : Fin 4) (xa : BitVec 5)
  /-- R130: Task: drops the rest of the current packet. -/
  | qdrop (k : Fin 4) (xd : BitVec 5) (xa : BitVec 5)
  /-- R113: Task: XD := LEVEL of a queue. -/
  | qlvl (k : Fin 4) (xd : BitVec 5) (xa : BitVec 5)
  /-- R129: An item or place becomes available and is assigned to the first waiting task, which becomes READY. -/
  | queueWaiterServed (q : Fin 64)
  /-- R132: Task: launches a token through the core's token port with FTAG of the next tick. -/
  | tok (k : Fin 4) (xa : BitVec 5) (xb : BitVec 5)
  /-- R133: Task: launches a token with FTAG from XC. -/
  | tokt (k : Fin 4) (xa : BitVec 5) (xb : BitVec 5) (xc : BitVec 5)
  /-- R133: A place frees in a full token-port buffer and the waiting TOK completes. -/
  | tokenPortPlaceFreed (k : Fin 4)
  /-- R125: Task: evaluates a timer instance as TON, TOF or TP. -/
  | tmr (k : Fin 4) (xd : BitVec 5) (xa : BitVec 5) (xb : BitVec 5)
  /-- R126: At the tick at which elapsed time reaches PT, a running instance sets the notified flag. -/
  | timerNotification (i : Fin 1024)
  /-- R118: A READY task of lower PRIO preempts the running task at the next instruction boundary. -/
  | taskPreemption (k : Fin 4)
  /-- R118: 40 cycles after a boundary, block, end or fault, the next task's first instruction issues. -/
  | taskContextSwitch (k : Fin 4)
  /-- R119: A write of 1 to REQ_START starts a DORMANT task. -/
  | reqStart (n : Fin 64)
  /-- R119: A write of 1 to REQ_KILL kills the task, at once if not running. -/
  | reqKill (n : Fin 64)
  /-- R119: A running task being killed becomes DORMANT at its next instruction boundary. -/
  | killAtBoundary (n : Fin 64)
  /-- R120: A write to TASKn_FSET sets flags of the task. -/
  | taskFset (n : Fin 64) (bits : BitVec 32)
  /-- R134: A token arriving at a task result register replaces the previous one, counts and may notify a task. -/
  | tokenAtResultRegister (k : Nat)
  /-- R131: A read of Qq_IN captures OUT, DROP, RWD and LEVEL. -/
  | queueInRead (q : Fin 64)
  /-- R136: At a cyclic task's cycle start the image unit publishes, latches and starts the task, or counts an overrun. -/
  | cycleStart (n : Fin 64)
  /-- R145: A cyclic task has not completed EXIT by its watchdog tick. -/
  | watchdogExpiry (n : Fin 64)
  /-- R95: At the next tick after a program-region stop the loop region and axis cells are signalled and apply LSP or WDSTOP. -/
  | loopRegionStopSignal
  /-- R151: A write of 1 to CHG_CTL.GO checks the change record. -/
  | changeGo
  /-- R151: The change-record check ends with REFUSE, or BUSY and CHG_WAIT set. -/
  | changeCheckEnd
  /-- R153: A write of 1 to ABORT abandons the switches not yet made. -/
  | changeAbort
  /-- R158: An accepted change of the quadrature state counts ±1 or is illegal. -/
  | quadStateChange (e : Fin 32) (a : Bool) (b : Bool)
  /-- R159: An accepted rising step edge counts by the direction level. -/
  | stepEdge (e : Fin 32) (dir : Bool) (b : Bool)
  /-- R160: An accepted Hall state change counts ±1 or is illegal. -/
  | hallSectorChange (e : Fin 32) (u : Bool) (v : Bool) (w : Bool)
  /-- R172: When spacing allows and LAG ≠ 0, one count is emitted on the pulse pins. -/
  | pulseEmit (k : Fin 8)
  /-- R161: A write to En_ADD adds a signed value to COUNT and ADJ. -/
  | enAdd (e : Fin 32) (v : BitVec 32)
  /-- R165: At a sample instant the cell launches position and speed tokens, or starts a serial frame. -/
  | encoderSampleInstant (e : Fin 32)
  /-- R164: A BiSS or SSI frame ends good, bad, without start bit or overlapped, updating COUNT and launching tokens. -/
  | serialFrameEnd (e : Fin 32) (ack : Bool) (data : BitVec 40) (nerr : Bool) (nwarn : Bool) (chk : BitVec 6)
  /-- R169: An accepted latch edge records count and time in the FIFO and may notify a task. -/
  | latchEvent (e : Fin 32) (rising : Bool)
  /-- R170: A read of En_LCNT removes the oldest latch entry and places its time in En_LTIME. -/
  | latchCountRead (e : Fin 32)
  /-- R161: A read of En_CNT_LO captures CNT_HI, UP, DOWN and ADJ. -/
  | encoderCountRead (e : Fin 32)
  /-- R171: A read of En_POUT captures LAG and ACC. -/
  | poutRead (k : Fin 8)
  /-- R177: A write of 1 to GO latches TGT as a new target, or is refused. -/
  | axisGo (a : Fin 32)
  /-- R179: A write of 1 to STOP requests a programmed stop. -/
  | axisStop (a : Fin 32)
  /-- R179: A write of 1 to QSTOP requests a quick stop. -/
  | axisQstop (a : Fin 32)
  /-- R179: A write of 1 to CLR leaves HALTED for IDLE. -/
  | axisClr (a : Fin 32)
  /-- R176: At the first tick after a move or stop request the cell replans from its present state, applying software limits. -/
  | planTakesEffect (a : Fin 32)
  /-- R179: The plan reaches rest, the axis takes its state after the stop and reports rest to the safety region. -/
  | axisAtRest (a : Fin 32)
  /-- R181: At a sample instant the cell launches its set-point tokens and checks following error. -/
  | axisSampleInstant (a : Fin 32)
  /-- R183: A read of AXa_POS_LO captures POS_HI, VEL and ACC. -/
  | axisPosRead (a : Fin 32)
  /-- R186: A write of 1 to START starts the path, or is refused. -/
  | groupStart (g : Fin 8)
  /-- R186: A write of 1 to STOP stops the path along the contour. -/
  | groupStop (g : Fin 8)
  /-- R186: A write of 1 to QSTOP quick-stops the path along the contour. -/
  | groupQstop (g : Fin 8)
  /-- R186: A write of 1 to FLUSH stops the path and discards the remaining segments. -/
  | flush (g : Fin 8)
  /-- R185: The group takes the next committed segment packet and executes it, or consumes it as bad. -/
  | segmentStart (g : Fin 8)
  /-- R187: A segment completes and DONE is incremented. -/
  | segmentComplete (g : Fin 8)
  /-- R186: The path stops at the end of the last committed segment and STARVE is incremented. -/
  | pathStarved (g : Fin 8)
  /-- R191: At the first turning point after an output instant the stage value becomes CMP for the three phases. -/
  | compareUpdate (a : Fin 8)
  /-- R193: An asserted TRIPa turns all six gates inactive and sets TRIPPED. -/
  | trip (a : Fin 8) (asserted : Bool)
  /-- R193: A write of 1 to TRIPPED clears the trip unless the pin is still asserted. -/
  | trippedClear (a : Fin 8)
  /-- R192: At the first valley after the last hold cause ended, the gates become active. -/
  | gatesResume (a : Fin 8)
  /-- R196: At the next tick after a new target the stepper replans its profile. -/
  | stepperReplan (n : Fin 16)
  /-- R196: A microstep event changes POS by 1 and the phase current codes. -/
  | microstep (n : Fin 16)
  /-- R197: After blanking, a comparator trip puts the phase into decay. -/
  | chopComparatorTrip (n : Fin 16) (ph : Fin 2)
  /-- R197: After the minimum decay, the phase returns to on when the current is below the lower threshold. -/
  | chopDecayEnd (n : Fin 16) (ph : Fin 2)
  /-- R198: Every 1,000 ticks the channel adjusts HYST and the current code from the window's counts and load. -/
  | hysteresisWindowEnd (n : Fin 16)
  /-- R199: At rest for THOLD ms, ICUR := IHOLD. -/
  | holdCurrent (n : Fin 16)
  /-- R205: A sigma-delta conversion ends and its result becomes the latest result of its input. -/
  | conversionResult (k : Fin 16) (raw : BitVec 32) (ovl : Bool)
  /-- R208: A write of 1 to REQ raises an urgent request, or is refused. -/
  | urgentReq (k : Fin 16)
  /-- R208: At its tick instant a tick trigger raises an urgent request. -/
  | urgentTrigger (k : Fin 16)
  /-- R208: The urgent conversion delivers its result and the sequence resumes. -/
  | urgentResult (k : Fin 16) (raw : BitVec 32) (ovl : Bool)
  /-- R214: A read of SDk_URES captures SDk_UINFO. -/
  | uresRead (k : Fin 16)
  /-- R215: A read of AINn_RES captures AINn_RINFO. -/
  | resRead (n : Fin 64)
  /-- R213: At its sample instant an input launches a token with its latest result. -/
  | inputTokenInstant (n : Fin 64)
  /-- R217: Calibration command ZERO starts an input calibration and measures OFFSET. -/
  | zero (tgt : BitVec 2) (ch : BitVec 6) (gain : BitVec 3) (navg : BitVec 4)
  /-- R217: Calibration command SPAN computes GAIN, and OFFSET for outputs. -/
  | span (tgt : BitVec 2) (ch : BitVec 6) (gain : BitVec 3) (navg : BitVec 4)
  /-- R217: Calibration command STORE writes the set to MRAM and ends the calibration. -/
  | store (tgt : BitVec 2) (ch : BitVec 6) (gain : BitVec 3) (navg : BitVec 4)
  /-- R217: Calibration command CANCEL ends the calibration without writing. -/
  | cancel (tgt : BitVec 2) (ch : BitVec 6) (gain : BitVec 3) (navg : BitVec 4)
  /-- R217: Calibration command OUTLO starts an output calibration at the low code. -/
  | outlo (tgt : BitVec 2) (ch : BitVec 6) (gain : BitVec 3) (navg : BitVec 4)
  /-- R217: Calibration command OUTHI drives the high calibration code. -/
  | outhi (tgt : BitVec 2) (ch : BitVec 6) (gain : BitVec 3) (navg : BitVec 4)
  /-- R217: A calibration command ends, BUSY clears and DONE is set. -/
  | calCommandDone (avg : BitVec 32)
  /-- R221: At a pair's sample instant the SAR aperture opens, or the conversion is delayed and COLL counts. -/
  | sarSampleInstant (p : Fin 10)
  /-- R220: At 200 ns the pair's conversion ends and tokens are launched to its subscribers. -/
  | sarConversionEnd (p : Fin 10) (codeA : BitVec 16) (codeB : BitVec 16)
  /-- R225: The DAC takes the new code 500 ns after the owner's output instant or commit tick, or within 1 µs of a write. -/
  | dacUpdate (n : Fin 32)
  /-- R225: A write of AFORCE drives or releases the alarm level. -/
  | aforceWrite (n : Fin 32) (x : Bool)
  /-- R227: The amplifier at its drive limit for 10 µs sets HEADROOM and HRSEEN. -/
  | headroomChange (n : Fin 32) (x : Bool)
  /-- R230: CD sets or clears after 2 bit times of tone above or below CDTH; clearing commits the received packet. -/
  | carrierDetectChange (b : Fin 4) (cd : Bool)
  /-- R231: A committed transmit packet starts a carrier burst. -/
  | fskBurstStart (b : Fin 4)
  /-- R231: The carrier ends at the first zero crossing after the last stop bit. -/
  | fskBurstEnd (b : Fin 4)
  /-- R232: A received byte is written to RXQ, or the packet is rewound and bytes lost. -/
  | fskByteReceived (b : Fin 4) (data : BitVec 8) (par : Bool) (frm : Bool)
  /-- R233: A pending CHAN or EN change takes effect when the modem is idle. -/
  | chanChangeTakesEffect (b : Fin 4)
  /-- R236: At Tc the link cycle starts. -/
  | linkCycleStart (k : Fin 20)
  /-- R236: At Tc + 100 ns the engine snapshots every station's output image. -/
  | outputImageSnapshot (k : Fin 20)
  /-- R239: At Tc + 4 × TXD the frame is sent down the line. -/
  | frameTransmit (k : Fin 20)
  /-- R249: A returned station block arrives and is written to RXQ as a packet. -/
  | stationBlockReceived (k : Fin 20) (st : Fin 8) (bytes : List (BitVec 8)) (rtt : BitVec 32)
  /-- R247: At Tc + CMPL each present station is judged received or missed. -/
  | completionInstant (k : Fin 20)
  /-- R248: At Tc + CMPL + 4m ns an enabled map launches its token. -/
  | inputTokenMap (k : Fin 20) (m : Fin 32)
  /-- R235: The receiver gains lock after 128 valid code groups or loses it after 4 invalid in 64. -/
  | symbolLockChange (k : Fin 20) (x : Bool)
  /-- R246: A port not sending frames returns each received frame. -/
  | framePassThrough (k : Fin 20) (bytes : List (BitVec 8))
  /-- R251: A read of Ss_CYCLES captures IN_OK, IN_MISS, OUT_ACK and OUT_NACK. -/
  | cyclesRead (k : Fin 20) (st : Fin 8)
  /-- R256: A received frame is stamped, filtered and written to RXQ, or counted as error, filtered or lost. -/
  | ethFrameReceived (p : Fin 4) (bytes : List (BitVec 8)) (fcs : Bool) (age : BitVec 32)
  /-- R257: A frame from a transmit queue starts when its gate allows, or a bad packet is consumed. -/
  | ethFrameTransmit (p : Fin 4)
  /-- R260: The FCS has left and a requested stamp enters the time-stamp queue or is lost. -/
  | ethFrameTransmitEnd (p : Fin 4)
  /-- R260: A read of ETHp_TSQ_ID removes the oldest stamp entry into the stamp registers. -/
  | tsqIdRead (p : Fin 4)
  /-- R263: A read of ETHp_TXOK captures the other frame counters. -/
  | txokRead (p : Fin 4)
  /-- R261: A gate control list entry begins at its instant and opens its gates. -/
  | gateControlEntry (p : Fin 4)
  /-- R262: A write of 1 to SWAP requests a change of gate control list. -/
  | swap (p : Fin 4)
  /-- R262: At the next permitted list start the new bank takes effect. -/
  | gclSwapTakesEffect (p : Fin 4)
  /-- R267: A write of 1 to a TXREQ bit requests a transmit buffer. -/
  | txreq (c : Fin 4) (bits : Word)
  /-- R268: A write of 1 to a TXCAN bit cancels a transmit buffer. -/
  | txcan (c : Fin 4) (req : Word) (bits : Word)
  /-- R267: The controller starts the SOF of the buffer that would win arbitration. -/
  | canTransmitStart (c : Fin 4) (tdcv : BitVec 12)
  /-- R267: A transmit request ends, writing RESULT and SOF time and setting TXOK or TXFAIL. -/
  | canTransmitEnd (c : Fin 4) (lost : Bool)
  /-- R271: A valid received frame is filtered and written to RXQ, or counted. -/
  | canFrameReceived (c : Fin 4) (xtd : Bool) (rtr : Bool) (id : BitVec 29) (fdf : Bool) (brs : Bool) (esi : Bool) (dlc : BitVec 4) (data : List (BitVec 8)) (age : BitVec 32)
  /-- R272: A bus error changes the error counters and state, and bus-off ends every requested buffer. -/
  | canBusError (c : Fin 4) (lec : Fin 6) (dom : Bool)
  /-- R272: A write of 1 to RECOV starts bus-off recovery. -/
  | recov (c : Fin 4)
  /-- R272: After 128 sequences of 11 recessive bits the controller leaves bus-off. -/
  | busOffRecoveryComplete (c : Fin 4)
  /-- R273: A basic cycle starts at the master tick or at a received reference message. -/
  | basicCycleStart (c : Fin 4) (b : BitVec 6) (age : BitVec 32)
  /-- R273: A schedule column starts and its buffer is sent in its window. -/
  | columnStart (c : Fin 4)
  /-- R273: No reference for 1.1 × BCYC ticks sets MISSREF and clears SYNC. -/
  | missref (c : Fin 4)
  /-- R274: A read of CANc_RXOK captures RXFILT and RXLOST. -/
  | canRxokRead (c : Fin 4)
  /-- R276: A host access through BAR0 or BAR2 is mapped, divided or aborted. -/
  | pcieBarAccess (bar2 : Bool) (write : Bool) (off : BitVec 30) (len : BitVec 13) (data : List (BitVec 8))
  /-- R277: A write of HQh_HOST updates the host count or is ignored with HOSTERR. -/
  | hostWrite (h : Fin 32) (v : Word)
  /-- R277: With credit or a place, the device moves one item between hardware queue and host ring and posts DEV. -/
  | hostQueueTransfer (h : Fin 32) (item : DWord)
  /-- R278: After a DEV write-back the vector is sent, at most once per tick. -/
  | msixVector (v : Fin 34)
  /-- R279: PERST_N or link loss resets the endpoint and clears host queue and stream enables. -/
  | perstN
  /-- R282: xSPI operation 0x1 reads LEN bytes into BUF. -/
  | xspiRead (len : BitVec 16)
  /-- R282: xSPI operation 0x2 programs up to one page from BUF, or is refused. -/
  | xspiProgram (len : BitVec 16)
  /-- R282: xSPI operation 0x3 erases a 4 KiB sector, or is refused. -/
  | xspiEraseSector
  /-- R282: xSPI operation 0x4 erases a 64 KiB block, or is refused. -/
  | xspiEraseBlock
  /-- R282: An xSPI operation ends, BUSY clears and DONE is set. -/
  | xspiDone
  /-- R285: A write of TBk_RATE sets the rate from the next cycle, or is ignored. -/
  | rateWrite (k : Fin 4) (v : Word)
  /-- R286: A write of 1 to SET requests loading NEW_S and NEW_NS into a time base, or is refused. -/
  | set_ (k : Fin 4)
  /-- R286: A write of 1 to STEP requests adding NEW_S and NEW_NS to a time base, or is refused. -/
  | step (k : Fin 4)
  /-- R286: At the second TIME_CLK cycle the time base changes and SET or STEP clears. -/
  | setStepActs (k : Fin 4)
  /-- R287: A write of 1 to SNAP copies all four time bases into the SNk registers. -/
  | snap
  /-- R287: A read of TBk_NS captures FRAC, SEC_LO and SEC_HI. -/
  | tbNsRead (k : Fin 4)
  /-- R292: A matched token or event copy is judged for recording and may fire the unit. -/
  | tapCopy
  /-- R291: The capture FIFO writes one record to the area, advancing POST, DONE or segments. -/
  | captureFifoWrite (u : Fin 8)
  /-- R295: A write of 1 to ARM arms the unit or is refused. -/
  | arm (u : Fin 8)
  /-- R297: A write of 1 to FIRE fires an armed unit. -/
  | fire (u : Fin 8)
  /-- R296: A write of 1 to STOP moves the unit to DONE. -/
  | captureStop (u : Fin 8)
  /-- R298: Assertion or release of the ARM net arms or stops following units. -/
  | armNetChange (pin : Bool)
  /-- R298: A transition of the FIRE net to asserted fires following armed units. -/
  | fireNetAssertion (pin : Bool)
  /-- R298: After 1 µs the firing unit releases the FIRE net. -/
  | fireNetRelease (pin : Bool)
  /-- R295: Within 500 ns of a completed segment the unit is armed in the next segment. -/
  | segmentRearm (u : Fin 8)
  /-- R299: FLUSH ticks after its first record, a block is filled with FILL records and made ready. -/
  | streamFlush (u : Fin 8)
  /-- R299: The stream engine sends the oldest ready block to the ring when credit allows. -/
  | streamBlockSend
  /-- R300: A write of DCS_HOST frees blocks or is ignored with HOSTERR. -/
  | dcsHostWrite (v : Word)
  /-- R301: A read of DCu_SEEN captures REC, SKIP, LOST, IDLE and DISC. -/
  | seenRead (u : Fin 8)
  /-- R307: An event reaching the Sediment log merges as a repeat, takes a new record, or is counted by flood, full or freeze. -/
  | logEvent
  /-- R308: At a window end the log ends FLOOD and writes a flood summary when the count stayed below FLOODN. -/
  | floodWindowEnd
  /-- R310: A write of FREEZE = 1 stops MRAM writes and holds events. -/
  | freezeSet
  /-- R310: A write of FREEZE = 0 processes the held events in order. -/
  | freezeClear
  /-- R310: A freeze lasting 1,000,000 ticks is ended, FRZTO set and code 0xF1 logged. -/
  | freezeTimeout
  /-- R310: The start-up scan ends, READY reads 1 and held events are passed to the log. -/
  | logReady
  /-- R311: A read of SED_EVT captures the other log counters. -/
  | sedEvtRead
  /-- R325: At every tick n with n mod 50 = 0 the device pulses PAIR_HB_OUT. -/
  | heartbeat
  /-- R325: No partner pulse within ±2 µs of its tick clears HBOK; three in a row start a takeover. -/
  | heartbeatMissed
  /-- R322: An ALONE device sees an ACTIVE partner and enters SYNCING. -/
  | partnerActiveSeen (pref : Bool) (epoch : BitVec 32) (tb0 : Nat)
  /-- R322: No ACTIVE partner within 10 or 20 ms makes an ALONE device ACTIVE. -/
  | pairingTimeout
  /-- R326: At a boundary tick a checkpoint starts, unless the previous one is late. -/
  | checkpointBoundary
  /-- R327: An area's epoch flips when its owner is between firings or cycles. -/
  | areaFlip (i : Fin 384)
  /-- R328: When every area has flipped and every dirty line is sent, the commit marker and CRC are sent. -/
  | commitMarker
  /-- R328: The standby applies the received lines after an intact marker and acknowledges. -/
  | checkpointApply (cp : Machine.Checkpoint)
  /-- R328: The acknowledgement arrives and the checkpoint is committed. -/
  | checkpointAck (standby : Bool)
  /-- R328: Overflow, a full staging buffer or a missing acknowledgement abandons the checkpoint and starts the full stream. -/
  | checkpointAbandon (staging : Bool)
  /-- R329: Every 50 µs time messages over the pair link set the standby's TB0 RATE. -/
  | timeMessage
  /-- R330: A write of 1 to RESIGN makes an ACTIVE device send the resign message. -/
  | resign
  /-- R330: A resign message reaching the standby starts a takeover. -/
  | resignMessage
  /-- R330: The standby applies the last committed checkpoint, sets EPOCH, becomes ACTIVE and releases its regions. -/
  | takeover
  /-- R330: At the next tick after a takeover, slots, tasks, links and axes restart. -/
  | takeoverExecutionStart
  /-- R332: An ACTIVE device that sees a higher epoch adopts it or takes FAILED and stops its frames and direct I/O. -/
  | higherEpochReaction (seen : BitVec 32)
  /-- R334: After 10 clean checkpoints the preferred standby requests a REVERT hand-back at the next boundary. -/
  | handBackRequest
  /-- R334: READMIT from the service port self-tests a FAILED device. -/
  | pairReadmit
  /-- R334: A passed self-test makes a WARM reset and the device ALONE. -/
  | pairSelfTestEnd (pass : Bool)
  /-- R335: A read of CP_BEGUN captures CP_COMMIT, CP_ABORT and INPROG. -/
  | cpBegunRead
  /-- R368: An accepted PFAIL_N logs and freezes, makes retentive stores durable, commits a checkpoint and resigns. -/
  | pfailN
  /-- R368: At the end of the PFAIL_N sequence the device enters QUIESCE. -/
  | pfailQuiesce
  /-- R338: A write of 1 to PWR_CTL.QUIESCE gates the clocks and sets outputs to their reset state. -/
  | quiesce
  /-- R338: A write of 1 to PWR_CTL.RUN from the service port or host leaves QUIESCE. -/
  | run_ (host : Bool)
  /-- R338: A write of 1 to PWR_CTL.DEEP powers down all but MRAM and the supervisor. -/
  | deep
  /-- R343: Every 100 µs both safety cores evaluate the functions, compare and drive outputs and stop lines. -/
  | safetyCycle (raw : BitVec 24) (stable : BitVec 24) (fb : BitVec 8) (agree : Bool) (memOk : Bool) (clkOk : Bool)
  /-- R349: STOP1_T after the demand, a STOPPING function becomes TRIPPED and applies STOP 0. -/
  | stop1Timeout (f : Fin 16)
  /-- R350: Each TPOk pulses low for TPW once per TPP and its inputs are checked. -/
  | testPulse (k : Fin 4) (zeros : BitVec 24)
  /-- R351: Each output that is on is switched off for OPW once per OPP and read back. -/
  | offPulse (m : Fin 8) (low : Bool)
  /-- R358: When every function is TRIPPED or FAULT, the requested safety region reset begins. -/
  | safetyPreResetComplete
  /-- R358: INIT ends and the functions leave TRIPPED under their rules. -/
  | safetyInitEnd (crcEqual : Bool)
  /-- R366: PLLLOCK reads 1 and the chip-level units are released. -/
  | pllLock
  /-- R362: Loss of REFCLK_IN or root-PLL lock is a device fault and the PLL holds its frequency. -/
  | clockFault (ref : Bool)
  /-- R362: 1 ms after a clock fault the domain frequencies become unspecified. -/
  | heldFrequencyExpiry
  /-- R361: At each 32 µs modulation period start the spread follows SSC_EN. -/
  | sscPeriodStart
  /-- R366: AVDD or DVDD_A low for 10 µs is a block fault of AB0 to AB3. -/
  | companionSupplyLow
  /-- R381: TJ reaching WLIM sets TWARN. -/
  | twarn (tj : BitVec 16)
  /-- R381: TJ at 120 °C raises a chip-unit fault. -/
  | overtemperatureFault
  /-- R384: The boot ROM reads the directory and loads each region from a valid slot. -/
  | bootRom (readFail : BitVec 10)
  /-- R384: A write of 1 to LOOP_GO releases the loop region from its boot hold. -/
  | loopGo
  /-- R385: ROLLFWD blows anti-rollback fuses up to VER of the active image. -/
  | rollfwd (r : Fin 5) (fail : Bool)
  /-- R388: The device gives a fresh 48-byte nonce. -/
  | serviceChallenge
  /-- R388: A valid signature opens a session; a wrong one closes the port for 10 s. -/
  | serviceResponse (sig : BitVec 768)
  /-- R388: SVC_END ends the session, clearing force entries and the test multiplexer. -/
  | svcEnd
  /-- R388: 600 s without a service transfer ends the session. -/
  | sessionTimeout
  /-- R388: 10 s after a wrong signature the port opens again. -/
  | portLockExpiry
  /-- R389: CLRLOG erases the Sediment log and writes code 0xF2, or is refused. -/
  | clrlog
  /-- R390: A service write of a force entry starts or ends forcing of a DEST. -/
  | force (i : Fin 32) (en : Bool) (key : BitVec 16) (val : BitVec 32)
  /-- R391: A service command selects internal signals onto TMUX0 to TMUX7. -/
  | testMultiplexerSelection (pin : Fin 8) (off : Bool) (r : Fin 5) (code : BitVec 8)
  /-- R115: A task core issues an illegal word, or fetches outside the shared program SRAM and tightly coupled memories, and takes task fault 0x01 or 0x04. -/
  | taskIllegalInstruction (k : Fin 4) (w : BitVec 32)
  /-- R255: SGMII auto-negotiation with the PHY completes or the link drops, setting LINKUP and SPEED of the Ethernet port. -/
  | sgmiiLinkChange (p : Fin 4) (up : Bool) (speed : Fin 3)
  /-- R275: The PCIe link trains to a generation and width, setting LINKUP, GEN and WIDTH. -/
  | pcieLinkTrained (gen : Fin 3) (width : Fin 3)
  /-- R335: The pair link to the partner comes up or goes down, changing PAIR_STAT.LINKUP. -/
  | pairLinkChange (up : Bool) (role : Fin 5)
  /-- R325: A pulse from the partner arrives on PAIR_HB_IN within ±2 µs of its tick, which sets HBOK and ends a run of missed heartbeats. -/
  | partnerHeartbeatReceived
  deriving DecidableEq, Repr

end Sys2Proof
end

