-- ==== Sys2Proof/Decode.lean ====
section
/-!
DEFINITION. The command that a word spells by the bits of the opcode table. No row of this table gives bits: the block takes commands, not
encoded words, so no word spells one.
-/

namespace Sys2Proof

/-- The command of a word. -/
def decodeTableWord (_nbits _w : Nat) : Option Instr := none

end Sys2Proof
end

