-- ==== Sys2Proof/Machine/Numeric.lean ====
section
/-!
DEFINITION. Integer and fixed-point arithmetic of R44, R66, R67 and R395: exact integers first, then the narrowing the
rule gives.
-/

namespace Sys2Proof.Machine

/-- `n / d` rounded to the nearest integer, ties to even (R395); `d` is positive. -/
def rne (n : Int) (d : Nat) : Int :=
  let q := n / (d : Int)
  let r := n % (d : Int)
  if 2 * r < d then q else if 2 * r > d then q + 1 else if q % 2 = 0 then q else q + 1

/-- `n / d` rounded to the nearest integer for a divisor of either sign. -/
def rneInt (n d : Int) : Int := if d < 0 then rne (-n) d.natAbs else rne n d.natAbs

/-- Largest value of a signed field. -/
def maxS (w : Nat) : Int := 2 ^ (w - 1) - 1

/-- Smallest value of a signed field. -/
def minS (w : Nat) : Int := -(2 ^ (w - 1))

/-- Clamp to a signed field: the word and whether it clamped (R66). -/
def satS (w : Nat) (x : Int) : BitVec w × Bool :=
  if x > maxS w then (BitVec.ofInt w (maxS w), true)
  else if x < minS w then (BitVec.ofInt w (minS w), true)
  else (BitVec.ofInt w x, false)

/-- Whether an integer lies in a signed field. -/
def fitsS (w : Nat) (x : Int) : Bool := decide (minS w ≤ x) && decide (x ≤ maxS w)

/-- One bit of a word written. -/
def setBit {w : Nat} (x : BitVec w) (i : Nat) (b : Bool) : BitVec w :=
  if b then x ||| (1#w <<< i) else x &&& ~~~(1#w <<< i)

/-- Result, carry out of the top bit, and two's-complement overflow. -/
structure AddOut (w : Nat) where
  res : BitVec w
  c : Bool
  v : Bool
  deriving DecidableEq, Repr

/-- Wrapping sum with C and V (R38, R44). -/
def addOut {w : Nat} (a b : BitVec w) : AddOut w :=
  { res := a + b, c := decide (a.toNat + b.toNat ≥ 2 ^ w), v := !fitsS w (a.toInt + b.toInt) }

/-- Wrapping difference; C is not-borrow. -/
def subOut {w : Nat} (a b : BitVec w) : AddOut w :=
  { res := a - b, c := decide (b.toNat ≤ a.toNat), v := !fitsS w (a.toInt - b.toInt) }

/-- Arithmetic shift right; a count of the width or more gives all sign bits. -/
def asrW {w : Nat} (a : BitVec w) (n : Nat) : BitVec w := BitVec.sshiftRight a (if n < w then n else w)

/-- Logical shift right; a count of the width or more gives 0. -/
def lsrW {w : Nat} (a : BitVec w) (n : Nat) : BitVec w := if n < w then a >>> n else 0#w

/-- Shift left; a count of the width or more gives 0. -/
def lslW {w : Nat} (a : BitVec w) (n : Nat) : BitVec w := if n < w then a <<< n else 0#w

/-- The signed value of the low `w` bits of a natural number. -/
def sNat (w : Nat) (n : Nat) : Int := (BitVec.ofNat w n).toInt

/-- The low `w` bits of an integer as a natural number. -/
def uInt (w : Nat) (x : Int) : Nat := (BitVec.ofInt w x).toNat

/-- Number of leading zeros of a `w`-bit number. -/
def clzNat (w n : Nat) : Nat := if n = 0 then w else w - 1 - Nat.log2 n

/-- Number of set bits among the low `w` bits. -/
def popcNat : Nat → Nat → Nat
  | 0, _ => 0
  | w + 1, n => n % 2 + popcNat w (n / 2)

/-- Integer square root, one result bit per unit of fuel, from bit `k - 1` down. -/
def isqrtAux (n : Nat) : Nat → Nat → Nat
  | 0, r => r
  | k + 1, r => let t := r + 2 ^ k; isqrtAux n k (if t * t ≤ n then t else r)

/-- Integer square root of a number below `2 ^ (2 * bits)`. -/
def isqrt (bits n : Nat) : Nat := isqrtAux n bits 0

/-- Quotient rounded up, as in R85. -/
def ceilDiv (a b : Nat) : Nat := (a + b - 1) / b

/-- One step towards a limit: `d` clamped to `± step`. -/
def clampI (d step : Int) : Int := if d > step then step else if d < -step then -step else d

end Sys2Proof.Machine
end

