-- ==== Sys2Proof/Machine/Float.lean ====
section
/-!
DEFINITION. IEEE 754 binary32 and binary64 arithmetic with the fixed choices of R68 (and R113 for binary64): round to
nearest even, subnormals flushed on input and output, one quiet NaN, sticky exception flags and no trap. A number is
a bit pattern held as a natural number.
-/

namespace Sys2Proof.Machine

/-- A binary format: exponent bits and fraction bits. -/
structure Fmt where
  eb : Nat
  fb : Nat
  deriving DecidableEq, Repr

/-- Binary32. -/
def f32 : Fmt := ⟨8, 23⟩
/-- Binary64. -/
def f64 : Fmt := ⟨11, 52⟩

/-- The exception flags an operation raises: invalid, division by zero, overflow, underflow, inexact. -/
structure FFlags where
  iv : Bool := false
  dz : Bool := false
  ov : Bool := false
  uf : Bool := false
  nx : Bool := false
  deriving DecidableEq, Repr

/-- A read operand, with subnormals read as zero (R68). A finite number is `m * 2 ^ e`. -/
inductive FVal where
  | nan (signalling : Bool)
  | inf (s : Bool)
  | num (s : Bool) (m : Nat) (e : Int)
  deriving DecidableEq, Repr

/-- Exponent bias. -/
def Fmt.bias (f : Fmt) : Int := 2 ^ (f.eb - 1) - 1

/-- The exponent field of infinities and NaNs. -/
def Fmt.emaxField (f : Fmt) : Nat := 2 ^ f.eb - 1

/-- The one quiet NaN (R68). -/
def Fmt.qnan (f : Fmt) : Nat := f.emaxField * 2 ^ f.fb + 2 ^ (f.fb - 1)

/-- Infinity of a sign. -/
def Fmt.infBits (f : Fmt) (s : Bool) : Nat := (if s then 2 ^ (f.eb + f.fb) else 0) + f.emaxField * 2 ^ f.fb

/-- Zero of a sign. -/
def Fmt.zeroBits (f : Fmt) (s : Bool) : Nat := if s then 2 ^ (f.eb + f.fb) else 0

/-- Reads a bit pattern. -/
def Fmt.unpack (f : Fmt) (x : Nat) : FVal :=
  let s := decide (x / 2 ^ (f.eb + f.fb) % 2 = 1)
  let e := x / 2 ^ f.fb % 2 ^ f.eb
  let m := x % 2 ^ f.fb
  if e = f.emaxField then
    if m = 0 then .inf s else .nan (decide (m < 2 ^ (f.fb - 1)))
  else if e = 0 then .num s 0 0
  else .num s (2 ^ f.fb + m) ((e : Int) - f.bias - f.fb)

/-- Rounds `m * 2 ^ e` (plus a smaller positive amount when `st`) to the format (R68). -/
def Fmt.roundPack (f : Fmt) (s : Bool) (m : Nat) (e : Int) (st : Bool) : Nat × FFlags :=
  if m = 0 then (f.zeroBits s, { nx := st, uf := st })
  else
    let p := f.fb + 1
    let k := p + 2 - (Nat.log2 m + 1)
    let m1 := m * 2 ^ k
    let e1 := e - k
    let sh := Nat.log2 m1 + 1 - p
    let q := m1 / 2 ^ sh
    let r := m1 % 2 ^ sh
    let half := 2 ^ (sh - 1)
    let inexact := decide (r ≠ 0) || st
    let up := decide (r > half) || (decide (r = half) && (st || decide (q % 2 = 1)))
    let q1 := if up then q + 1 else q
    let top := decide (q1 = 2 ^ p)
    let q2 := if top then 2 ^ (p - 1) else q1
    let ex := e1 + sh + (p - 1 : Nat) + (if top then 1 else 0)
    if ex > f.bias then (f.infBits s, { ov := true, nx := true })
    else if ex < 1 - f.bias then (f.zeroBits s, { uf := true, nx := true })
    else (f.zeroBits s + (ex + f.bias).toNat * 2 ^ f.fb + (q2 - 2 ^ (p - 1)), { nx := inexact })

/-- Rounds an integer `n * 2 ^ e`; an exact zero takes the sign given. -/
def Fmt.ofInt (f : Fmt) (zs : Bool) (n : Int) (e : Int) : Nat × FFlags :=
  if n = 0 then (f.zeroBits zs, {}) else f.roundPack (decide (n < 0)) n.natAbs e false

/-- The signed integer `± m` of a read number at the common exponent `e0`. -/
def scaled (s : Bool) (m : Nat) (e e0 : Int) : Int :=
  let v : Int := (m * 2 ^ (e - e0).toNat : Nat)
  if s then -v else v

/-- Exact sum of two finite numbers, rounded once. -/
def Fmt.addNum (f : Fmt) (sa : Bool) (ma : Nat) (ea : Int) (sb : Bool) (mb : Nat) (eb : Int) : Nat × FFlags :=
  if ma = 0 then
    if mb = 0 then (f.zeroBits (sa && sb), {}) else f.roundPack sb mb eb false
  else if mb = 0 then f.roundPack sa ma ea false
  else
    let e0 := min ea eb
    f.ofInt false (scaled sa ma ea e0 + scaled sb mb eb e0) e0

/-- Whether an operand is a signalling NaN. -/
def FVal.snan : FVal → Bool
  | .nan s => s
  | _ => false

/-- Whether an operand is a NaN. -/
def FVal.isNan : FVal → Bool
  | .nan _ => true
  | _ => false

/-- The quiet NaN with FIV as given. -/
def Fmt.nanOut (f : Fmt) (iv : Bool) : Nat × FFlags := (f.qnan, { iv := iv })

/-- The exact product of two operands, as an operand; `none` is an invalid 0 times infinity. -/
def mulVal : FVal → FVal → Option FVal
  | .nan a, b => some (.nan (a || b.snan))
  | a, .nan b => some (.nan (a.snan || b))
  | .inf s, .inf t => some (.inf (s != t))
  | .inf s, .num t m _ => if m = 0 then none else some (.inf (s != t))
  | .num s m _, .inf t => if m = 0 then none else some (.inf (s != t))
  | .num s m e, .num t n g => some (.num (s != t) (m * n) (e + g))

/-- Sum of two operands. -/
def Fmt.addVal (f : Fmt) (a b : FVal) : Nat × FFlags :=
  match a, b with
  | .nan x, y => f.nanOut (x || y.snan)
  | x, .nan y => f.nanOut (x.snan || y)
  | .inf s, .inf t => if s = t then (f.infBits s, {}) else f.nanOut true
  | .inf s, .num _ _ _ => (f.infBits s, {})
  | .num _ _ _, .inf t => (f.infBits t, {})
  | .num s m e, .num t n g => f.addNum s m e t n g

/-- The operand with its sign inverted. -/
def FVal.neg : FVal → FVal
  | .nan s => .nan s
  | .inf s => .inf (!s)
  | .num s m e => .num (!s) m e

/-- FADD (R46). -/
def Fmt.add (f : Fmt) (a b : Nat) : Nat × FFlags := f.addVal (f.unpack a) (f.unpack b)

/-- FSUB (R46). -/
def Fmt.sub (f : Fmt) (a b : Nat) : Nat × FFlags := f.addVal (f.unpack a) (f.unpack b).neg

/-- FMUL (R46). -/
def Fmt.mul (f : Fmt) (a b : Nat) : Nat × FFlags :=
  match mulVal (f.unpack a) (f.unpack b) with
  | none => f.nanOut true
  | some (.nan s) => f.nanOut s
  | some (.inf s) => (f.infBits s, {})
  | some (.num s m e) => f.roundPack s m e false

/-- Fused `a * b + c`, one rounding; 0 times infinity is invalid also with a quiet NaN addend (R68). -/
def Fmt.fmaVal (f : Fmt) (a b c : FVal) : Nat × FFlags :=
  match mulVal a b with
  | none => f.nanOut true
  | some p => f.addVal p c

/-- FMA (R46): DA × DB + DC. -/
def Fmt.fma (f : Fmt) (a b c : Nat) : Nat × FFlags := f.fmaVal (f.unpack a) (f.unpack b) (f.unpack c)

/-- FMS (R46): DC − DA × DB. -/
def Fmt.fms (f : Fmt) (a b c : Nat) : Nat × FFlags := f.fmaVal (f.unpack a).neg (f.unpack b) (f.unpack c)

/-- FDIV (R113). -/
def Fmt.div (f : Fmt) (a b : Nat) : Nat × FFlags :=
  match f.unpack a, f.unpack b with
  | .nan x, y => f.nanOut (x || y.snan)
  | x, .nan y => f.nanOut (x.snan || y)
  | .inf _, .inf _ => f.nanOut true
  | .inf s, .num t _ _ => (f.infBits (s != t), {})
  | .num s _ _, .inf t => (f.zeroBits (s != t), {})
  | .num s m e, .num t n g =>
    if n = 0 then
      if m = 0 then f.nanOut true else (f.infBits (s != t), { dz := true })
    else if m = 0 then (f.zeroBits (s != t), {})
    else
      let k := f.fb + 3 + Nat.log2 n + 1
      let num := m * 2 ^ k
      f.roundPack (s != t) (num / n) (e - g - k) (decide (num % n ≠ 0))

/-- The bit pattern of 1. -/
def Fmt.one (f : Fmt) : Nat := f.bias.toNat * 2 ^ f.fb

/-- FRCP (R46, R68), correctly rounded. -/
def Fmt.rcp (f : Fmt) (a : Nat) : Nat × FFlags := f.div f.one a

/-- FSQRT (R113). -/
def Fmt.sqrt (f : Fmt) (a : Nat) : Nat × FFlags :=
  match f.unpack a with
  | .nan x => f.nanOut x
  | .inf s => if s then f.nanOut true else (f.infBits false, {})
  | .num s m e =>
    if m = 0 then (f.zeroBits s, {})
    else if s then f.nanOut true
    else
      let k : Nat := f.fb + 5 + (if (e - (f.fb + 5 : Nat)) % 2 = 0 then 0 else 1)
      let n := m * 2 ^ k
      let r := isqrt (f.fb + 6) n
      f.roundPack false r ((e - k) / 2) (decide (r * r ≠ n))

/-- Ordering of two read non-NaN operands: less, equal, greater. -/
def cmpVal : FVal → FVal → Ordering
  | .inf s, .inf t => if s = t then .eq else if s then .lt else .gt
  | .inf s, _ => if s then .lt else .gt
  | _, .inf t => if t then .gt else .lt
  | .num s m e, .num t n g =>
    let e0 := min e g
    compare (scaled s m e e0) (scaled t n g e0)
  | _, _ => .eq

/-- The bit pattern of a read non-NaN operand: its own, or the zero of its sign for a subnormal. -/
def Fmt.flush (f : Fmt) (x : Nat) : Nat :=
  match f.unpack x with
  | .num s 0 _ => f.zeroBits s
  | _ => x

/-- Sign bit of a pattern. -/
def Fmt.signOf (f : Fmt) (x : Nat) : Bool := decide (x / 2 ^ (f.eb + f.fb) % 2 = 1)

/-- FMIN and FMAX (R46): a single NaN yields the other operand; −0 counts as less than +0. -/
def Fmt.minmax (f : Fmt) (isMax : Bool) (a b : Nat) : Nat × FFlags :=
  let ua := f.unpack a
  let ub := f.unpack b
  let fl : FFlags := { iv := ua.snan || ub.snan }
  if ua.isNan then (if ub.isNan then f.qnan else f.flush b, fl)
  else if ub.isNan then (f.flush a, fl)
  else
    let less := match cmpVal ua ub with
      | .lt => true
      | .gt => false
      | .eq => f.signOf a && !f.signOf b
    (if less != isMax then f.flush a else f.flush b, fl)

/-- FCMP (R46): equal, less, unordered. -/
def Fmt.cmp (f : Fmt) (a b : Nat) : (Bool × Bool × Bool) × FFlags :=
  let ua := f.unpack a
  let ub := f.unpack b
  if ua.isNan || ub.isNan then ((false, false, true), { iv := ua.snan || ub.snan })
  else ((cmpVal ua ub == .eq, cmpVal ua ub == .lt, false), {})

/-- Conversion to a signed `w`-bit integer of the value times `2 ^ sc` (R68). -/
def Fmt.toInt (f : Fmt) (w sc : Nat) (a : Nat) : BitVec w × FFlags :=
  match f.unpack a with
  | .nan _ => (0#w, { iv := true })
  | .inf s => (BitVec.ofInt w (if s then minS w else maxS w), { iv := true })
  | .num s m e =>
    let x := e + sc
    let n : Int := if x ≥ 0 then (m * 2 ^ x.toNat : Nat) else rne m (2 ^ (-x).toNat)
    let exact := decide (x ≥ 0) || decide (m % 2 ^ (-x).toNat = 0)
    let v := if s then -n else n
    let r := satS w v
    (r.1, if r.2 then { iv := true } else { nx := !exact })

/-- Conversion between formats (R113). -/
def Fmt.conv (f g : Fmt) (a : Nat) : Nat × FFlags :=
  match f.unpack a with
  | .nan s => g.nanOut s
  | .inf s => (g.infBits s, {})
  | .num s m e => g.roundPack s m e false

/-- The quotient `n / m` rounded to the format. -/
def Fmt.ratio (f : Fmt) (n : Int) (m : Nat) : Nat × FFlags :=
  if n = 0 then (f.zeroBits false, {})
  else
    let k := f.fb + 3 + Nat.log2 m + 1
    let num := n.natAbs * 2 ^ k
    f.roundPack (decide (n < 0)) (num / m) (-(k : Int)) (decide (num % m ≠ 0))

end Sys2Proof.Machine
end

