-- ==== Sys2Proof/Machine/Maps.lean ====
section
/-!
DEFINITION. Sparse maps as lists of key and value pairs in one canonical form: keys strictly rising in a given order, and
no entry for a key that holds its default. An absent key holds its default.
-/

namespace Sys2Proof.Machine

variable {κ α : Type}

/-- The value listed for a key. -/
def mapFind [DecidableEq κ] (k : κ) : List (κ × α) → Option α
  | [] => none
  | e :: t => if e.1 = k then some e.2 else mapFind k t

/-- The list without a key. -/
def mapErase [DecidableEq κ] (k : κ) (l : List (κ × α)) : List (κ × α) :=
  l.filter (fun e => !decide (e.1 = k))

/-- The list with a key's value listed, in key order. -/
def mapInsert [DecidableEq κ] (lt : κ → κ → Bool) (k : κ) (v : α) : List (κ × α) → List (κ × α)
  | [] => [(k, v)]
  | e :: t =>
    if e.1 = k then (k, v) :: t
    else if lt k e.1 then (k, v) :: e :: t
    else e :: mapInsert lt k v t

/-- Lists a value for a key, or removes the key. -/
def mapSet [DecidableEq κ] (lt : κ → κ → Bool) (k : κ) (o : Option α) (l : List (κ × α)) : List (κ × α) :=
  match o with
  | none => mapErase k l
  | some v => mapInsert lt k v l

/-- The keys rise strictly. -/
def mapOrdered (lt : κ → κ → Bool) : List (κ × α) → Bool
  | [] => true
  | [_] => true
  | a :: b :: t => lt a.1 b.1 && mapOrdered lt (b :: t)

/-- Order of natural keys. -/
def ltNat (a b : Nat) : Bool := decide (a < b)

/-- Value of a natural key, with a default. -/
def natGet (dflt : α) (k : Nat) (l : List (Nat × α)) : α := (mapFind k l).getD dflt

/-- Sets a natural key; a value equal to the default is not listed. -/
def natSet [DecidableEq α] (dflt : α) (k : Nat) (v : α) (l : List (Nat × α)) : List (Nat × α) :=
  mapSet ltNat k (if v = dflt then none else some v) l

theorem mapFind_mapErase [DecidableEq κ] (k j : κ) (l : List (κ × α)) :
    mapFind j (mapErase k l) = if j = k then none else mapFind j l := by
  induction l with
  | nil => simp [mapErase, mapFind]
  | cons e t ih =>
    simp only [mapErase, List.filter_cons] at ih ⊢
    by_cases h : e.1 = k
    · simp only [h, decide_true, Bool.not_true, Bool.false_eq_true, if_false, mapFind]
      rw [ih]
      by_cases hj : j = k
      · simp [hj]
      · simp [hj, Ne.symm hj]
    · simp only [h, decide_false, Bool.not_false, if_true, mapFind]
      rw [ih]
      by_cases hj : j = k
      · subst hj; simp [h]
      · simp [hj]

theorem mapFind_mapInsert [DecidableEq κ] (lt : κ → κ → Bool) (k j : κ) (v : α) (l : List (κ × α)) :
    mapFind j (mapInsert lt k v l) = if j = k then some v else mapFind j l := by
  induction l with
  | nil =>
    by_cases hj : j = k
    · simp [mapInsert, mapFind, hj]
    · simp [mapInsert, mapFind, hj, Ne.symm hj]
  | cons e t ih =>
    by_cases hj : j = k
    · subst hj
      by_cases h : e.1 = j
      · simp [mapInsert, h, mapFind]
      · by_cases hl : lt j e.1 <;> simp [mapInsert, h, hl, mapFind, ih]
    · by_cases h : e.1 = k
      · simp [mapInsert, h, mapFind, hj, Ne.symm hj]
      · by_cases hl : lt k e.1 <;> simp [mapInsert, h, hl, mapFind, ih, hj, Ne.symm hj]

theorem mapFind_mapSet [DecidableEq κ] (lt : κ → κ → Bool) (k j : κ) (o : Option α) (l : List (κ × α)) :
    mapFind j (mapSet lt k o l) = if j = k then o else mapFind j l := by
  cases o with
  | none => simp [mapSet, mapFind_mapErase]
  | some v => simp [mapSet, mapFind_mapInsert]

theorem natGet_natSet [DecidableEq α] (dflt : α) (k j : Nat) (v : α) (l : List (Nat × α)) :
    natGet dflt j (natSet dflt k v l) = if j = k then v else natGet dflt j l := by
  simp only [natGet, natSet, mapFind_mapSet]
  by_cases hj : j = k
  · by_cases hv : v = dflt <;> simp [hj, hv]
  · simp [hj]

end Sys2Proof.Machine
end

