-- ==== Sys2Proof/Machine/FieldTable.lean ====
section
/-!
DEFINITION. The register tables of spec/ as data: for every field its region, survival class, access code, lowest bit,
width and Reset value, each written from its row.
-/

namespace Sys2Proof.Machine

/-- Table row: region, class, access, lowest bit, width, Reset. -/
def row (r : Rgn) (c : Cls) (a : Acc) (lo width reset : Nat) : FDesc := ⟨r, c, a, lo, width, reset, false, false⟩

/-- A row of a unit of directly wired I/O (R333). -/
def rowD (r : Rgn) (c : Cls) (a : Acc) (lo width reset : Nat) : FDesc := ⟨r, c, a, lo, width, reset, false, true⟩

/-- A locked row of a slot descriptor (R72). -/
def rowL (r : Rgn) (c : Cls) (a : Acc) (lo width reset : Nat) : FDesc := ⟨r, c, a, lo, width, reset, true, false⟩

/-- The row of every field. -/
def F.desc : F → FDesc
  | .IDENT_PART => row .CHIP .N .RO 16 16 0x9256
  | .IDENT_STEP => row .CHIP .N .RO 8 8 0xb0
  | .IDENT_PKG => row .CHIP .N .RO 0 8 0x45
  | .ACC_ERR_COUNT => row .CHIP .C .RO 16 16 0
  | .ACC_ERR_SOURCE => row .CHIP .C .RO 8 8 0
  | .ACC_ERR_STICKY => row .CHIP .C .W1C 0 1 0
  | .ACC_ERR_ADDR_LO => row .CHIP .C .RO 0 32 0
  | .ACC_ERR_ADDR_HI => row .CHIP .C .RO 0 8 0
  | .C_STAT_SEC_CNT => row .LOOP .C .RO 24 8 0
  | .C_STAT_ILL_CNT => row .LOOP .C .RO 16 8 0
  | .C_STAT_IPAR => row .LOOP .K .RO 10 1 0
  | .C_STAT_DED => row .LOOP .K .RO 9 1 0
  | .C_STAT_FAULTED => row .LOOP .K .RO 8 1 0
  | .C_STAT_LOAD1 => row .LOOP .C .RO 7 1 0
  | .C_STAT_LOAD0 => row .LOOP .C .RO 6 1 0
  | .C_STAT_ACT => row .LOOP .C .RO 5 1 0
  | .C_STAT_MODE => row .LOOP .S .RO 0 3 0
  | .C_ILL_CAUSE => row .LOOP .C .RO 24 8 0
  | .C_ILL_SLOT => row .LOOP .C .RO 16 6 0
  | .C_ILL_PC => row .LOOP .C .RO 0 13 0
  | .SLOT_CTL_EN => row .LOOP .S .RO 31 1 0
  | .SLOT_CTL_BUSY => row .LOOP .C .RO 30 1 0
  | .SLOT_CTL_REQ_EN => row .LOOP .C .W1S 29 1 0
  | .SLOT_CTL_REQ_DIS => row .LOOP .C .W1S 28 1 0
  | .SLOT_CTL_REQ_SWAP => row .LOOP .C .W1S 27 1 0
  | .SLOT_CTL_REFUSE => row .LOOP .C .RO 16 8 0
  | .SLOT_CTL_REF_SLOT => row .LOOP .C .RO 8 6 0
  | .SLOT_CTL_PRIO => rowL .LOOP .S .RW 3 3 7
  | .SLOT_CTL_CELL => rowL .LOOP .S .RW 0 3 0
  | .SLOT_TIME_PERIOD => rowL .LOOP .S .RW 16 16 0
  | .SLOT_TIME_TOFF => rowL .LOOP .S .RW 0 16 0
  | .SLOT_PH_SPHASE => rowL .LOOP .S .RW 24 8 0
  | .SLOT_PH_OPHASE => rowL .LOOP .S .RW 0 24 0
  | .SLOT_OPS => rowL .LOOP .S .RW 0 32 0
  | .SLOT_ENTRY_ENTRY_NEW => row .LOOP .S .RW 16 13 0
  | .SLOT_ENTRY_ENTRY => row .LOOP .S .RO 0 13 0
  | .SLOT_WCET_OVR => row .LOOP .C .W1C 31 1 0
  | .SLOT_WCET_WCET => row .LOOP .S .RO 0 20 0
  | .SLOT_LONG_LONG_NEW => row .LOOP .S .RW 16 11 0
  | .SLOT_LONG_LONG => row .LOOP .S .RO 0 11 0
  | .SLOT_WNEW => row .LOOP .S .RW 0 20 0
  | .SLOT_STATE_SBASE => rowL .LOOP .S .RW 16 14 0
  | .SLOT_STATE_SLEN => rowL .LOOP .S .RW 0 12 0
  | .SLOT_POL_INNER => rowL .LOOP .S .RW 24 8 0
  | .SLOT_POL_CASC => rowL .LOOP .S .RW 16 1 0
  | .SLOT_POL_LSP => row .LOOP .S .RW 4 2 0
  | .SLOT_POL_DPOL => row .LOOP .S .RW 0 2 0
  | .SLOT_ARR => rowL .LOOP .S .RW 0 16 0
  | .SLOT_MISS => row .LOOP .C .RO 0 32 0
  | .TOK_IN => row .LOOP .C .RO 0 32 0
  | .TOK_USED => row .LOOP .C .RO 0 32 0
  | .TOK_UNUSED => row .LOOP .C .RO 0 32 0
  | .SLOT_PEND_TYPE_MM => row .LOOP .C .RO 16 16 0
  | .SLOT_PEND_PEND => row .LOOP .C .RO 0 9 0
  | .C_LOAD => row .LOOP .S .RO 0 16 0
  | .OS_CFG_OWNER => row .LOOP .S .ST 24 8 0
  | .OS_CFG_BLEND => row .LOOP .S .ST 20 1 0
  | .OS_CFG_TYPE => row .LOOP .S .ST 18 2 0
  | .OS_CFG_EN => row .LOOP .S .ST 0 1 0
  | .OS_SAFE => row .LOOP .S .ST 0 32 0
  | .OS_HLIM => row .LOOP .S .ST 0 32 0
  | .OS_HRATE => row .LOOP .S .ST 0 32 0
  | .OS_VAL => row .LOOP .S .RO 0 32 0
  | .OS_STAT_LATE => row .LOOP .C .RO 24 8 0
  | .OS_STAT_NOTOWN => row .LOOP .C .RO 16 8 0
  | .OS_STAT_QUAL => row .LOOP .S .RO 8 8 0x10
  | .OS_STAT_BLENDING => row .LOOP .S .RO 2 1 0
  | .OS_STAT_SAFE_ACT => row .LOOP .C .RO 1 1 0
  | .OS_STAT_HELD => row .LOOP .C .RO 0 1 0
  | .OS_MAP_LINK => row .LOOP .S .ST 19 5 0
  | .OS_MAP_STATION => row .LOOP .S .ST 16 3 0
  | .OS_MAP_OFFSET => row .LOOP .S .ST 8 8 0
  | .OS_MAP_WIDTH => row .LOOP .S .ST 0 2 0
  | .OS_TMM => row .LOOP .C .RO 0 16 0
  | .CELL_MODE_REJ => row .LOOP .C .W1C 31 1 0
  | .CELL_MODE_M3 => row .LOOP .S .ST 9 3 0
  | .CELL_MODE_M2 => row .LOOP .S .ST 6 3 0
  | .CELL_MODE_M1 => row .LOOP .S .ST 3 3 0
  | .CELL_MODE_M0 => row .LOOP .S .ST 0 3 0
  | .MS_STAT_FULLSEEN => row .LOOP .C .W1C 31 1 0
  | .MS_STAT_PENDING => row .LOOP .C .RO 16 6 0
  | .MS_STAT_PEAK => row .LOOP .C .RO 8 6 0
  | .MS_STALL => row .LOOP .C .RO 0 32 0
  | .TASK_CTL_REQ_START => row .PROG .C .W1S 31 1 0
  | .TASK_CTL_REQ_KILL => row .PROG .C .W1S 30 1 0
  | .TASK_CTL_CORE => row .PROG .S .RW 8 2 0
  | .TASK_CTL_PRIO => row .PROG .S .RW 0 5 0x1f
  | .TASK_ENTRY => row .PROG .S .RW 2 26 0
  | .TASK_STAT_STATE => row .PROG .C .RO 29 3 0
  | .TASK_STAT_PC => row .PROG .C .RO 0 28 0
  | .TASK_FAULT => row .PROG .C .RO 0 8 0
  | .TASK_FLAGS => row .PROG .C .RO 0 32 0
  | .TASK_FSET => row .PROG .C .WO 0 32 0
  | .TASK_WMASK => row .PROG .C .RO 0 32 0
  | .TASK_WAKE => row .PROG .C .RO 0 32 0
  | .TASK_RUN => row .PROG .C .RO 0 32 0
  | .TIM_ID => row .PROG .S .RW 0 32 0
  | .TIM_CFG_IN_LAST => row .PROG .S .RO 31 1 0
  | .TIM_CFG_Q => row .PROG .S .RO 30 1 0
  | .TIM_CFG_RUN => row .PROG .S .RO 29 1 0
  | .TIM_CFG_NOTE => row .PROG .S .RW 28 1 0
  | .TIM_CFG_NTASK => row .PROG .S .RW 22 6 0
  | .TIM_CFG_NFLAG => row .PROG .S .RW 17 5 0
  | .TIM_CFG_UNIT => row .PROG .S .RW 3 1 0
  | .TIM_CFG_TYPE => row .PROG .S .RW 0 3 0
  | .TIM_PT => row .PROG .S .RW 0 32 0
  | .TIM_ET => row .PROG .S .RO 0 32 0
  | .Q_CFG_EN => row .PROG .K .RW 31 1 0
  | .Q_CFG_PKT => row .PROG .K .RW 30 1 0
  | .Q_CFG_ATT => row .PROG .K .RO 29 1 0
  | .Q_CFG_SIZE => row .PROG .K .RW 0 16 0
  | .Q_BASE => row .PROG .K .RW 0 15 0
  | .Q_LEVEL_UNCOMMIT => row .PROG .C .RO 16 16 0
  | .Q_LEVEL_LEVEL => row .PROG .C .RO 0 16 0
  | .Q_IN => row .PROG .C .RO 0 32 0
  | .Q_OUT => row .PROG .C .RO 0 32 0
  | .Q_DROP => row .PROG .C .RO 0 32 0
  | .Q_RWD => row .PROG .C .RO 0 32 0
  | .Q_STAT_OVSZ => row .PROG .C .W1C 31 1 0
  | .Q_STAT_FULLSEEN => row .PROG .C .W1C 30 1 0
  | .TR_VAL => row .PROG .C .RO 0 32 0
  | .TR_INFO_FTAG => row .PROG .C .RO 16 16 0
  | .TR_INFO_TYPE => row .PROG .C .RO 8 8 0
  | .TR_INFO_QUAL => row .PROG .C .RO 0 8 1
  | .TR_CNT => row .PROG .C .RO 0 32 0
  | .TR_NOTE_EN => row .PROG .S .RW 31 1 0
  | .TR_NOTE_TASK => row .PROG .S .RW 5 6 0
  | .TR_NOTE_FLAG => row .PROG .S .RW 0 5 0
  | .CYC_CTL_EN => row .PROG .S .RW 31 1 0
  | .CYC_CTL_OMODE => row .PROG .S .RW 30 1 0
  | .CYC_PER => row .PROG .S .RW 0 24 0
  | .CYC_OFF => row .PROG .S .RW 0 24 0
  | .CYC_WDOG => row .PROG .S .RW 0 24 0
  | .CYC_IIMG_CNT => row .PROG .S .RW 24 8 0
  | .CYC_IIMG_ADDR => row .PROG .S .RW 3 21 0
  | .CYC_OIMG_CNT => row .PROG .S .RW 24 8 0
  | .CYC_OIMG_ADDR => row .PROG .S .RW 3 21 0
  | .CYC_STAT_OVR => row .PROG .C .RO 16 16 0
  | .CYC_STAT_BADDESC => row .PROG .C .RO 8 8 0
  | .CYC_STAT_CONFLICT => row .PROG .C .RO 0 8 0
  | .CYC_MAXT => row .PROG .C .RO 0 24 0
  | .WD_CTL => row .PROG .S .RW 0 1 0
  | .WD_STAT_STOPPED => row .PROG .C .RO 31 1 0
  | .WD_STAT_CAUSE => row .PROG .C .RO 16 8 0
  | .WD_STAT_TASK => row .PROG .C .RO 0 6 0
  | .WD_TICK => row .PROG .C .RO 0 32 0
  | .CHG_REC => row .PROG .C .RW 3 21 0
  | .CHG_CTL_GO => row .PROG .C .W1S 31 1 0
  | .CHG_CTL_ABORT => row .PROG .C .W1S 30 1 0
  | .CHG_CTL_CNT => row .PROG .C .RW 0 12 0
  | .CHG_STAT_BUSY => row .PROG .C .RO 31 1 0
  | .CHG_STAT_DONE => row .PROG .C .W1C 30 1 0
  | .CHG_STAT_ABANDONED => row .PROG .C .W1C 29 1 0
  | .CHG_STAT_REFUSE => row .PROG .C .RO 16 8 0
  | .CHG_STAT_REF_ENTRY => row .PROG .C .RO 0 12 0
  | .CHG_WAIT_LO => row .PROG .C .RO 0 32 0
  | .CHG_WAIT_HI => row .PROG .C .RO 0 32 0
  | .E_CFG_FILT => rowD .FIELD .S .ST 24 8 0
  | .E_CFG_INV => rowD .FIELD .S .ST 23 1 0
  | .E_CFG_MODE => rowD .FIELD .S .ST 0 3 0
  | .E_SER_HALF => rowD .FIELD .S .ST 23 9 0xd
  | .E_SER_LEN => rowD .FIELD .S .ST 17 6 0x18
  | .E_SER_GRAY => rowD .FIELD .S .ST 16 1 0
  | .E_SER_PAR => rowD .FIELD .S .ST 15 1 0
  | .E_SER_TPAUSE => rowD .FIELD .S .ST 0 8 0x14
  | .E_DEST_PDEST => rowD .FIELD .S .ST 16 16 0
  | .E_DEST_SDEST => rowD .FIELD .S .ST 0 16 0
  | .E_TIME_PERIOD => rowD .FIELD .S .ST 16 16 0
  | .E_TIME_TOFF => rowD .FIELD .S .ST 0 16 0
  | .E_TOK_PEN => rowD .FIELD .S .ST 31 1 0
  | .E_TOK_SEN => rowD .FIELD .S .ST 30 1 0
  | .E_TOK_SFMT => rowD .FIELD .S .ST 29 1 0
  | .E_TOK_STILL_T => rowD .FIELD .S .ST 8 16 0x3e8
  | .E_TOK_SPHASE => rowD .FIELD .S .ST 0 8 0
  | .E_STAT_STILL => rowD .FIELD .C .RO 31 1 1
  | .E_STAT_REV => rowD .FIELD .C .RO 30 1 0
  | .E_STAT_DIR => rowD .FIELD .C .RO 29 1 0
  | .E_STAT_CRCSEEN => rowD .FIELD .C .W1C 28 1 0
  | .E_STAT_NOACKSEEN => rowD .FIELD .C .W1C 27 1 0
  | .E_STAT_SERR => rowD .FIELD .C .RO 26 1 0
  | .E_STAT_SWARN => rowD .FIELD .C .RO 25 1 0
  | .E_STAT_HALLBAD => rowD .FIELD .C .W1C 24 1 0
  | .E_STAT_ILLSEEN => rowD .FIELD .C .W1C 23 1 0
  | .E_STAT_LVL => rowD .FIELD .C .RO 16 3 0
  | .E_STAT_SECTOR => rowD .FIELD .C .RO 0 3 7
  | .E_CNT_LO => rowD .FIELD .C .RO 0 32 0
  | .E_CNT_HI => rowD .FIELD .C .RO 0 32 0
  | .E_UP => rowD .FIELD .C .RO 0 32 0
  | .E_DOWN => rowD .FIELD .C .RO 0 32 0
  | .E_ADJ => rowD .FIELD .C .RO 0 32 0
  | .E_ADD => rowD .FIELD .C .WO 0 32 0
  | .E_ILL => rowD .FIELD .C .RO 0 32 0
  | .E_SERR_CRCE => rowD .FIELD .C .RO 16 16 0
  | .E_SERR_NOACK => rowD .FIELD .C .RO 8 8 0
  | .E_SERR_OVL => rowD .FIELD .C .RO 0 8 0
  | .E_SPD => rowD .FIELD .C .RO 0 32 0
  | .E_LCFG_EN => rowD .FIELD .C .RW 31 1 0
  | .E_LCFG_CONT => rowD .FIELD .S .RW 30 1 0
  | .E_LCFG_EDGE => rowD .FIELD .S .RW 28 2 1
  | .E_LCFG_GATE => rowD .FIELD .S .RW 27 1 0
  | .E_LCFG_SRC => rowD .FIELD .S .RW 16 5 0
  | .E_LCFG_NOTE => rowD .FIELD .S .RW 15 1 0
  | .E_LCFG_NTASK => rowD .FIELD .S .RW 9 6 0
  | .E_LCFG_NFLAG => rowD .FIELD .S .RW 4 5 0
  | .E_LCFG_LEVEL => rowD .FIELD .C .RO 0 3 0
  | .E_LCNT => rowD .FIELD .C .RO 0 32 0
  | .E_LTIME_TICK => rowD .FIELD .C .RO 8 24 0
  | .E_LTIME_PHASE => rowD .FIELD .C .RO 0 8 0
  | .E_LLOST => rowD .FIELD .C .RO 0 32 0
  | .E_PCFG_PEN => rowD .FIELD .S .ST 31 1 0
  | .E_PCFG_PSD => rowD .FIELD .S .ST 30 1 0
  | .E_PCFG_OVF => rowD .FIELD .C .W1C 29 1 0
  | .E_PCFG_PSRC => rowD .FIELD .S .ST 8 5 0
  | .E_PCFG_PSPACE => rowD .FIELD .S .ST 0 8 5
  | .E_PRAT_NUM => rowD .FIELD .S .ST 16 16 1
  | .E_PRAT_DEN => rowD .FIELD .S .ST 0 16 1
  | .E_POUT => rowD .FIELD .C .RO 0 32 0
  | .E_PLAG => rowD .FIELD .C .RO 0 32 0
  | .E_PACC => rowD .FIELD .C .RO 0 32 0
  | .LIN_CFG_LEVEL => rowD .FIELD .C .RO 8 1 0
  | .LIN_CFG_FILT => rowD .FIELD .S .ST 0 8 0
  | .AX_CFG_MODE => row .FIELD .S .ST 29 3 0
  | .AX_CFG_SLEN => row .FIELD .S .ST 28 1 0
  | .AX_CFG_WDSTOP => row .FIELD .S .ST 27 1 0
  | .AX_CFG_GRP => row .FIELD .S .ST 23 3 0
  | .AX_CFG_ENC => row .FIELD .S .ST 16 5 0
  | .AX_CFG_MSRC => row .FIELD .S .ST 8 6 0
  | .AX_TIME_PERIOD => row .FIELD .S .ST 16 16 0
  | .AX_TIME_TOFF => row .FIELD .S .ST 0 16 0
  | .AX_TOK_PEN => row .FIELD .S .ST 31 1 0
  | .AX_TOK_VEN => row .FIELD .S .ST 30 1 0
  | .AX_TOK_AEN => row .FIELD .S .ST 29 1 0
  | .AX_TOK_SPHASE => row .FIELD .S .ST 0 8 0
  | .AX_PVDEST_PDEST => row .FIELD .S .ST 16 16 0
  | .AX_PVDEST_VDEST => row .FIELD .S .ST 0 16 0
  | .AX_ADEST => row .FIELD .S .ST 0 16 0
  | .AX_VMAX => row .FIELD .S .RW 0 32 0
  | .AX_AMAX => row .FIELD .S .RW 0 32 0
  | .AX_JMAX => row .FIELD .S .RW 0 32 0
  | .AX_QAMAX => row .FIELD .S .RW 0 32 0
  | .AX_QJMAX => row .FIELD .S .RW 0 32 0
  | .AX_FEMAX => row .FIELD .S .RW 0 32 0
  | .AX_SLP_LO => row .FIELD .S .RW 0 32 0
  | .AX_SLP_HI => row .FIELD .S .RW 0 32 0
  | .AX_SLN_LO => row .FIELD .S .RW 0 32 0
  | .AX_SLN_HI => row .FIELD .S .RW 0 32 0
  | .AX_TGT_LO => row .FIELD .S .RW 0 32 0
  | .AX_TGT_HI => row .FIELD .S .RW 0 32 0
  | .AX_CMD_GO => row .FIELD .C .W1S 31 1 0
  | .AX_CMD_STOP => row .FIELD .C .W1S 30 1 0
  | .AX_CMD_QSTOP => row .FIELD .C .W1S 29 1 0
  | .AX_CMD_CLR => row .FIELD .C .W1S 28 1 0
  | .AX_STAT_STATE => row .FIELD .S .RO 29 3 0
  | .AX_STAT_SOFT_LIMIT => row .FIELD .S .W1C 28 1 0
  | .AX_STAT_LIMIT_OVER => row .FIELD .S .W1C 27 1 0
  | .AX_STAT_TGT_REJ => row .FIELD .C .W1C 26 1 0
  | .AX_STAT_CMD_REJ => row .FIELD .C .W1C 25 1 0
  | .AX_STAT_VLIM => row .FIELD .C .W1C 24 1 0
  | .AX_STAT_CAUSE => row .FIELD .S .RO 16 4 0
  | .AX_POS_LO => row .FIELD .S .RO 0 32 0
  | .AX_POS_HI => row .FIELD .S .RO 0 32 0
  | .AX_VEL => row .FIELD .S .RO 0 32 0
  | .AX_ACC => row .FIELD .S .RO 0 32 0
  | .AX_STOPD => row .FIELD .S .RO 0 32 0
  | .AX_GNUM => row .FIELD .S .ST 0 32 1
  | .AX_GDEN => row .FIELD .S .ST 0 32 1
  | .AX_CAM_PERIODIC => row .FIELD .S .ST 31 1 0
  | .AX_CAM_K => row .FIELD .S .ST 24 4 4
  | .AX_CAM_CBASE => row .FIELD .S .ST 0 13 0
  | .AX_CSPAN => row .FIELD .S .ST 0 32 1
  | .G_CFG_EN => row .FIELD .S .ST 31 1 0
  | .G_CFG_QUEUE => row .FIELD .S .ST 0 6 0
  | .G_VPATH => row .FIELD .S .RW 0 32 0
  | .G_APATH => row .FIELD .S .RW 0 32 0
  | .G_JPATH => row .FIELD .S .RW 0 32 0
  | .G_QAPATH => row .FIELD .S .RW 0 32 0
  | .G_QJPATH => row .FIELD .S .RW 0 32 0
  | .G_JVEL => row .FIELD .S .RW 0 32 0
  | .G_CMD_START => row .FIELD .C .W1S 31 1 0
  | .G_CMD_STOP => row .FIELD .C .W1S 30 1 0
  | .G_CMD_QSTOP => row .FIELD .C .W1S 29 1 0
  | .G_CMD_FLUSH => row .FIELD .C .W1S 28 1 0
  | .G_STAT_STATE => row .FIELD .S .RO 29 3 0
  | .G_STAT_BADSEG => row .FIELD .C .W1C 28 1 0
  | .G_STAT_CMD_REJ => row .FIELD .C .W1C 27 1 0
  | .G_STAT_ID => row .FIELD .S .RO 0 16 0
  | .G_DONE => row .FIELD .C .RO 0 32 0
  | .G_STARVE => row .FIELD .C .RO 0 32 0
  | .PWM_CFG_EN => rowD .FIELD .S .ST 31 1 0
  | .PWM_CFG_POLH => rowD .FIELD .S .ST 30 1 0
  | .PWM_CFG_POLL => rowD .FIELD .S .ST 29 1 0
  | .PWM_CFG_DUP => rowD .FIELD .S .ST 28 1 0
  | .PWM_CFG_PPER => rowD .FIELD .S .ST 18 10 1
  | .PWM_CFG_POFF => rowD .FIELD .S .ST 8 10 0
  | .PWM_CFG_PPH => rowD .FIELD .S .ST 0 8 0
  | .PWM_DT => rowD .FIELD .S .ST 0 13 0
  | .PWM_TRIP_TRIPPED => rowD .FIELD .C .W1C 31 1 0
  | .PWM_TRIP_LEVEL => rowD .FIELD .C .RO 30 1 0
  | .PWM_TRIP_TPOL => rowD .FIELD .S .ST 29 1 0
  | .PWM_TRIP_TSTOP => rowD .FIELD .S .ST 28 1 0
  | .PWM_TRIP_TFILT => rowD .FIELD .S .ST 0 4 0
  | .PWM_CMPU => rowD .FIELD .C .RO 0 24 0
  | .PWM_CMPV => rowD .FIELD .C .RO 0 24 0
  | .PWM_CMPW => rowD .FIELD .C .RO 0 24 0
  | .PWM_STAT_CLAMP => rowD .FIELD .C .W1C 31 1 0
  | .PWM_STAT_STOP0 => rowD .FIELD .C .RO 30 1 0
  | .ST_CFG_EN => rowD .FIELD .S .ST 31 1 0
  | .ST_CFG_MRES => rowD .FIELD .S .ST 24 4 8
  | .ST_CFG_INV => rowD .FIELD .S .ST 23 1 0
  | .ST_CFG_TBL => rowD .FIELD .S .ST 12 4 3
  | .ST_CFG_TOFFM => rowD .FIELD .S .ST 8 4 7
  | .ST_CFG_THOLD => rowD .FIELD .S .ST 0 8 0x64
  | .ST_CUR_IMAX => rowD .FIELD .S .ST 24 8 0
  | .ST_CUR_IMIN => rowD .FIELD .S .ST 16 8 0
  | .ST_CUR_IHOLD => rowD .FIELD .S .ST 8 8 0
  | .ST_LOAD_LHI => rowD .FIELD .S .ST 24 8 0xc0
  | .ST_LOAD_LLO => rowD .FIELD .S .ST 16 8 0x40
  | .ST_LOAD_LOAD => rowD .FIELD .C .RO 8 8 0
  | .ST_LOAD_ICUR => rowD .FIELD .C .RO 0 8 0
  | .ST_SVMAX => rowD .FIELD .S .RW 0 32 0x100
  | .ST_SAMAX => rowD .FIELD .S .RW 0 32 0x100
  | .ST_TGT => rowD .FIELD .S .RW 0 32 0
  | .ST_POS => rowD .FIELD .S .RO 0 32 0
  | .ST_STAT_HLIM => rowD .FIELD .C .W1C 31 1 0
  | .ST_STAT_MOVING => rowD .FIELD .C .RO 30 1 0
  | .ST_STAT_HOLD => rowD .FIELD .C .RO 29 1 0
  | .ST_STAT_STOP0 => rowD .FIELD .C .RO 28 1 0
  | .ST_STAT_HYSTA => rowD .FIELD .C .RO 16 5 0x10
  | .ST_STAT_HYSTB => rowD .FIELD .C .RO 8 5 0x10
  | .ST_FCHOP_FA => rowD .FIELD .C .RO 16 16 0
  | .ST_FCHOP_FB => rowD .FIELD .C .RO 0 16 0
  | .SD_CFG_EN => rowD .FIELD .S .ST 31 1 0
  | .SD_CFG_LP => rowD .FIELD .S .ST 30 1 0
  | .SD_CFG_NENT => rowD .FIELD .S .ST 0 4 0
  | .SD_STAT_ABORT => rowD .FIELD .C .RO 16 16 0
  | .SD_STAT_CALSUSP => rowD .FIELD .C .RO 9 1 0
  | .SD_STAT_URGACT => rowD .FIELD .C .RO 8 1 0
  | .SD_STAT_ENTRY => rowD .FIELD .C .RO 0 4 0
  | .SD_URG_OSR => rowD .FIELD .S .ST 16 16 0xc8
  | .SD_URG_SPHASE => rowD .FIELD .S .ST 8 8 0
  | .SD_URG_FILT => rowD .FIELD .S .ST 6 2 0
  | .SD_URG_GAIN => rowD .FIELD .S .ST 3 3 0
  | .SD_URG_CH => rowD .FIELD .S .ST 1 2 0
  | .SD_URG_TRIG => rowD .FIELD .S .ST 0 1 0
  | .SD_UTIME_PERIOD => rowD .FIELD .S .ST 16 16 0
  | .SD_UTIME_TOFF => rowD .FIELD .S .ST 0 16 0
  | .SD_UCTL_REQ => rowD .FIELD .C .W1S 31 1 0
  | .SD_UCTL_BUSY => rowD .FIELD .C .RO 30 1 0
  | .SD_UCTL_NOTE => rowD .FIELD .S .RW 29 1 0
  | .SD_UCTL_NTASK => rowD .FIELD .S .RW 23 6 0
  | .SD_UCTL_NFLAG => rowD .FIELD .S .RW 18 5 0
  | .SD_UCTL_REJ => rowD .FIELD .C .RO 0 8 0
  | .SD_URES => rowD .FIELD .C .RO 0 32 0
  | .SD_UINFO_QUAL => rowD .FIELD .C .RO 24 8 1
  | .SD_UINFO_CNT => rowD .FIELD .C .RO 0 24 0
  | .SD_SEQ_OSR => rowD .FIELD .S .ST 16 16 0xc8
  | .SD_SEQ_REP => rowD .FIELD .S .ST 8 8 0
  | .SD_SEQ_FILT => rowD .FIELD .S .ST 6 2 0
  | .SD_SEQ_GAIN => rowD .FIELD .S .ST 2 3 0
  | .SD_SEQ_CH => rowD .FIELD .S .ST 0 2 0
  | .AIN_CFG_OWEN => rowD .FIELD .S .ST 31 1 0
  | .AIN_CFG_OWI => rowD .FIELD .S .ST 30 1 0
  | .AIN_TIME_PERIOD => rowD .FIELD .S .ST 16 16 0
  | .AIN_TIME_TOFF => rowD .FIELD .S .ST 0 16 0
  | .AIN_TOK_TEN => rowD .FIELD .S .ST 31 1 0
  | .AIN_TOK_SPHASE => rowD .FIELD .S .ST 16 8 0
  | .AIN_TOK_DEST => rowD .FIELD .S .ST 0 16 0
  | .AIN_OWTH => rowD .FIELD .S .ST 0 32 0x7f000000
  | .AIN_RLO => rowD .FIELD .S .ST 0 32 0x80000000
  | .AIN_RHI => rowD .FIELD .S .ST 0 32 0x7fffffff
  | .AIN_RES => rowD .FIELD .C .RO 0 32 0
  | .AIN_RINFO_QUAL => rowD .FIELD .C .RO 24 8 1
  | .AIN_RINFO_CNT => rowD .FIELD .C .RO 0 24 0
  | .CAL_CTL_CMD => row .FIELD .C .WO 28 4 0
  | .CAL_CTL_TGT => row .FIELD .C .RW 26 2 0
  | .CAL_CTL_CH => row .FIELD .C .RW 20 6 0
  | .CAL_CTL_GAIN => row .FIELD .C .RW 17 3 0
  | .CAL_CTL_NAVG => row .FIELD .C .RW 13 4 4
  | .CAL_OSR => row .FIELD .C .RW 0 16 0x7d0
  | .CAL_REF => row .FIELD .C .RW 0 32 0
  | .CAL_MLO => row .FIELD .C .RW 0 32 0
  | .CAL_MHI => row .FIELD .C .RW 0 32 0
  | .CAL_STAT_BUSY => row .FIELD .C .RO 31 1 0
  | .CAL_STAT_DONE => row .FIELD .C .W1C 30 1 0
  | .CAL_STAT_ACTIVE => row .FIELD .C .RO 29 1 0
  | .CAL_STAT_ERR => row .FIELD .C .RO 16 8 0
  | .CAL_OFS => row .FIELD .C .RO 0 32 0
  | .CAL_GAIN => row .FIELD .C .RO 0 32 0x40000000
  | .SAR_CFG_EN => rowD .FIELD .S .ST 31 1 0
  | .SAR_CFG_SPHASE => rowD .FIELD .S .ST 0 8 0
  | .SAR_TIME_PERIOD => rowD .FIELD .S .ST 16 16 0
  | .SAR_TIME_TOFF => rowD .FIELD .S .ST 0 16 0
  | .SAR_SEN => rowD .FIELD .S .ST 0 4 0
  | .SAR_SUB_DESTA => rowD .FIELD .S .ST 16 16 0
  | .SAR_SUB_DESTB => rowD .FIELD .S .ST 0 16 0
  | .SAR_RES_CODEA => rowD .FIELD .C .RO 16 16 0
  | .SAR_RES_CODEB => rowD .FIELD .C .RO 0 16 0
  | .SAR_STAT_COLL => rowD .FIELD .C .RO 16 16 0
  | .SAR_STAT_CLIPB => rowD .FIELD .C .W1C 1 1 0
  | .SAR_STAT_CLIPA => rowD .FIELD .C .W1C 0 1 0
  | .AOUT_CFG_EN => rowD .FIELD .S .ST 31 1 0
  | .AOUT_CFG_MDROP => rowD .FIELD .S .ST 30 1 0
  | .AOUT_CFG_AFORCE => rowD .FIELD .C .RW 29 1 0
  | .AOUT_CFG_ADIR => rowD .FIELD .S .ST 28 1 0
  | .AOUT_CFG_AQMASK => rowD .FIELD .S .ST 8 8 0xd
  | .AOUT_ALM_AHI => rowD .FIELD .S .ST 16 16 0xef04
  | .AOUT_ALM_ALO => rowD .FIELD .S .ST 0 16 0x3eb
  | .AOUT_LIM_LHI => rowD .FIELD .S .ST 16 16 0xe1f5
  | .AOUT_LIM_LLO => rowD .FIELD .S .ST 0 16 0x7d6
  | .AOUT_STAT_HEADROOM => rowD .FIELD .C .RO 31 1 0
  | .AOUT_STAT_HRSEEN => rowD .FIELD .C .W1C 30 1 0
  | .AOUT_STAT_CLAMP => rowD .FIELD .C .W1C 29 1 0
  | .AOUT_STAT_ALARM => rowD .FIELD .C .RO 28 1 0
  | .AOUT_STAT_CODE => rowD .FIELD .C .RO 0 16 0
  | .FM_CFG_EN => row .FIELD .S .ST 31 1 0
  | .FM_CFG_CHAN => row .FIELD .S .ST 24 3 0
  | .FM_CFG_CDTH => row .FIELD .S .ST 16 8 0x64
  | .FM_CFG_TXQ => row .FIELD .S .ST 8 6 0
  | .FM_CFG_RXQ => row .FIELD .S .ST 0 6 0
  | .FM_STAT_CD => row .FIELD .C .RO 31 1 0
  | .FM_STAT_TX => row .FIELD .C .RO 30 1 0
  | .FM_STAT_CHPEND => row .FIELD .C .RO 29 1 0
  | .FM_ERR_PERR => row .FIELD .C .RO 16 16 0
  | .FM_ERR_FERR => row .FIELD .C .RO 0 16 0
  | .FM_LOST => row .FIELD .C .RO 0 32 0
  | .OL_CFG_EN => row .FIELD .S .ST 31 1 0
  | .OL_CFG_SAFE => row .FIELD .C .RW 30 1 0
  | .OL_CFG_CYC => row .FIELD .S .ST 20 10 0x3e8
  | .OL_CFG_COFF => row .FIELD .S .ST 10 10 0
  | .OL_CFG_WD => row .FIELD .S .ST 0 8 3
  | .OL_TIME_TXD => row .FIELD .S .ST 16 16 0xfa
  | .OL_TIME_RTTMAX => row .FIELD .S .ST 0 16 0x1f4
  | .OL_SEL_PRESENT => row .FIELD .S .ST 24 8 0
  | .OL_SEL_REJ => row .FIELD .C .W1C 23 1 0
  | .OL_SEL_RXSEL => row .FIELD .S .ST 8 8 0
  | .OL_SEL_RXQ => row .FIELD .S .ST 0 6 0
  | .OL_STAT_LINKUP => row .FIELD .C .RO 31 1 0
  | .OL_STAT_LATESEEN => row .FIELD .C .W1C 30 1 0
  | .OL_STAT_RTTOVR => row .FIELD .C .W1C 29 1 0
  | .OL_STAT_EPOCHHI => row .FIELD .C .W1C 28 1 0
  | .OL_RTT => row .FIELD .C .RO 0 32 0
  | .OL_FRAMES => row .FIELD .C .RO 0 32 0
  | .OL_LATE => row .FIELD .C .RO 0 32 0
  | .OL_RXLOST => row .FIELD .C .RO 0 32 0
  | .OL_CMPL => row .FIELD .S .RO 0 24 0
  | .STN_LEN_OLEN => row .FIELD .S .ST 8 8 0
  | .STN_LEN_ILEN => row .FIELD .S .ST 0 8 0
  | .STN_CYCLES => row .FIELD .C .RO 0 32 0
  | .STN_IN_OK => row .FIELD .C .RO 0 32 0
  | .STN_IN_MISS => row .FIELD .C .RO 0 32 0
  | .STN_OUT_ACK => row .FIELD .C .RO 0 32 0
  | .STN_OUT_NACK => row .FIELD .C .RO 0 32 0
  | .STN_STAT_CONSEC => row .FIELD .C .RO 24 8 0
  | .STN_STAT_TSTAT => row .FIELD .C .RO 16 8 0
  | .STN_STAT_REPLIED => row .FIELD .C .RO 0 1 0
  | .STN_EPOCH => row .FIELD .C .RO 0 32 0
  | .MAP_CFG_EN => row .FIELD .S .ST 31 1 0
  | .MAP_CFG_SGN => row .FIELD .S .ST 30 1 0
  | .MAP_CFG_WIDTH => row .FIELD .S .ST 28 2 0
  | .MAP_CFG_TY => row .FIELD .S .ST 26 2 0
  | .MAP_CFG_STATION => row .FIELD .S .ST 16 3 0
  | .MAP_CFG_OFFSET => row .FIELD .S .ST 8 8 0
  | .MAP_DEST => row .FIELD .S .ST 0 16 0
  | .ETH_CFG_EN => row .FIELD .S .ST 31 1 0
  | .ETH_CFG_PROMISC => row .FIELD .S .ST 30 1 0
  | .ETH_CFG_TBSEL => row .FIELD .S .ST 28 2 0
  | .ETH_CFG_GEN => row .FIELD .S .ST 27 1 0
  | .ETH_CFG_LINKUP => row .FIELD .C .RO 23 1 0
  | .ETH_CFG_SPEED => row .FIELD .C .RO 21 2 0
  | .ETH_CFG_RXQ => row .FIELD .S .ST 0 6 0
  | .ETH_MACLO => row .FIELD .S .ST 0 32 0
  | .ETH_MACHI => row .FIELD .S .ST 0 16 0
  | .ETH_TQMAP0 => row .FIELD .S .ST 0 32 0
  | .ETH_TQMAP1 => row .FIELD .S .ST 0 32 0
  | .ETH_LAT_TXLAT => row .FIELD .K .RW 16 16 0
  | .ETH_LAT_RXLAT => row .FIELD .K .RW 0 16 0
  | .ETH_TSQ_ID_VALID => row .FIELD .C .RO 31 1 0
  | .ETH_TSQ_ID_LEVEL => row .FIELD .C .RO 16 5 0
  | .ETH_TSQ_ID_TSID => row .FIELD .C .RO 0 16 0
  | .ETH_TSQ_NS => row .FIELD .C .RO 0 32 0
  | .ETH_TSQ_SLO => row .FIELD .C .RO 0 32 0
  | .ETH_TSQ_SHI => row .FIELD .C .RO 0 16 0
  | .ETH_TSSTAT_TSOVF => row .FIELD .C .W1C 31 1 0
  | .ETH_TSSTAT_TSLOST => row .FIELD .C .RO 0 31 0
  | .ETH_TXOK => row .FIELD .C .RO 0 32 0
  | .ETH_TXBAD => row .FIELD .C .RO 0 32 0
  | .ETH_RXOK => row .FIELD .C .RO 0 32 0
  | .ETH_RXERR => row .FIELD .C .RO 0 32 0
  | .ETH_RXFILT => row .FIELD .C .RO 0 32 0
  | .ETH_RXLOST => row .FIELD .C .RO 0 32 0
  | .ETH_GCL_SWAP => row .FIELD .C .W1S 31 1 0
  | .ETH_GCL_PEND => row .FIELD .C .RO 30 1 0
  | .ETH_GCL_LSEL => row .FIELD .S .RO 29 1 0
  | .ETH_GCL_STUCK => row .FIELD .C .W1C 8 8 0
  | .ETH_GCL_NENT => row .FIELD .S .RW 0 6 0
  | .ETH_CYC => row .FIELD .S .RO 0 32 0
  | .ETH_NCYC => row .FIELD .S .RW 0 32 0
  | .ETH_NBASE_S => row .FIELD .S .RW 0 32 0
  | .ETH_NBASE_NS => row .FIELD .S .RW 0 32 0
  | .ETH_GCLE_GATES => row .FIELD .S .RW 24 8 0
  | .ETH_GCLE_INTERVAL => row .FIELD .S .RW 0 24 0
  | .CAN_CFG_EN => row .FIELD .S .ST 31 1 0
  | .CAN_CFG_FDEN => row .FIELD .S .ST 30 1 0
  | .CAN_CFG_BRSEN => row .FIELD .S .ST 29 1 0
  | .CAN_CFG_ONESHOT => row .FIELD .S .ST 28 1 0
  | .CAN_CFG_LISTEN => row .FIELD .S .ST 27 1 0
  | .CAN_CFG_LOOPB => row .FIELD .S .ST 26 1 0
  | .CAN_CFG_TTEN => row .FIELD .S .ST 25 1 0
  | .CAN_CFG_TTMASTER => row .FIELD .S .ST 24 1 0
  | .CAN_CFG_TBSEL => row .FIELD .S .ST 22 2 0
  | .CAN_CFG_REJ => row .FIELD .C .W1C 21 1 0
  | .CAN_CFG_RXQ => row .FIELD .S .ST 0 6 0
  | .CAN_NBT_NBRP => row .FIELD .S .ST 27 5 0
  | .CAN_NBT_NTSEG1 => row .FIELD .S .ST 18 9 0x3f
  | .CAN_NBT_NTSEG2 => row .FIELD .S .ST 11 7 0xf
  | .CAN_NBT_NSJW => row .FIELD .S .ST 4 7 0xf
  | .CAN_DBT_DBRP => row .FIELD .S .ST 27 5 0
  | .CAN_DBT_DTSEG1 => row .FIELD .S .ST 22 5 0xe
  | .CAN_DBT_DTSEG2 => row .FIELD .S .ST 18 4 3
  | .CAN_DBT_DSJW => row .FIELD .S .ST 14 4 3
  | .CAN_DBT_TDCEN => row .FIELD .S .ST 13 1 0
  | .CAN_DBT_TDCO => row .FIELD .S .ST 0 8 0
  | .CAN_ERR_STATE => row .FIELD .C .RO 30 2 0
  | .CAN_ERR_RECOV => row .FIELD .C .W1S 29 1 0
  | .CAN_ERR_TDCFAIL => row .FIELD .C .W1C 28 1 0
  | .CAN_ERR_LEC => row .FIELD .C .RO 24 3 0
  | .CAN_ERR_TEC => row .FIELD .C .RO 16 8 0
  | .CAN_ERR_REC => row .FIELD .C .RO 8 8 0
  | .CAN_ERR_TDCV => row .FIELD .C .RO 0 8 0
  | .CAN_TXREQ => row .FIELD .C .W1S 0 32 0
  | .CAN_TXCAN => row .FIELD .C .W1S 0 32 0
  | .CAN_TXOK => row .FIELD .C .W1C 0 32 0
  | .CAN_TXFAIL => row .FIELD .C .W1C 0 32 0
  | .CAN_TXSDC => row .FIELD .C .W1C 0 32 0
  | .CAN_RXOK => row .FIELD .C .RO 0 32 0
  | .CAN_RXFILT => row .FIELD .C .RO 0 32 0
  | .CAN_RXLOST => row .FIELD .C .RO 0 32 0
  | .CAN_NOTE_NOTE => row .FIELD .S .RW 31 1 0
  | .CAN_NOTE_TASK => row .FIELD .S .RW 25 6 0
  | .CAN_NOTE_FLAG => row .FIELD .S .RW 20 5 0
  | .CAN_FID_EN => row .FIELD .S .ST 31 1 0
  | .CAN_FID_XTD => row .FIELD .S .ST 30 1 0
  | .CAN_FID_FID => row .FIELD .S .ST 0 29 0
  | .CAN_FMSK => row .FIELD .S .ST 0 29 0x1fffffff
  | .CAN_TT_BCYC => row .FIELD .S .ST 16 16 0x3e8
  | .CAN_TT_NCYC => row .FIELD .S .ST 8 6 0
  | .CAN_TT_REFBUF => row .FIELD .S .ST 0 5 0
  | .CAN_TTSTAT_SYNC => row .FIELD .C .RO 31 1 0
  | .CAN_TTSTAT_MISSREF => row .FIELD .C .W1C 30 1 0
  | .CAN_TTSTAT_CYCLE => row .FIELD .C .RO 24 6 0
  | .CAN_COL_OFSH => row .FIELD .S .ST 16 16 0xffff
  | .CAN_COL_OFSL => row .FIELD .S .ST 0 16 0xffff
  | .PCIE_STAT_LINKUP => row .FIELD .C .RO 31 1 0
  | .PCIE_STAT_CLKSEL => row .FIELD .C .RO 30 1 0
  | .PCIE_STAT_GEN => row .FIELD .C .RO 24 2 0
  | .PCIE_STAT_WIDTH => row .FIELD .C .RO 16 3 0
  | .PCIE_AP => row .FIELD .K .RW 16 16 0x40
  | .PCIE_B2 => row .FIELD .K .RW 22 10 8
  | .HQ_CFG_EN => row .FIELD .C .RW 31 1 0
  | .HQ_CFG_DIR => row .FIELD .C .RW 30 1 0
  | .HQ_CFG_HOSTERR => row .FIELD .C .W1C 29 1 0
  | .HQ_CFG_RSZ => row .FIELD .C .RW 8 5 4
  | .HQ_CFG_QUEUE => row .FIELD .C .RW 0 6 0
  | .HQ_RING_LO => row .FIELD .C .RW 0 32 0
  | .HQ_RING_HI => row .FIELD .C .RW 0 32 0
  | .HQ_HOST => row .FIELD .C .RW 0 32 0
  | .HQ_DEV => row .FIELD .C .RO 0 32 0
  | .XSPI_CTL_GO => row .FIELD .C .W1S 31 1 0
  | .XSPI_CTL_OP => row .FIELD .C .RW 24 4 0
  | .XSPI_CTL_LEN => row .FIELD .C .RW 0 16 0
  | .XSPI_ADDR => row .FIELD .C .RW 0 30 0
  | .XSPI_BUF_LO => row .FIELD .C .RW 0 32 0
  | .XSPI_BUF_HI => row .FIELD .C .RW 0 32 0
  | .XSPI_STAT_BUSY => row .FIELD .C .RO 31 1 0
  | .XSPI_STAT_DONE => row .FIELD .C .W1C 30 1 0
  | .XSPI_STAT_ERR => row .FIELD .C .RO 0 8 0
  | .TB_NS => row .FIELD .K .RO 0 30 0
  | .TB_FRAC => row .FIELD .K .RO 0 16 0
  | .TB_SEC_LO => row .FIELD .K .RO 0 32 0
  | .TB_SEC_HI => row .FIELD .K .RO 0 32 0
  | .TB_RATE => row .FIELD .K .RW 0 32 0
  | .TB_NEW_NS => row .FIELD .C .RW 0 32 0
  | .TB_NEW_SLO => row .FIELD .C .RW 0 32 0
  | .TB_NEW_SHI => row .FIELD .C .RW 0 32 0
  | .TB_CTL_SET => row .FIELD .C .W1S 31 1 0
  | .TB_CTL_STEP => row .FIELD .C .W1S 30 1 0
  | .TB_CTL_REJ => row .FIELD .C .W1C 29 1 0
  | .TIME_SNAP => row .FIELD .C .W1S 31 1 0
  | .SN_NS => row .FIELD .C .RO 0 32 0
  | .SN_SEC_LO => row .FIELD .C .RO 0 32 0
  | .SN_SEC_HI => row .FIELD .C .RO 0 32 0
  | .SN_FRAC => row .FIELD .C .RO 0 32 0
  | .DC_CFG_EN => row .FIELD .K .RW 31 1 0
  | .DC_CFG_MODE => row .FIELD .K .RW 29 2 0
  | .DC_CFG_LINK => row .FIELD .K .RW 28 1 0
  | .DC_CFG_MASTER => row .FIELD .K .RW 27 1 0
  | .DC_CFG_SEDEN => row .FIELD .K .RW 26 1 0
  | .DC_CFG_FSEV => row .FIELD .K .RW 24 2 3
  | .DC_CFG_NSEG => row .FIELD .K .RW 16 8 0
  | .DC_MEM_BASE => row .FIELD .K .RW 16 11 0
  | .DC_MEM_SIZE => row .FIELD .K .RW 0 11 0
  | .DC_POST => row .FIELD .K .RW 0 19 0
  | .DC_CTL_ARM => row .FIELD .C .W1S 31 1 0
  | .DC_CTL_FIRE => row .FIELD .C .W1S 30 1 0
  | .DC_CTL_STOP => row .FIELD .C .W1S 29 1 0
  | .DC_STAT_STATE => row .FIELD .C .RO 29 3 0
  | .DC_STAT_REJ => row .FIELD .C .W1C 28 1 0
  | .DC_STAT_OVF => row .FIELD .C .W1C 27 1 0
  | .DC_STAT_SEG => row .FIELD .C .RO 16 8 0
  | .DC_WPTR => row .FIELD .C .RO 0 19 0
  | .DC_SEEN => row .FIELD .C .RO 0 32 0
  | .DC_REC => row .FIELD .C .RO 0 32 0
  | .DC_SKIP => row .FIELD .C .RO 0 32 0
  | .DC_LOST => row .FIELD .C .RO 0 32 0
  | .DC_IDLE => row .FIELD .C .RO 0 32 0
  | .DC_DISC => row .FIELD .C .RO 0 32 0
  | .TAP_CFG_EN => row .FIELD .K .RW 31 1 0
  | .TAP_CFG_TRIG => row .FIELD .K .RW 30 1 0
  | .TAP_CFG_TMODE => row .FIELD .K .RW 28 2 0
  | .TAP_CFG_EVT => row .FIELD .K .RW 27 1 0
  | .TAP_CFG_KEY => row .FIELD .K .RW 0 16 0
  | .TAP_DB => row .FIELD .K .RW 0 32 0
  | .TAP_LEVEL => row .FIELD .K .RW 0 32 0
  | .TAP_KEEP => row .FIELD .K .RW 0 16 0
  | .DCS_CFG_EN => row .FIELD .C .RW 31 1 0
  | .DCS_CFG_DST => row .FIELD .C .RW 30 1 0
  | .DCS_CFG_HOSTERR => row .FIELD .C .W1C 29 1 0
  | .DCS_CFG_RSZ => row .FIELD .C .RW 16 5 4
  | .DCS_CFG_FLUSH => row .FIELD .C .RW 0 16 0x3e8
  | .DCS_RING_LO => row .FIELD .C .RW 0 32 0
  | .DCS_RING_HI => row .FIELD .C .RW 0 32 0
  | .DCS_HOST => row .FIELD .C .RW 0 32 0
  | .DCS_DEV => row .FIELD .C .RO 0 32 0
  | .SED_CTL_FREEZE => row .FIELD .C .RW 31 1 0
  | .SED_CTL_FLOODN => row .FIELD .K .RW 0 8 0x40
  | .SED_STAT_READY => row .FIELD .C .RO 31 1 0
  | .SED_STAT_FULL => row .FIELD .C .RO 30 1 0
  | .SED_STAT_RESERVE => row .FIELD .C .RO 29 1 0
  | .SED_STAT_FLOOD => row .FIELD .C .RO 28 1 0
  | .SED_STAT_FRZ => row .FIELD .C .RO 27 1 0
  | .SED_STAT_FRZTO => row .FIELD .C .W1C 26 1 0
  | .SED_STAT_USED => row .FIELD .C .RO 0 13 0
  | .SED_NEXT => row .FIELD .N .RO 0 32 1
  | .SED_EVT => row .FIELD .C .RO 0 32 0
  | .SED_NEW => row .FIELD .C .RO 0 32 0
  | .SED_RPT => row .FIELD .C .RO 0 32 0
  | .SED_FLD => row .FIELD .C .RO 0 32 0
  | .SED_FULLD => row .FIELD .C .RO 0 32 0
  | .SED_FRZL => row .FIELD .C .RO 0 32 0
  | .SED_HELD => row .FIELD .C .RO 0 7 0
  | .SPARE_MIRROK => row .LOOP .C .RO 31 1 0
  | .SPARE_SUBST => row .LOOP .K .RO 30 1 0
  | .SPARE_RESTORE => row .LOOP .C .W1S 29 1 0
  | .SPARE_READMIT => row .LOOP .C .W1S 28 1 0
  | .SPARE_RESULT => row .LOOP .C .RO 16 8 0
  | .SPARE_FROM => row .LOOP .K .RO 8 3 0
  | .SPARE_CELL => row .LOOP .C .RW 0 3 0
  | .C_IMG => row .LOOP .S .RW 15 9 0
  | .ERR_HOLD_EVLOST => row .CHIP .C .RO 16 16 0
  | .ERR_HOLD_HELD => row .CHIP .C .RO 0 7 0
  | .PAIR_CTL_EN => row .CHIP .K .RW 31 1 0
  | .PAIR_CTL_PREF => row .CHIP .K .RW 30 1 0
  | .PAIR_CTL_RMODE => row .CHIP .K .RW 29 1 0
  | .PAIR_CTL_RESIGN => row .CHIP .C .W1S 28 1 0
  | .PAIR_CTL_READMIT => row .CHIP .C .W1S 27 1 0
  | .PAIR_CTL_MAJOR => row .CHIP .K .RW 0 14 0x3e8
  | .PAIR_STAT_ROLE => row .CHIP .N .RO 29 3 0
  | .PAIR_STAT_LINKUP => row .CHIP .C .RO 28 1 0
  | .PAIR_STAT_HBOK => row .CHIP .C .RO 27 1 0
  | .PAIR_STAT_PAIRERR => row .CHIP .C .W1C 26 1 0
  | .PAIR_STAT_CLEAN => row .CHIP .C .RO 20 4 0
  | .PAIR_STAT_CAUSE => row .CHIP .N .RO 8 8 0
  | .PAIR_STAT_TEST => row .CHIP .C .RO 0 8 0
  | .PAIR_EPOCH => row .CHIP .N .RO 0 32 0
  | .CP_BEGUN => row .CHIP .C .RO 0 32 0
  | .CP_COMMIT => row .CHIP .C .RO 0 32 0
  | .CP_ABORT => row .CHIP .C .RO 0 32 0
  | .CP_STAT_INPROG => row .CHIP .C .RO 31 1 0
  | .CP_STAT_FULL => row .CHIP .C .RO 30 1 0
  | .CP_STAT_DIRTY => row .CHIP .C .RO 0 16 0
  | .CP_TICK => row .CHIP .C .RO 0 32 0
  | .AREA_BASE => row .CHIP .S .RW 0 32 0
  | .AREA_LEN_EN => row .CHIP .S .RW 31 1 0
  | .AREA_LEN_OKIND => row .CHIP .S .RW 30 1 0
  | .AREA_LEN_OWNER => row .CHIP .S .RW 22 8 0
  | .AREA_LEN_LEN => row .CHIP .S .RW 0 22 0
  | .RST_CTL_WARM => row .CHIP .C .W1S 31 1 0
  | .RST_CTL_KEY => row .CHIP .C .WO 8 8 0
  | .RST_CTL_REGION => row .CHIP .C .W1S 0 4 0
  | .RST_CAUSE => row .CHIP .C .RO 0 8 0
  | .PWR_CTL_QUIESCE => row .CHIP .C .W1S 31 1 0
  | .PWR_CTL_RUN => row .CHIP .C .W1S 30 1 0
  | .PWR_CTL_DEEP => row .CHIP .C .W1S 29 1 0
  | .PWR_CTL_STATE => row .CHIP .C .RO 0 2 0
  | .SAFE_STAT_STATE => row .SAFE .C .RO 29 3 0
  | .SAFE_STAT_CORE => row .SAFE .C .RO 28 1 0
  | .SAFE_STAT_CLK => row .SAFE .C .RO 27 1 0
  | .SAFE_STAT_MEM => row .SAFE .C .RO 26 1 0
  | .SAFE_STAT_PSERR => row .SAFE .C .RO 16 8 0
  | .SAFE_STAT_SLOT => row .SAFE .C .RO 0 1 0
  | .SAFE_PSID => row .SAFE .C .RO 0 32 0
  | .SAFE_IN => row .SAFE .C .RO 0 24 0
  | .SAFE_TPF => row .SAFE .C .RO 0 24 0
  | .SAFE_OUT_ON => row .SAFE .C .RO 16 8 0
  | .SAFE_OUT_FB => row .SAFE .C .RO 8 8 0
  | .SAFE_OUT_OFLT => row .SAFE .C .RO 0 8 0
  | .SAFE_S0 => row .SAFE .C .RO 0 32 0xffffffff
  | .SAFE_S1 => row .SAFE .C .RO 0 32 0
  | .SAFE_ST => row .SAFE .C .RO 0 16 0xffff
  | .FN_STAT_STATE => row .SAFE .C .RO 29 3 0
  | .FN_STAT_DISCF => row .SAFE .C .RO 28 1 0
  | .FN_STAT_TPF => row .SAFE .C .RO 27 1 0
  | .FN_STAT_OUTF => row .SAFE .C .RO 26 1 0
  | .FN_STAT_TRIPS => row .SAFE .C .RO 0 16 0
  | .CLK_CTL => row .CHIP .C .RW 31 1 0
  | .CLK_STAT_PLLLOCK => row .CHIP .C .RO 31 1 0
  | .CLK_STAT_REFOK => row .CHIP .C .RO 30 1 0
  | .CLK_STAT_SSC_ACT => row .CHIP .C .RO 29 1 0
  | .SLEW_TMUX => row .CHIP .K .RW 14 2 1
  | .SLEW_SVC => row .CHIP .K .RW 12 2 1
  | .SLEW_XSPI => row .CHIP .K .RW 10 2 2
  | .SLEW_CAN => row .CHIP .K .RW 8 2 1
  | .SLEW_ENC => row .CHIP .K .RW 6 2 1
  | .SLEW_STP => row .CHIP .K .RW 4 2 1
  | .SLEW_PWM => row .CHIP .K .RW 2 2 1
  | .SLEW_MISC => row .CHIP .K .RW 0 2 1
  | .TEMP_TWARN => row .CHIP .C .W1C 31 1 0
  | .TEMP_WLIM => row .CHIP .K .RW 16 8 0x64
  | .TEMP_TJ => row .CHIP .C .RO 0 16 0
  | .FORCE_CTL_EN => row .CHIP .C .RW 31 1 0
  | .FORCE_CTL_KEY => row .CHIP .C .RW 0 16 0
  | .FORCE_VAL => row .CHIP .C .RW 0 32 0
  | .FORCE_QUAL => row .CHIP .C .RO 0 8 0
  | .FORCE_HITS => row .CHIP .C .RO 0 32 0
  | .BOOT_STAT => row .CHIP .C .RO 0 30 0
  | .SVC_STAT_OPEN => row .CHIP .C .RO 31 1 0
  | .SVC_STAT_LOCKED => row .CHIP .C .RO 30 1 0
  | .SVC_STAT_RFAIL => row .CHIP .C .W1C 29 1 0
  | .SVC_STAT_ARB => row .CHIP .N .RO 0 7 0
  | .BOOT_CTL_LOOP_GO => row .CHIP .C .W1S 31 1 0
  | .BOOT_CTL_LOOP_HELD => row .CHIP .C .RO 30 1 0
  | .CFG_COMMIT_GO => row .LOOP .C .W1S 31 1 0
  | .CFG_COMMIT_PENDING => row .LOOP .C .RO 30 1 0
  | .TOKEN_STAT_ABSORBED => row .LOOP .C .RO 16 16 0
  | .TOKEN_STAT_MISROUTED => row .LOOP .C .RO 0 16 0
  | .x_TBV => row .CHIP .N .INT 0 0 0
  | .x_HELD => row .CHIP .N .INT 0 1 1
  | .x_CYC => row .CHIP .N .INT 0 0 0
  | .x_RUNB => row .LOOP .C .INT 0 1 0
  | .x_SLOT_PASS => row .LOOP .C .INT 0 1 0
  | .x_SLOT_PTICK => row .LOOP .C .INT 0 0 0
  | .x_SLOT_SWAP => row .LOOP .C .INT 0 1 0
  | .x_SLOT_FIRST => row .LOOP .S .INT 0 0 0
  | .x_SLOT_DTICK => row .LOOP .C .INT 0 0 0
  | .x_SLOT_OUTD => row .LOOP .C .INT 0 0 0
  | .x_SLOT_MISSD => row .LOOP .C .INT 0 0 0
  | .x_BLK_STOP => row .LOOP .C .INT 0 1 0
  | .x_BLK_STICK => row .LOOP .C .INT 0 0 0
  | .x_LASTV => row .LOOP .C .INT 0 32 0
  | .x_LASTQ => row .LOOP .C .INT 0 8 1
  | .x_HO_STG => row .LOOP .C .INT 0 0 0
  | .x_HO_TICK => row .LOOP .C .INT 0 0 0
  | .x_OS_STEP => row .LOOP .S .INT 0 2 0
  | .x_OS_SWT => row .LOOP .S .INT 0 0 0
  | .x_DEEP => row .CHIP .N .INT 0 1 0
  | .x_SWAP_E => row .LOOP .C .INT 0 13 0
  | .x_SWAP_W => row .LOOP .C .INT 0 20 0
  | .x_SWAP_L => row .LOOP .C .INT 0 11 0
  | .x_LSPSIG => row .LOOP .C .INT 0 1 0
  | .x_SUB_WIN => row .LOOP .C .INT 0 1 0
  | .x_RST_COPY => row .LOOP .C .INT 0 1 0
  | .x_RST_SW => row .LOOP .C .INT 0 1 0
  | .x_RST_TICK => row .LOOP .C .INT 0 0 0
  | .x_RUNT => row .PROG .C .INT 0 0 0
  | .x_WAKE => row .PROG .C .INT 0 0 0
  | .x_TIMED => row .PROG .C .INT 0 1 0
  | .x_TIMST => row .PROG .S .INT 0 0 0
  | .x_TIMNT => row .PROG .S .INT 0 1 0
  | .x_STOPT => row .PROG .C .INT 0 0 0
  | .x_CYCST => row .PROG .C .INT 0 0 0
  | .x_CYCD => row .PROG .C .INT 0 0 0
  | .x_QDIR => row .PROG .C .INT 0 2 0
  | .x_CHGAT => row .PROG .C .INT 0 0 0
  | .x_PARTNER => row .CHIP .C .INT 0 3 0
  | .x_PEPOCH => row .CHIP .N .INT 0 32 0
  | .x_STNRX => row .FIELD .C .INT 0 0 0
  | .x_CHGCNT => row .PROG .C .INT 0 12 0
  | .x_E_LT => rowD .FIELD .C .INT 0 0 0
  | .x_E_LC => rowD .FIELD .C .INT 0 64 0
  | .x_E_RT => rowD .FIELD .C .INT 0 0 0
  | .x_E_RC => rowD .FIELD .C .INT 0 64 0
  | .x_E_VM => rowD .FIELD .C .INT 0 64 0
  | .x_E_FIRST => rowD .FIELD .C .INT 0 1 0
  | .x_E_PENDG => rowD .FIELD .C .INT 0 1 0
  | .x_E_DONE => rowD .FIELD .C .INT 0 0 0
  | .x_E_ILLP => rowD .FIELD .C .INT 0 1 0
  | .x_E_FRM => rowD .FIELD .C .INT 0 0 0
  | .x_E_FRT => rowD .FIELD .C .INT 0 0 0
  | .x_E_PAUSE => rowD .FIELD .C .INT 0 0 0
  | .x_E_POS => rowD .FIELD .C .INT 0 40 0
  | .x_E_GOOD => rowD .FIELD .C .INT 0 1 0
  | .x_E_GT => rowD .FIELD .C .INT 0 0 0
  | .x_E_CHT => rowD .FIELD .C .INT 0 0 0
  | .x_E_LASTP => rowD .FIELD .C .INT 0 32 0
  | .x_LQ_CNT => rowD .FIELD .C .INT 0 32 0
  | .x_LQ_TIME => rowD .FIELD .C .INT 0 32 0
  | .x_P_ST => rowD .FIELD .C .INT 0 2 0
  | .x_P_DIR => rowD .FIELD .C .INT 0 1 0
  | .x_P_DIRT => rowD .FIELD .C .INT 0 0 0
  | .x_P_NEXT => rowD .FIELD .C .INT 0 0 0
  | .x_E_LQ => rowD .FIELD .C .INT 0 8 0
  | .x_AX_TGT => row .FIELD .S .INT 0 64 0
  | .x_AX_RANK => row .FIELD .S .INT 0 3 0
  | .x_AX_RCAUSE => row .FIELD .S .INT 0 4 0
  | .x_AX_REQ => row .FIELD .C .INT 0 3 0
  | .x_AX_QCAUSE => row .FIELD .C .INT 0 4 0
  | .x_AX_RTICK => row .FIELD .C .INT 0 0 0
  | .x_AX_REST => row .FIELD .C .INT 0 1 0
  | .x_AX_STOP1 => row .FIELD .C .INT 0 1 0
  | .x_AX_STOP0 => row .FIELD .C .INT 0 1 0
  | .x_AX_DONE => row .FIELD .C .INT 0 0 0
  | .x_AX_ENG => row .FIELD .S .INT 0 1 0
  | .x_AX_M0 => row .FIELD .S .INT 0 64 0
  | .x_AX_P0 => row .FIELD .S .INT 0 64 0
  | .x_AX_R0 => row .FIELD .S .INT 0 64 0
  | .x_G_REQ => row .FIELD .C .INT 0 3 0
  | .x_G_QCAUSE => row .FIELD .C .INT 0 4 0
  | .x_G_RTICK => row .FIELD .C .INT 0 0 0
  | .x_G_RANK => row .FIELD .S .INT 0 3 0
  | .x_G_RCAUSE => row .FIELD .S .INT 0 4 0
  | .x_PWM_ACT => row .FIELD .C .INT 0 1 0
  | .x_PWM_ENDT => row .FIELD .C .INT 0 0 0
  | .x_PWM_TURN => row .FIELD .C .INT 0 0 0
  | .x_PWM_SRC => row .FIELD .C .INT 0 32 0
  | .x_OS_WAT => row .LOOP .C .INT 0 0 0
  | .x_ST_PT => row .FIELD .S .INT 0 32 0
  | .x_ST_W => row .FIELD .C .INT 0 0 0
  | .x_ST_DOWN => row .FIELD .C .INT 0 1 0
  | .x_ST_TWT => row .FIELD .C .INT 0 0 0
  | .x_ST_RESTT => row .FIELD .C .INT 0 0 0
  | .x_ST_ON => row .FIELD .C .INT 0 1 0
  | .x_ST_PHT => row .FIELD .C .INT 0 0 0
  | .x_ST_CHOPS => row .FIELD .C .INT 0 0 0
  | .x_ST_ONSUM => row .FIELD .C .INT 0 0 0
  | .x_ST_WASON => row .FIELD .C .INT 0 1 0
  | .x_ST_WIN => row .FIELD .C .INT 0 0 0
  | .x_RET_E => row .CHIP .N .INT 0 1 0
  | .x_RET_AX => row .CHIP .N .INT 0 1 0
  | .x_RET_AIN => row .CHIP .N .INT 0 1 0
  | .x_RET_AO => row .CHIP .N .INT 0 1 0
  | .x_RET_PWM => row .CHIP .N .INT 0 1 0
  | .x_RET_STP => row .CHIP .N .INT 0 1 0
  | .x_RET_LNK => row .CHIP .N .INT 0 1 0
  | .x_SD_RUN => rowD .FIELD .C .INT 0 1 0
  | .x_SD_T0 => rowD .FIELD .C .INT 0 0 0
  | .x_SD_R => rowD .FIELD .C .INT 0 9 0
  | .x_SD_KEY => rowD .FIELD .C .INT 0 0 0
  | .x_SD_SET => rowD .FIELD .C .INT 0 3 0
  | .x_SD_UT0 => rowD .FIELD .C .INT 0 0 0
  | .x_SD_UCFG => rowD .FIELD .C .INT 0 0 0
  | .x_SD_RST => rowD .FIELD .C .INT 0 1 0
  | .x_SD_TDONE => rowD .FIELD .C .INT 0 0 0
  | .x_AIN_T => rowD .FIELD .C .INT 0 0 0
  | .x_AIN_PT => rowD .FIELD .C .INT 0 0 0
  | .x_AIN_DONE => rowD .FIELD .C .INT 0 0 0
  | .x_SAR_DONE => rowD .FIELD .C .INT 0 0 0
  | .x_SAR_END => rowD .FIELD .C .INT 0 0 0
  | .x_CAL_STEP => row .FIELD .C .INT 0 3 0
  | .x_CAL_CMD => row .FIELD .C .INT 0 3 0
  | .x_CAL_TGT => row .FIELD .C .INT 0 2 0
  | .x_CAL_CH => row .FIELD .C .INT 0 6 0
  | .x_CAL_GAIN => row .FIELD .C .INT 0 3 0
  | .x_AO_CMT => rowD .FIELD .C .INT 0 0 0
  | .x_AO_WR => rowD .FIELD .C .INT 0 1 0
  | .x_FM_T0 => row .FIELD .C .INT 0 0 0
  | .x_FM_END => row .FIELD .C .INT 0 0 0
  | .x_FM_NEN => row .FIELD .C .INT 0 1 0
  | .x_FM_NCH => row .FIELD .C .INT 0 3 0
  | .x_FM_CMTP => row .FIELD .C .INT 0 1 0
  | .x_OL_DONE => row .FIELD .C .INT 0 0 0
  | .x_OL_PH => row .FIELD .C .INT 0 3 0
  | .x_OL_PT => row .FIELD .C .INT 0 0 0
  | .x_OL_RTTOK => row .FIELD .C .INT 0 1 0
  | .x_MAP_DONE => row .FIELD .C .INT 0 0 0
  | .x_EPHI => row .CHIP .C .INT 0 33 0
  | .x_ETH_BUSY => row .FIELD .C .INT 0 1 0
  | .x_ETH_TXI => row .FIELD .C .INT 0 0 0
  | .x_ETH_LON => row .FIELD .S .INT 0 1 0
  | .x_ETH_BASE => row .FIELD .S .INT 0 0 0
  | .x_ETH_LNENT => row .FIELD .S .INT 0 6 0
  | .x_ETH_SWF => row .FIELD .C .INT 0 0 0
  | .x_ETH_GATE => row .FIELD .C .INT 0 8 0xff
  | .x_CAN_CUR => row .FIELD .C .INT 0 6 0
  | .x_CAN_CURT => row .FIELD .C .INT 0 1 0
  | .x_CAN_SOF => row .FIELD .C .INT 0 31 0
  | .x_CAN_SOFT => row .FIELD .C .INT 0 0 0
  | .x_CAN_TTB => row .FIELD .C .INT 0 6 0
  | .x_CAN_TTK => row .FIELD .C .INT 0 2 0
  | .x_CAN_COLN => row .FIELD .C .INT 0 6 0
  | .x_CAN_BCA => row .FIELD .C .INT 0 1 0
  | .x_CAN_BCT => row .FIELD .C .INT 0 0 0
  | .x_CAN_REFT => row .FIELD .C .INT 0 0 0
  | .x_CAN_NB => row .FIELD .C .INT 0 6 0
  | .x_CAN_BCD => row .FIELD .C .INT 0 0 0
  | .x_MSI_PEND => row .FIELD .C .INT 0 1 0
  | .x_MSI_T => row .FIELD .C .INT 0 0 0
  | .x_MSI_SENT => row .FIELD .C .INT 0 0 0
  | .x_TB_ACT => row .FIELD .C .INT 0 0 0
  | .x_TB_S => row .FIELD .C .INT 0 64 0
  | .x_TB_N => row .FIELD .C .INT 0 32 0
  | .x_DC_SEQ => row .FIELD .C .INT 0 0 0
  | .x_DC_NWR => row .FIELD .C .INT 0 0 0
  | .x_DC_NPUT => row .FIELD .C .INT 0 0 0
  | .x_DC_FW => row .FIELD .C .INT 0 1 0
  | .x_DC_LEFT => row .FIELD .C .INT 0 19 0
  | .x_DC_CLOSE => row .FIELD .C .INT 0 1 0
  | .x_DC_GAP => row .FIELD .C .INT 0 1 0
  | .x_DC_FT => row .FIELD .C .INT 0 0 0
  | .x_DC_THI => row .FIELD .C .INT 0 0 0
  | .x_DC_LOSTN => row .FIELD .C .INT 0 32 0
  | .x_DC_STREAM => row .FIELD .C .INT 0 1 0
  | .x_DC_SENT => row .FIELD .C .INT 0 0 0
  | .x_DC_BT => row .FIELD .C .INT 0 0 0
  | .x_DC_FDRV => row .FIELD .C .INT 0 0 0
  | .x_TAP_LV => row .FIELD .C .INT 0 32 0
  | .x_TAP_LQ => row .FIELD .C .INT 0 8 0
  | .x_TAP_LTY => row .FIELD .C .INT 0 8 0
  | .x_TAP_LT => row .FIELD .C .INT 0 0 0
  | .x_TAP_HAS => row .FIELD .C .INT 0 1 0
  | .x_CAP_ARM => row .FIELD .C .INT 0 1 0
  | .x_CAP_APIN => row .FIELD .C .INT 0 1 0
  | .x_CAP_FIRE => row .FIELD .C .INT 0 1 0
  | .x_CAP_FPIN => row .FIELD .C .INT 0 1 0
  | .x_DCS_T => row .FIELD .C .INT 0 0 0
  | .x_SED_USED => row .CHIP .N .INT 0 13 0
  | .x_SED_WIN => row .FIELD .C .INT 0 0 0
  | .x_SED_WCNT => row .FIELD .C .INT 0 0 0
  | .x_SED_FN => row .FIELD .C .INT 0 32 0
  | .x_SED_FT0 => row .FIELD .C .INT 0 0 0
  | .x_SED_FP0 => row .FIELD .C .INT 0 8 0
  | .x_SED_FT1 => row .FIELD .C .INT 0 0 0
  | .x_SED_FRT => row .FIELD .C .INT 0 0 0
  | .x_SED_PF => row .FIELD .C .INT 0 1 0
  | .x_RETC => row .CHIP .N .INT 0 1 0
  | .x_RETB => row .CHIP .N .INT 0 1 0
  | .x_SLOT_SAFE => row .LOOP .C .INT 0 0 0
  | .x_PM_AX => row .CHIP .C .INT 0 1 0
  | .x_PM_ST => row .CHIP .C .INT 0 1 0
  | .x_PM_REST => row .CHIP .C .INT 0 1 0
  | .x_PM_LOAD => row .CHIP .C .INT 0 1 0
  | .x_RSTA => row .CHIP .C .INT 0 1 0
  | .x_RSTC => row .CHIP .C .INT 0 0 0
  | .x_BOOTED => row .CHIP .C .INT 0 1 0
  | .x_ACT => row .CHIP .N .INT 0 2 0
  | .x_ARB => row .CHIP .N .INT 0 7 0
  | .x_PFQ => row .CHIP .C .INT 0 1 0
  | .x_FRQ => row .CHIP .K .INT 0 1 0
  | .x_CLKF => row .CHIP .K .INT 0 0 0
  | .x_TO_WAIT => row .CHIP .C .INT 0 1 0
  | .x_TO_TICK => row .CHIP .C .INT 0 0 0
  | .x_TO_CAUSE => row .CHIP .C .INT 0 8 0
  | .x_HB_REQ => row .CHIP .C .INT 0 1 0
  | .x_HB_DRAIN => row .CHIP .C .INT 0 1 0
  | .x_HB_SENT => row .CHIP .C .INT 0 1 0
  | .x_HB_MISS => row .CHIP .C .INT 0 2 0
  | .x_HB_RX => row .CHIP .C .INT 0 0 0
  | .x_HB_MD => row .CHIP .C .INT 0 0 0
  | .x_HB_T => row .CHIP .C .INT 0 0 0
  | .x_CP_BND => row .CHIP .C .INT 0 0 0
  | .x_CP_BD => row .CHIP .C .INT 0 0 0
  | .x_CP_MARK => row .CHIP .C .INT 0 0 0
  | .x_CP_FLIP => row .CHIP .C .INT 0 1 0
  | .x_CP_LINES => row .CHIP .C .INT 0 0 0
  | .x_CP_CARR => row .CHIP .C .INT 0 0 0
  | .x_CP_ADD => row .CHIP .C .INT 0 0 0
  | .x_CP_BUD => row .CHIP .C .INT 0 0 0
  | .x_CP_LIVE => row .CHIP .N .INT 0 1 0
  | .x_CP_SB => row .CHIP .C .INT 0 4 0
  | .x_PAIR_C0 => row .CHIP .C .INT 0 0 0
  | .x_PAIR_SU => row .CHIP .C .INT 0 1 0
  | .x_OL_NCY => row .FIELD .C .INT 0 0 0
  | .x_EPL => row .CHIP .C .INT 0 5 0
  | .x_L_S0 => row .CHIP .C .INT 0 32 0xffffffff
  | .x_L_S1 => row .CHIP .C .INT 0 32 0
  | .x_L_ST => row .CHIP .C .INT 0 16 0xffff
  | .x_S_CYC => row .SAFE .C .INT 0 0 0
  | .x_S_RAW => row .SAFE .C .INT 0 1 0
  | .x_S_CNT => row .SAFE .C .INT 0 0 0
  | .x_S_HOLD => row .SAFE .C .INT 0 0 0
  | .x_S_TPN => row .SAFE .C .INT 0 0 0
  | .x_S_SWT => row .SAFE .C .INT 0 0 0
  | .x_S_OPT => row .SAFE .C .INT 0 0 0
  | .x_S_DIS => row .SAFE .C .INT 0 2 0
  | .x_S_PRE => row .SAFE .C .INT 0 1 0
  | .x_F_DISC => row .SAFE .C .INT 0 0 0
  | .x_F_DEM => row .SAFE .C .INT 0 0 0
  | .x_F_RST => row .SAFE .C .INT 0 0 0
  | .x_F_RLOW => row .SAFE .C .INT 0 1 0
  | .x_F_TOG => row .SAFE .C .INT 0 1 0
  | .x_F_REL => row .SAFE .C .INT 0 1 0
  | .x_F_ACT => row .SAFE .C .INT 0 0 0
  | .x_NONCE => row .CHIP .C .INT 0 384 0
  | .x_CHAL => row .CHIP .C .INT 0 1 0
  | .x_SVC_T => row .CHIP .C .INT 0 0 0
  | .x_SVC_L => row .CHIP .C .INT 0 0 0
  | .x_TMUX => row .CHIP .C .INT 0 11 0
  | .x_CFG_T => row .CHIP .C .INT 0 0 0
  | .x_CPL_CA => row .FIELD .C .INT 0 1 0
  | .x_CPL_VAL => row .FIELD .C .INT 0 0 0
  | .x_CPL_N => row .FIELD .C .INT 0 0 0
  | .x_OIMG => row .FIELD .S .INT 0 8 0

end Sys2Proof.Machine
end

