-- ==== Sys2Proof/Machine/RegTable.lean ====
section
/-!
DEFINITION. The registers by address: base, the instance dimensions (count, stride, weight in the instance number) and the
fields of the word, from the register tables of spec/ and R29, R30, R34.
-/

namespace Sys2Proof.Machine

/-- A register of the map: its first address, its dimensions and its fields. The instance number is `idx0` plus the sum of
each dimension's index times its weight. -/
structure RegDesc where
  base : Nat
  dims : List (Nat × Nat × Nat)
  idx0 : Nat
  fields : List F
  deriving DecidableEq, Repr

/-- Registers of the LOOP region, part 0. -/
def regsLoop0 : List RegDesc :=
  [ ⟨0x10100000, [(4, 0x1000000, 6), (6, 0x200000, 1)], 0, [.C_STAT_SEC_CNT, .C_STAT_ILL_CNT, .C_STAT_IPAR, .C_STAT_DED, .C_STAT_FAULTED, .C_STAT_LOAD1, .C_STAT_LOAD0, .C_STAT_ACT, .C_STAT_MODE]⟩,
    ⟨0x10100004, [(4, 0x1000000, 6), (6, 0x200000, 1)], 0, [.C_ILL_CAUSE, .C_ILL_SLOT, .C_ILL_PC]⟩,
    ⟨0x10F01000, [(4, 0x1000000, 64), (64, 0x40, 1)], 0, [.SLOT_CTL_EN, .SLOT_CTL_BUSY, .SLOT_CTL_REQ_EN, .SLOT_CTL_REQ_DIS, .SLOT_CTL_REQ_SWAP, .SLOT_CTL_REFUSE, .SLOT_CTL_REF_SLOT, .SLOT_CTL_PRIO, .SLOT_CTL_CELL]⟩,
    ⟨0x10F01004, [(4, 0x1000000, 64), (64, 0x40, 1)], 0, [.SLOT_TIME_PERIOD, .SLOT_TIME_TOFF]⟩,
    ⟨0x10F01008, [(4, 0x1000000, 64), (64, 0x40, 1)], 0, [.SLOT_PH_SPHASE, .SLOT_PH_OPHASE]⟩,
    ⟨0x10F0100C, [(4, 0x1000000, 64), (64, 0x40, 1)], 0, [.SLOT_OPS]⟩,
    ⟨0x10F01010, [(4, 0x1000000, 64), (64, 0x40, 1)], 0, [.SLOT_ENTRY_ENTRY_NEW, .SLOT_ENTRY_ENTRY]⟩,
    ⟨0x10F01014, [(4, 0x1000000, 64), (64, 0x40, 1)], 0, [.SLOT_WCET_OVR, .SLOT_WCET_WCET]⟩,
    ⟨0x10F01018, [(4, 0x1000000, 64), (64, 0x40, 1)], 0, [.SLOT_LONG_LONG_NEW, .SLOT_LONG_LONG]⟩,
    ⟨0x10F0101C, [(4, 0x1000000, 64), (64, 0x40, 1)], 0, [.SLOT_WNEW]⟩,
    ⟨0x10F01020, [(4, 0x1000000, 64), (64, 0x40, 1)], 0, [.SLOT_STATE_SBASE, .SLOT_STATE_SLEN]⟩,
    ⟨0x10F01024, [(4, 0x1000000, 64), (64, 0x40, 1)], 0, [.SLOT_POL_INNER, .SLOT_POL_CASC, .SLOT_POL_LSP, .SLOT_POL_DPOL]⟩,
    ⟨0x10F01028, [(4, 0x1000000, 64), (64, 0x40, 1)], 0, [.SLOT_ARR]⟩,
    ⟨0x10F0102C, [(4, 0x1000000, 64), (64, 0x40, 1)], 0, [.SLOT_MISS]⟩,
    ⟨0x10F01030, [(4, 0x1000000, 64), (64, 0x40, 1)], 0, [.TOK_IN]⟩,
    ⟨0x10F01034, [(4, 0x1000000, 64), (64, 0x40, 1)], 0, [.TOK_USED]⟩,
    ⟨0x10F01038, [(4, 0x1000000, 64), (64, 0x40, 1)], 0, [.TOK_UNUSED]⟩,
    ⟨0x10F0103C, [(4, 0x1000000, 64), (64, 0x40, 1)], 0, [.SLOT_PEND_TYPE_MM, .SLOT_PEND_PEND]⟩,
    ⟨0x10F00020, [(4, 0x1000000, 6), (5, 0x4, 1)], 0, [.C_LOAD]⟩,
    ⟨0x1F100000, [(2048, 0x20, 1)], 0, [.OS_CFG_OWNER, .OS_CFG_BLEND, .OS_CFG_TYPE, .OS_CFG_EN]⟩,
    ⟨0x1F100004, [(2048, 0x20, 1)], 0, [.OS_SAFE]⟩,
    ⟨0x1F100008, [(2048, 0x20, 1)], 0, [.OS_HLIM]⟩,
    ⟨0x1F10000C, [(2048, 0x20, 1)], 0, [.OS_HRATE]⟩,
    ⟨0x1F100010, [(2048, 0x20, 1)], 0, [.OS_VAL]⟩ ]

/-- Registers of the LOOP region, part 1. -/
def regsLoop1 : List RegDesc :=
  [ ⟨0x1F100014, [(2048, 0x20, 1)], 0, [.OS_STAT_LATE, .OS_STAT_NOTOWN, .OS_STAT_QUAL, .OS_STAT_BLENDING, .OS_STAT_SAFE_ACT, .OS_STAT_HELD]⟩,
    ⟨0x1F100018, [(2048, 0x20, 1)], 0, [.OS_MAP_LINK, .OS_MAP_STATION, .OS_MAP_OFFSET, .OS_MAP_WIDTH]⟩,
    ⟨0x1F10001C, [(2048, 0x20, 1)], 0, [.OS_TMM]⟩,
    ⟨0x10F0000C, [(4, 0x1000000, 1)], 0, [.CELL_MODE_REJ, .CELL_MODE_M3, .CELL_MODE_M2, .CELL_MODE_M1, .CELL_MODE_M0]⟩,
    ⟨0x10F00004, [(4, 0x1000000, 1)], 0, [.MS_STAT_FULLSEEN, .MS_STAT_PENDING, .MS_STAT_PEAK]⟩,
    ⟨0x10F00008, [(4, 0x1000000, 1)], 0, [.MS_STALL]⟩,
    ⟨0x10F00010, [(4, 0x1000000, 1)], 0, [.SPARE_MIRROK, .SPARE_SUBST, .SPARE_RESTORE, .SPARE_READMIT, .SPARE_RESULT, .SPARE_FROM, .SPARE_CELL]⟩,
    ⟨0x10F00040, [(4, 0x1000000, 6), (5, 0x4, 1)], 0, [.C_IMG]⟩,
    ⟨0x1F000010, [], 0, [.CFG_COMMIT_GO, .CFG_COMMIT_PENDING]⟩,
    ⟨0x1F000020, [], 0, [.TOKEN_STAT_ABSORBED, .TOKEN_STAT_MISROUTED]⟩ ]

/-- Registers of the PROG region, part 0. -/
def regsProg0 : List RegDesc :=
  [ ⟨0x1000000, [(64, 0x40, 1)], 0, [.TASK_CTL_REQ_START, .TASK_CTL_REQ_KILL, .TASK_CTL_CORE, .TASK_CTL_PRIO]⟩,
    ⟨0x1000004, [(64, 0x40, 1)], 0, [.TASK_ENTRY]⟩,
    ⟨0x1000008, [(64, 0x40, 1)], 0, [.TASK_STAT_STATE, .TASK_STAT_PC]⟩,
    ⟨0x100000C, [(64, 0x40, 1)], 0, [.TASK_FAULT]⟩,
    ⟨0x1000010, [(64, 0x40, 1)], 0, [.TASK_FLAGS]⟩,
    ⟨0x1000014, [(64, 0x40, 1)], 0, [.TASK_FSET]⟩,
    ⟨0x1000018, [(64, 0x40, 1)], 0, [.TASK_WMASK]⟩,
    ⟨0x100001C, [(64, 0x40, 1)], 0, [.TASK_WAKE]⟩,
    ⟨0x1000020, [(64, 0x40, 1)], 0, [.TASK_RUN]⟩,
    ⟨0x1010000, [(1024, 0x10, 1)], 0, [.TIM_ID]⟩,
    ⟨0x1010004, [(1024, 0x10, 1)], 0, [.TIM_CFG_IN_LAST, .TIM_CFG_Q, .TIM_CFG_RUN, .TIM_CFG_NOTE, .TIM_CFG_NTASK, .TIM_CFG_NFLAG, .TIM_CFG_UNIT, .TIM_CFG_TYPE]⟩,
    ⟨0x1010008, [(1024, 0x10, 1)], 0, [.TIM_PT]⟩,
    ⟨0x101000C, [(1024, 0x10, 1)], 0, [.TIM_ET]⟩,
    ⟨0x1020000, [(64, 0x20, 1)], 0, [.Q_CFG_EN, .Q_CFG_PKT, .Q_CFG_ATT, .Q_CFG_SIZE]⟩,
    ⟨0x1020004, [(64, 0x20, 1)], 0, [.Q_BASE]⟩,
    ⟨0x1020008, [(64, 0x20, 1)], 0, [.Q_LEVEL_UNCOMMIT, .Q_LEVEL_LEVEL]⟩,
    ⟨0x102000C, [(64, 0x20, 1)], 0, [.Q_IN]⟩,
    ⟨0x1020010, [(64, 0x20, 1)], 0, [.Q_OUT]⟩,
    ⟨0x1020014, [(64, 0x20, 1)], 0, [.Q_DROP]⟩,
    ⟨0x1020018, [(64, 0x20, 1)], 0, [.Q_RWD]⟩,
    ⟨0x102001C, [(64, 0x20, 1)], 0, [.Q_STAT_OVSZ, .Q_STAT_FULLSEEN]⟩,
    ⟨0x1030000, [(512, 0x10, 1)], 0, [.TR_VAL]⟩,
    ⟨0x1030004, [(512, 0x10, 1)], 0, [.TR_INFO_FTAG, .TR_INFO_TYPE, .TR_INFO_QUAL]⟩,
    ⟨0x1030008, [(512, 0x10, 1)], 0, [.TR_CNT]⟩ ]

/-- Registers of the PROG region, part 1. -/
def regsProg1 : List RegDesc :=
  [ ⟨0x103000C, [(512, 0x10, 1)], 0, [.TR_NOTE_EN, .TR_NOTE_TASK, .TR_NOTE_FLAG]⟩,
    ⟨0x1040000, [(64, 0x20, 1)], 0, [.CYC_CTL_EN, .CYC_CTL_OMODE]⟩,
    ⟨0x1040004, [(64, 0x20, 1)], 0, [.CYC_PER]⟩,
    ⟨0x1040008, [(64, 0x20, 1)], 0, [.CYC_OFF]⟩,
    ⟨0x104000C, [(64, 0x20, 1)], 0, [.CYC_WDOG]⟩,
    ⟨0x1040010, [(64, 0x20, 1)], 0, [.CYC_IIMG_CNT, .CYC_IIMG_ADDR]⟩,
    ⟨0x1040014, [(64, 0x20, 1)], 0, [.CYC_OIMG_CNT, .CYC_OIMG_ADDR]⟩,
    ⟨0x1040018, [(64, 0x20, 1)], 0, [.CYC_STAT_OVR, .CYC_STAT_BADDESC, .CYC_STAT_CONFLICT]⟩,
    ⟨0x104001C, [(64, 0x20, 1)], 0, [.CYC_MAXT]⟩,
    ⟨0x1050000, [], 0, [.WD_CTL]⟩,
    ⟨0x1050004, [], 0, [.WD_STAT_STOPPED, .WD_STAT_CAUSE, .WD_STAT_TASK]⟩,
    ⟨0x1050008, [], 0, [.WD_TICK]⟩,
    ⟨0x1060000, [], 0, [.CHG_REC]⟩,
    ⟨0x1060004, [], 0, [.CHG_CTL_GO, .CHG_CTL_ABORT, .CHG_CTL_CNT]⟩,
    ⟨0x1060008, [], 0, [.CHG_STAT_BUSY, .CHG_STAT_DONE, .CHG_STAT_ABANDONED, .CHG_STAT_REFUSE, .CHG_STAT_REF_ENTRY]⟩,
    ⟨0x106000C, [], 0, [.CHG_WAIT_LO]⟩,
    ⟨0x1060010, [], 0, [.CHG_WAIT_HI]⟩,
    ⟨0x1070010, [], 1, [.CFG_COMMIT_GO, .CFG_COMMIT_PENDING]⟩ ]

/-- Registers of the FIELD region, part 0. -/
def regsField0 : List RegDesc :=
  [ ⟨0x21000000, [(4, 0x10000, 8), (8, 0x100, 1)], 0, [.E_CFG_FILT, .E_CFG_INV, .E_CFG_MODE]⟩,
    ⟨0x21000004, [(4, 0x10000, 8), (8, 0x100, 1)], 0, [.E_SER_HALF, .E_SER_LEN, .E_SER_GRAY, .E_SER_PAR, .E_SER_TPAUSE]⟩,
    ⟨0x21000008, [(4, 0x10000, 8), (8, 0x100, 1)], 0, [.E_DEST_PDEST, .E_DEST_SDEST]⟩,
    ⟨0x2100000C, [(4, 0x10000, 8), (8, 0x100, 1)], 0, [.E_TIME_PERIOD, .E_TIME_TOFF]⟩,
    ⟨0x21000010, [(4, 0x10000, 8), (8, 0x100, 1)], 0, [.E_TOK_PEN, .E_TOK_SEN, .E_TOK_SFMT, .E_TOK_STILL_T, .E_TOK_SPHASE]⟩,
    ⟨0x21000014, [(4, 0x10000, 8), (8, 0x100, 1)], 0, [.E_STAT_STILL, .E_STAT_REV, .E_STAT_DIR, .E_STAT_CRCSEEN, .E_STAT_NOACKSEEN, .E_STAT_SERR, .E_STAT_SWARN, .E_STAT_HALLBAD, .E_STAT_ILLSEEN, .E_STAT_LVL, .E_STAT_SECTOR]⟩,
    ⟨0x21000018, [(4, 0x10000, 8), (8, 0x100, 1)], 0, [.E_CNT_LO]⟩,
    ⟨0x2100001C, [(4, 0x10000, 8), (8, 0x100, 1)], 0, [.E_CNT_HI]⟩,
    ⟨0x21000020, [(4, 0x10000, 8), (8, 0x100, 1)], 0, [.E_UP]⟩,
    ⟨0x21000024, [(4, 0x10000, 8), (8, 0x100, 1)], 0, [.E_DOWN]⟩,
    ⟨0x21000028, [(4, 0x10000, 8), (8, 0x100, 1)], 0, [.E_ADJ]⟩,
    ⟨0x2100002C, [(4, 0x10000, 8), (8, 0x100, 1)], 0, [.E_ADD]⟩,
    ⟨0x21000030, [(4, 0x10000, 8), (8, 0x100, 1)], 0, [.E_ILL]⟩,
    ⟨0x21000034, [(4, 0x10000, 8), (8, 0x100, 1)], 0, [.E_SERR_CRCE, .E_SERR_NOACK, .E_SERR_OVL]⟩,
    ⟨0x21000038, [(4, 0x10000, 8), (8, 0x100, 1)], 0, [.E_SPD]⟩,
    ⟨0x21000040, [(4, 0x10000, 8), (8, 0x100, 1)], 0, [.E_LCFG_EN, .E_LCFG_CONT, .E_LCFG_EDGE, .E_LCFG_GATE, .E_LCFG_SRC, .E_LCFG_NOTE, .E_LCFG_NTASK, .E_LCFG_NFLAG, .E_LCFG_LEVEL]⟩,
    ⟨0x21000044, [(4, 0x10000, 8), (8, 0x100, 1)], 0, [.E_LCNT]⟩,
    ⟨0x21000048, [(4, 0x10000, 8), (8, 0x100, 1)], 0, [.E_LTIME_TICK, .E_LTIME_PHASE]⟩,
    ⟨0x2100004C, [(4, 0x10000, 8), (8, 0x100, 1)], 0, [.E_LLOST]⟩,
    ⟨0x21000050, [(4, 0x10000, 8), (8, 0x100, 1)], 0, [.E_PCFG_PEN, .E_PCFG_PSD, .E_PCFG_OVF, .E_PCFG_PSRC, .E_PCFG_PSPACE]⟩,
    ⟨0x21000054, [(4, 0x10000, 8), (8, 0x100, 1)], 0, [.E_PRAT_NUM, .E_PRAT_DEN]⟩,
    ⟨0x21000058, [(4, 0x10000, 8), (8, 0x100, 1)], 0, [.E_POUT]⟩,
    ⟨0x2100005C, [(4, 0x10000, 8), (8, 0x100, 1)], 0, [.E_PLAG]⟩,
    ⟨0x21000060, [(4, 0x10000, 8), (8, 0x100, 1)], 0, [.E_PACC]⟩ ]

/-- Registers of the FIELD region, part 1. -/
def regsField1 : List RegDesc :=
  [ ⟨0x21040000, [(16, 0x4, 1)], 0, [.LIN_CFG_LEVEL, .LIN_CFG_FILT]⟩,
    ⟨0x21100000, [(4, 0x10000, 8), (8, 0x200, 1)], 0, [.AX_CFG_MODE, .AX_CFG_SLEN, .AX_CFG_WDSTOP, .AX_CFG_GRP, .AX_CFG_ENC, .AX_CFG_MSRC]⟩,
    ⟨0x21100004, [(4, 0x10000, 8), (8, 0x200, 1)], 0, [.AX_TIME_PERIOD, .AX_TIME_TOFF]⟩,
    ⟨0x21100008, [(4, 0x10000, 8), (8, 0x200, 1)], 0, [.AX_TOK_PEN, .AX_TOK_VEN, .AX_TOK_AEN, .AX_TOK_SPHASE]⟩,
    ⟨0x2110000C, [(4, 0x10000, 8), (8, 0x200, 1)], 0, [.AX_PVDEST_PDEST, .AX_PVDEST_VDEST]⟩,
    ⟨0x21100010, [(4, 0x10000, 8), (8, 0x200, 1)], 0, [.AX_ADEST]⟩,
    ⟨0x21100014, [(4, 0x10000, 8), (8, 0x200, 1)], 0, [.AX_VMAX]⟩,
    ⟨0x21100018, [(4, 0x10000, 8), (8, 0x200, 1)], 0, [.AX_AMAX]⟩,
    ⟨0x2110001C, [(4, 0x10000, 8), (8, 0x200, 1)], 0, [.AX_JMAX]⟩,
    ⟨0x21100020, [(4, 0x10000, 8), (8, 0x200, 1)], 0, [.AX_QAMAX]⟩,
    ⟨0x21100024, [(4, 0x10000, 8), (8, 0x200, 1)], 0, [.AX_QJMAX]⟩,
    ⟨0x21100028, [(4, 0x10000, 8), (8, 0x200, 1)], 0, [.AX_FEMAX]⟩,
    ⟨0x2110002C, [(4, 0x10000, 8), (8, 0x200, 1)], 0, [.AX_SLP_LO]⟩,
    ⟨0x21100030, [(4, 0x10000, 8), (8, 0x200, 1)], 0, [.AX_SLP_HI]⟩,
    ⟨0x21100034, [(4, 0x10000, 8), (8, 0x200, 1)], 0, [.AX_SLN_LO]⟩,
    ⟨0x21100038, [(4, 0x10000, 8), (8, 0x200, 1)], 0, [.AX_SLN_HI]⟩,
    ⟨0x2110003C, [(4, 0x10000, 8), (8, 0x200, 1)], 0, [.AX_TGT_LO]⟩,
    ⟨0x21100040, [(4, 0x10000, 8), (8, 0x200, 1)], 0, [.AX_TGT_HI]⟩,
    ⟨0x21100044, [(4, 0x10000, 8), (8, 0x200, 1)], 0, [.AX_CMD_GO, .AX_CMD_STOP, .AX_CMD_QSTOP, .AX_CMD_CLR]⟩,
    ⟨0x21100048, [(4, 0x10000, 8), (8, 0x200, 1)], 0, [.AX_STAT_STATE, .AX_STAT_SOFT_LIMIT, .AX_STAT_LIMIT_OVER, .AX_STAT_TGT_REJ, .AX_STAT_CMD_REJ, .AX_STAT_VLIM, .AX_STAT_CAUSE]⟩,
    ⟨0x2110004C, [(4, 0x10000, 8), (8, 0x200, 1)], 0, [.AX_POS_LO]⟩,
    ⟨0x21100050, [(4, 0x10000, 8), (8, 0x200, 1)], 0, [.AX_POS_HI]⟩,
    ⟨0x21100054, [(4, 0x10000, 8), (8, 0x200, 1)], 0, [.AX_VEL]⟩,
    ⟨0x21100058, [(4, 0x10000, 8), (8, 0x200, 1)], 0, [.AX_ACC]⟩ ]

/-- Registers of the FIELD region, part 2. -/
def regsField2 : List RegDesc :=
  [ ⟨0x2110005C, [(4, 0x10000, 8), (8, 0x200, 1)], 0, [.AX_STOPD]⟩,
    ⟨0x21100060, [(4, 0x10000, 8), (8, 0x200, 1)], 0, [.AX_GNUM]⟩,
    ⟨0x21100064, [(4, 0x10000, 8), (8, 0x200, 1)], 0, [.AX_GDEN]⟩,
    ⟨0x21100068, [(4, 0x10000, 8), (8, 0x200, 1)], 0, [.AX_CAM_PERIODIC, .AX_CAM_K, .AX_CAM_CBASE]⟩,
    ⟨0x2110006C, [(4, 0x10000, 8), (8, 0x200, 1)], 0, [.AX_CSPAN]⟩,
    ⟨0x21140000, [(8, 0x40, 1)], 0, [.G_CFG_EN, .G_CFG_QUEUE]⟩,
    ⟨0x21140004, [(8, 0x40, 1)], 0, [.G_VPATH]⟩,
    ⟨0x21140008, [(8, 0x40, 1)], 0, [.G_APATH]⟩,
    ⟨0x2114000C, [(8, 0x40, 1)], 0, [.G_JPATH]⟩,
    ⟨0x21140010, [(8, 0x40, 1)], 0, [.G_QAPATH]⟩,
    ⟨0x21140014, [(8, 0x40, 1)], 0, [.G_QJPATH]⟩,
    ⟨0x21140018, [(8, 0x40, 1)], 0, [.G_JVEL]⟩,
    ⟨0x2114001C, [(8, 0x40, 1)], 0, [.G_CMD_START, .G_CMD_STOP, .G_CMD_QSTOP, .G_CMD_FLUSH]⟩,
    ⟨0x21140020, [(8, 0x40, 1)], 0, [.G_STAT_STATE, .G_STAT_BADSEG, .G_STAT_CMD_REJ, .G_STAT_ID]⟩,
    ⟨0x21140024, [(8, 0x40, 1)], 0, [.G_DONE]⟩,
    ⟨0x21140028, [(8, 0x40, 1)], 0, [.G_STARVE]⟩,
    ⟨0x21180000, [(8, 0x40, 1)], 0, [.PWM_CFG_EN, .PWM_CFG_POLH, .PWM_CFG_POLL, .PWM_CFG_DUP, .PWM_CFG_PPER, .PWM_CFG_POFF, .PWM_CFG_PPH]⟩,
    ⟨0x21180004, [(8, 0x40, 1)], 0, [.PWM_DT]⟩,
    ⟨0x21180008, [(8, 0x40, 1)], 0, [.PWM_TRIP_TRIPPED, .PWM_TRIP_LEVEL, .PWM_TRIP_TPOL, .PWM_TRIP_TSTOP, .PWM_TRIP_TFILT]⟩,
    ⟨0x2118000C, [(8, 0x40, 1)], 0, [.PWM_CMPU]⟩,
    ⟨0x21180010, [(8, 0x40, 1)], 0, [.PWM_CMPV]⟩,
    ⟨0x21180014, [(8, 0x40, 1)], 0, [.PWM_CMPW]⟩,
    ⟨0x21180018, [(8, 0x40, 1)], 0, [.PWM_STAT_CLAMP, .PWM_STAT_STOP0]⟩,
    ⟨0x21190000, [(16, 0x40, 1)], 0, [.ST_CFG_EN, .ST_CFG_MRES, .ST_CFG_INV, .ST_CFG_TBL, .ST_CFG_TOFFM, .ST_CFG_THOLD]⟩ ]

/-- Registers of the FIELD region, part 3. -/
def regsField3 : List RegDesc :=
  [ ⟨0x21190004, [(16, 0x40, 1)], 0, [.ST_CUR_IMAX, .ST_CUR_IMIN, .ST_CUR_IHOLD]⟩,
    ⟨0x21190008, [(16, 0x40, 1)], 0, [.ST_LOAD_LHI, .ST_LOAD_LLO, .ST_LOAD_LOAD, .ST_LOAD_ICUR]⟩,
    ⟨0x2119000C, [(16, 0x40, 1)], 0, [.ST_SVMAX]⟩,
    ⟨0x21190010, [(16, 0x40, 1)], 0, [.ST_SAMAX]⟩,
    ⟨0x21190014, [(16, 0x40, 1)], 0, [.ST_TGT]⟩,
    ⟨0x21190018, [(16, 0x40, 1)], 0, [.ST_POS]⟩,
    ⟨0x2119001C, [(16, 0x40, 1)], 0, [.ST_STAT_HLIM, .ST_STAT_MOVING, .ST_STAT_HOLD, .ST_STAT_STOP0, .ST_STAT_HYSTA, .ST_STAT_HYSTB]⟩,
    ⟨0x21190020, [(16, 0x40, 1)], 0, [.ST_FCHOP_FA, .ST_FCHOP_FB]⟩,
    ⟨0x21200000, [(4, 0x10000, 4), (4, 0x400, 1)], 0, [.SD_CFG_EN, .SD_CFG_LP, .SD_CFG_NENT]⟩,
    ⟨0x21200004, [(4, 0x10000, 4), (4, 0x400, 1)], 0, [.SD_STAT_ABORT, .SD_STAT_CALSUSP, .SD_STAT_URGACT, .SD_STAT_ENTRY]⟩,
    ⟨0x21200008, [(4, 0x10000, 4), (4, 0x400, 1)], 0, [.SD_URG_OSR, .SD_URG_SPHASE, .SD_URG_FILT, .SD_URG_GAIN, .SD_URG_CH, .SD_URG_TRIG]⟩,
    ⟨0x2120000C, [(4, 0x10000, 4), (4, 0x400, 1)], 0, [.SD_UTIME_PERIOD, .SD_UTIME_TOFF]⟩,
    ⟨0x21200010, [(4, 0x10000, 4), (4, 0x400, 1)], 0, [.SD_UCTL_REQ, .SD_UCTL_BUSY, .SD_UCTL_NOTE, .SD_UCTL_NTASK, .SD_UCTL_NFLAG, .SD_UCTL_REJ]⟩,
    ⟨0x21200014, [(4, 0x10000, 4), (4, 0x400, 1)], 0, [.SD_URES]⟩,
    ⟨0x21200018, [(4, 0x10000, 4), (4, 0x400, 1)], 0, [.SD_UINFO_QUAL, .SD_UINFO_CNT]⟩,
    ⟨0x21200040, [(4, 0x10000, 64), (4, 0x400, 16), (16, 0x4, 1)], 0, [.SD_SEQ_OSR, .SD_SEQ_REP, .SD_SEQ_FILT, .SD_SEQ_GAIN, .SD_SEQ_CH]⟩,
    ⟨0x21202000, [(4, 0x10000, 16), (16, 0x40, 1)], 0, [.AIN_CFG_OWEN, .AIN_CFG_OWI]⟩,
    ⟨0x21202004, [(4, 0x10000, 16), (16, 0x40, 1)], 0, [.AIN_TIME_PERIOD, .AIN_TIME_TOFF]⟩,
    ⟨0x21202008, [(4, 0x10000, 16), (16, 0x40, 1)], 0, [.AIN_TOK_TEN, .AIN_TOK_SPHASE, .AIN_TOK_DEST]⟩,
    ⟨0x2120200C, [(4, 0x10000, 16), (16, 0x40, 1)], 0, [.AIN_OWTH]⟩,
    ⟨0x21202010, [(4, 0x10000, 16), (16, 0x40, 1)], 0, [.AIN_RLO]⟩,
    ⟨0x21202014, [(4, 0x10000, 16), (16, 0x40, 1)], 0, [.AIN_RHI]⟩,
    ⟨0x21202018, [(4, 0x10000, 16), (16, 0x40, 1)], 0, [.AIN_RES]⟩,
    ⟨0x2120201C, [(4, 0x10000, 16), (16, 0x40, 1)], 0, [.AIN_RINFO_QUAL, .AIN_RINFO_CNT]⟩ ]

/-- Registers of the FIELD region, part 4. -/
def regsField4 : List RegDesc :=
  [ ⟨0x21250000, [], 0, [.CAL_CTL_CMD, .CAL_CTL_TGT, .CAL_CTL_CH, .CAL_CTL_GAIN, .CAL_CTL_NAVG]⟩,
    ⟨0x21250004, [], 0, [.CAL_OSR]⟩,
    ⟨0x21250008, [], 0, [.CAL_REF]⟩,
    ⟨0x2125000C, [], 0, [.CAL_MLO]⟩,
    ⟨0x21250010, [], 0, [.CAL_MHI]⟩,
    ⟨0x21250014, [], 0, [.CAL_STAT_BUSY, .CAL_STAT_DONE, .CAL_STAT_ACTIVE, .CAL_STAT_ERR]⟩,
    ⟨0x21250018, [], 0, [.CAL_OFS]⟩,
    ⟨0x2125001C, [], 0, [.CAL_GAIN]⟩,
    ⟨0x21240000, [(10, 0x40, 1)], 0, [.SAR_CFG_EN, .SAR_CFG_SPHASE]⟩,
    ⟨0x21240004, [(10, 0x40, 1)], 0, [.SAR_TIME_PERIOD, .SAR_TIME_TOFF]⟩,
    ⟨0x21240008, [(10, 0x40, 1)], 0, [.SAR_SEN]⟩,
    ⟨0x2124000C, [(10, 0x40, 4), (4, 0x4, 1)], 0, [.SAR_SUB_DESTA, .SAR_SUB_DESTB]⟩,
    ⟨0x2124001C, [(10, 0x40, 1)], 0, [.SAR_RES_CODEA, .SAR_RES_CODEB]⟩,
    ⟨0x21240020, [(10, 0x40, 1)], 0, [.SAR_STAT_COLL, .SAR_STAT_CLIPB, .SAR_STAT_CLIPA]⟩,
    ⟨0x21203000, [(4, 0x10000, 8), (8, 0x40, 1)], 0, [.AOUT_CFG_EN, .AOUT_CFG_MDROP, .AOUT_CFG_AFORCE, .AOUT_CFG_ADIR, .AOUT_CFG_AQMASK]⟩,
    ⟨0x21203004, [(4, 0x10000, 8), (8, 0x40, 1)], 0, [.AOUT_ALM_AHI, .AOUT_ALM_ALO]⟩,
    ⟨0x21203008, [(4, 0x10000, 8), (8, 0x40, 1)], 0, [.AOUT_LIM_LHI, .AOUT_LIM_LLO]⟩,
    ⟨0x2120300C, [(4, 0x10000, 8), (8, 0x40, 1)], 0, [.AOUT_STAT_HEADROOM, .AOUT_STAT_HRSEEN, .AOUT_STAT_CLAMP, .AOUT_STAT_ALARM, .AOUT_STAT_CODE]⟩,
    ⟨0x21203400, [(4, 0x10000, 1)], 0, [.FM_CFG_EN, .FM_CFG_CHAN, .FM_CFG_CDTH, .FM_CFG_TXQ, .FM_CFG_RXQ]⟩,
    ⟨0x21203404, [(4, 0x10000, 1)], 0, [.FM_STAT_CD, .FM_STAT_TX, .FM_STAT_CHPEND]⟩,
    ⟨0x21203408, [(4, 0x10000, 1)], 0, [.FM_ERR_PERR, .FM_ERR_FERR]⟩,
    ⟨0x2120340C, [(4, 0x10000, 1)], 0, [.FM_LOST]⟩,
    ⟨0x21300000, [(20, 0x2000, 1)], 0, [.OL_CFG_EN, .OL_CFG_SAFE, .OL_CFG_CYC, .OL_CFG_COFF, .OL_CFG_WD]⟩,
    ⟨0x21300004, [(20, 0x2000, 1)], 0, [.OL_TIME_TXD, .OL_TIME_RTTMAX]⟩ ]

/-- Registers of the FIELD region, part 5. -/
def regsField5 : List RegDesc :=
  [ ⟨0x21300008, [(20, 0x2000, 1)], 0, [.OL_SEL_PRESENT, .OL_SEL_REJ, .OL_SEL_RXSEL, .OL_SEL_RXQ]⟩,
    ⟨0x2130000C, [(20, 0x2000, 1)], 0, [.OL_STAT_LINKUP, .OL_STAT_LATESEEN, .OL_STAT_RTTOVR, .OL_STAT_EPOCHHI]⟩,
    ⟨0x21300010, [(20, 0x2000, 1)], 0, [.OL_RTT]⟩,
    ⟨0x21300014, [(20, 0x2000, 1)], 0, [.OL_FRAMES]⟩,
    ⟨0x21300018, [(20, 0x2000, 1)], 0, [.OL_LATE]⟩,
    ⟨0x2130001C, [(20, 0x2000, 1)], 0, [.OL_RXLOST]⟩,
    ⟨0x21300020, [(20, 0x2000, 1)], 0, [.OL_CMPL]⟩,
    ⟨0x21300100, [(20, 0x2000, 8), (8, 0x20, 1)], 0, [.STN_LEN_OLEN, .STN_LEN_ILEN]⟩,
    ⟨0x21300104, [(20, 0x2000, 8), (8, 0x20, 1)], 0, [.STN_CYCLES]⟩,
    ⟨0x21300108, [(20, 0x2000, 8), (8, 0x20, 1)], 0, [.STN_IN_OK]⟩,
    ⟨0x2130010C, [(20, 0x2000, 8), (8, 0x20, 1)], 0, [.STN_IN_MISS]⟩,
    ⟨0x21300110, [(20, 0x2000, 8), (8, 0x20, 1)], 0, [.STN_OUT_ACK]⟩,
    ⟨0x21300114, [(20, 0x2000, 8), (8, 0x20, 1)], 0, [.STN_OUT_NACK]⟩,
    ⟨0x21300118, [(20, 0x2000, 8), (8, 0x20, 1)], 0, [.STN_STAT_CONSEC, .STN_STAT_TSTAT, .STN_STAT_REPLIED]⟩,
    ⟨0x2130011C, [(20, 0x2000, 8), (8, 0x20, 1)], 0, [.STN_EPOCH]⟩,
    ⟨0x21300400, [(20, 0x2000, 32), (32, 0x8, 1)], 0, [.MAP_CFG_EN, .MAP_CFG_SGN, .MAP_CFG_WIDTH, .MAP_CFG_TY, .MAP_CFG_STATION, .MAP_CFG_OFFSET]⟩,
    ⟨0x21300404, [(20, 0x2000, 32), (32, 0x8, 1)], 0, [.MAP_DEST]⟩,
    ⟨0x21400000, [(4, 0x1000, 1)], 0, [.ETH_CFG_EN, .ETH_CFG_PROMISC, .ETH_CFG_TBSEL, .ETH_CFG_GEN, .ETH_CFG_LINKUP, .ETH_CFG_SPEED, .ETH_CFG_RXQ]⟩,
    ⟨0x21400004, [(4, 0x1000, 1)], 0, [.ETH_MACLO]⟩,
    ⟨0x21400008, [(4, 0x1000, 1)], 0, [.ETH_MACHI]⟩,
    ⟨0x2140000C, [(4, 0x1000, 1)], 0, [.ETH_TQMAP0]⟩,
    ⟨0x21400010, [(4, 0x1000, 1)], 0, [.ETH_TQMAP1]⟩,
    ⟨0x21400014, [(4, 0x1000, 1)], 0, [.ETH_LAT_TXLAT, .ETH_LAT_RXLAT]⟩,
    ⟨0x21400018, [(4, 0x1000, 1)], 0, [.ETH_TSQ_ID_VALID, .ETH_TSQ_ID_LEVEL, .ETH_TSQ_ID_TSID]⟩ ]

/-- Registers of the FIELD region, part 6. -/
def regsField6 : List RegDesc :=
  [ ⟨0x2140001C, [(4, 0x1000, 1)], 0, [.ETH_TSQ_NS]⟩,
    ⟨0x21400020, [(4, 0x1000, 1)], 0, [.ETH_TSQ_SLO]⟩,
    ⟨0x21400024, [(4, 0x1000, 1)], 0, [.ETH_TSQ_SHI]⟩,
    ⟨0x21400028, [(4, 0x1000, 1)], 0, [.ETH_TSSTAT_TSOVF, .ETH_TSSTAT_TSLOST]⟩,
    ⟨0x21400030, [(4, 0x1000, 1)], 0, [.ETH_TXOK]⟩,
    ⟨0x21400034, [(4, 0x1000, 1)], 0, [.ETH_TXBAD]⟩,
    ⟨0x21400038, [(4, 0x1000, 1)], 0, [.ETH_RXOK]⟩,
    ⟨0x2140003C, [(4, 0x1000, 1)], 0, [.ETH_RXERR]⟩,
    ⟨0x21400040, [(4, 0x1000, 1)], 0, [.ETH_RXFILT]⟩,
    ⟨0x21400044, [(4, 0x1000, 1)], 0, [.ETH_RXLOST]⟩,
    ⟨0x21400080, [(4, 0x1000, 1)], 0, [.ETH_GCL_SWAP, .ETH_GCL_PEND, .ETH_GCL_LSEL, .ETH_GCL_STUCK, .ETH_GCL_NENT]⟩,
    ⟨0x21400084, [(4, 0x1000, 1)], 0, [.ETH_CYC]⟩,
    ⟨0x21400088, [(4, 0x1000, 1)], 0, [.ETH_NCYC]⟩,
    ⟨0x2140008C, [(4, 0x1000, 1)], 0, [.ETH_NBASE_S]⟩,
    ⟨0x21400090, [(4, 0x1000, 1)], 0, [.ETH_NBASE_NS]⟩,
    ⟨0x21400400, [(4, 0x1000, 128), (128, 0x4, 1)], 0, [.ETH_GCLE_GATES, .ETH_GCLE_INTERVAL]⟩,
    ⟨0x21500000, [(4, 0x4000, 1)], 0, [.CAN_CFG_EN, .CAN_CFG_FDEN, .CAN_CFG_BRSEN, .CAN_CFG_ONESHOT, .CAN_CFG_LISTEN, .CAN_CFG_LOOPB, .CAN_CFG_TTEN, .CAN_CFG_TTMASTER, .CAN_CFG_TBSEL, .CAN_CFG_REJ, .CAN_CFG_RXQ]⟩,
    ⟨0x21500004, [(4, 0x4000, 1)], 0, [.CAN_NBT_NBRP, .CAN_NBT_NTSEG1, .CAN_NBT_NTSEG2, .CAN_NBT_NSJW]⟩,
    ⟨0x21500008, [(4, 0x4000, 1)], 0, [.CAN_DBT_DBRP, .CAN_DBT_DTSEG1, .CAN_DBT_DTSEG2, .CAN_DBT_DSJW, .CAN_DBT_TDCEN, .CAN_DBT_TDCO]⟩,
    ⟨0x2150000C, [(4, 0x4000, 1)], 0, [.CAN_ERR_STATE, .CAN_ERR_RECOV, .CAN_ERR_TDCFAIL, .CAN_ERR_LEC, .CAN_ERR_TEC, .CAN_ERR_REC, .CAN_ERR_TDCV]⟩,
    ⟨0x21500010, [(4, 0x4000, 1)], 0, [.CAN_TXREQ]⟩,
    ⟨0x21500014, [(4, 0x4000, 1)], 0, [.CAN_TXCAN]⟩,
    ⟨0x21500018, [(4, 0x4000, 1)], 0, [.CAN_TXOK]⟩,
    ⟨0x2150001C, [(4, 0x4000, 1)], 0, [.CAN_TXFAIL]⟩ ]

/-- Registers of the FIELD region, part 7. -/
def regsField7 : List RegDesc :=
  [ ⟨0x21500020, [(4, 0x4000, 1)], 0, [.CAN_TXSDC]⟩,
    ⟨0x21500024, [(4, 0x4000, 1)], 0, [.CAN_RXOK]⟩,
    ⟨0x21500028, [(4, 0x4000, 1)], 0, [.CAN_RXFILT]⟩,
    ⟨0x2150002C, [(4, 0x4000, 1)], 0, [.CAN_RXLOST]⟩,
    ⟨0x21500030, [(4, 0x4000, 1)], 0, [.CAN_NOTE_NOTE, .CAN_NOTE_TASK, .CAN_NOTE_FLAG]⟩,
    ⟨0x21500040, [(4, 0x4000, 16), (16, 0x8, 1)], 0, [.CAN_FID_EN, .CAN_FID_XTD, .CAN_FID_FID]⟩,
    ⟨0x21500044, [(4, 0x4000, 16), (16, 0x8, 1)], 0, [.CAN_FMSK]⟩,
    ⟨0x215000C0, [(4, 0x4000, 1)], 0, [.CAN_TT_BCYC, .CAN_TT_NCYC, .CAN_TT_REFBUF]⟩,
    ⟨0x215000C4, [(4, 0x4000, 1)], 0, [.CAN_TTSTAT_SYNC, .CAN_TTSTAT_MISSREF, .CAN_TTSTAT_CYCLE]⟩,
    ⟨0x21500100, [(4, 0x4000, 16), (16, 0x4, 1)], 0, [.CAN_COL_OFSH, .CAN_COL_OFSL]⟩,
    ⟨0x21600000, [], 0, [.PCIE_STAT_LINKUP, .PCIE_STAT_CLKSEL, .PCIE_STAT_GEN, .PCIE_STAT_WIDTH]⟩,
    ⟨0x21600010, [(4, 0x4, 1)], 0, [.PCIE_AP]⟩,
    ⟨0x21600020, [], 0, [.PCIE_B2]⟩,
    ⟨0x21600100, [(32, 0x20, 1)], 0, [.HQ_CFG_EN, .HQ_CFG_DIR, .HQ_CFG_HOSTERR, .HQ_CFG_RSZ, .HQ_CFG_QUEUE]⟩,
    ⟨0x21600104, [(32, 0x20, 1)], 0, [.HQ_RING_LO]⟩,
    ⟨0x21600108, [(32, 0x20, 1)], 0, [.HQ_RING_HI]⟩,
    ⟨0x2160010C, [(32, 0x20, 1)], 0, [.HQ_HOST]⟩,
    ⟨0x21600110, [(32, 0x20, 1)], 0, [.HQ_DEV]⟩,
    ⟨0x21700000, [], 0, [.XSPI_CTL_GO, .XSPI_CTL_OP, .XSPI_CTL_LEN]⟩,
    ⟨0x21700004, [], 0, [.XSPI_ADDR]⟩,
    ⟨0x21700008, [], 0, [.XSPI_BUF_LO]⟩,
    ⟨0x2170000C, [], 0, [.XSPI_BUF_HI]⟩,
    ⟨0x21700010, [], 0, [.XSPI_STAT_BUSY, .XSPI_STAT_DONE, .XSPI_STAT_ERR]⟩,
    ⟨0x21800000, [(4, 0x40, 1)], 0, [.TB_NS]⟩ ]

/-- Registers of the FIELD region, part 8. -/
def regsField8 : List RegDesc :=
  [ ⟨0x21800004, [(4, 0x40, 1)], 0, [.TB_FRAC]⟩,
    ⟨0x21800008, [(4, 0x40, 1)], 0, [.TB_SEC_LO]⟩,
    ⟨0x2180000C, [(4, 0x40, 1)], 0, [.TB_SEC_HI]⟩,
    ⟨0x21800010, [(4, 0x40, 1)], 0, [.TB_RATE]⟩,
    ⟨0x21800014, [(4, 0x40, 1)], 0, [.TB_NEW_NS]⟩,
    ⟨0x21800018, [(4, 0x40, 1)], 0, [.TB_NEW_SLO]⟩,
    ⟨0x2180001C, [(4, 0x40, 1)], 0, [.TB_NEW_SHI]⟩,
    ⟨0x21800020, [(4, 0x40, 1)], 0, [.TB_CTL_SET, .TB_CTL_STEP, .TB_CTL_REJ]⟩,
    ⟨0x21800100, [], 0, [.TIME_SNAP]⟩,
    ⟨0x21800110, [(4, 0x10, 1)], 0, [.SN_NS]⟩,
    ⟨0x21800114, [(4, 0x10, 1)], 0, [.SN_SEC_LO]⟩,
    ⟨0x21800118, [(4, 0x10, 1)], 0, [.SN_SEC_HI]⟩,
    ⟨0x2180011C, [(4, 0x10, 1)], 0, [.SN_FRAC]⟩,
    ⟨0x21900000, [(8, 0x1000, 1)], 0, [.DC_CFG_EN, .DC_CFG_MODE, .DC_CFG_LINK, .DC_CFG_MASTER, .DC_CFG_SEDEN, .DC_CFG_FSEV, .DC_CFG_NSEG]⟩,
    ⟨0x21900004, [(8, 0x1000, 1)], 0, [.DC_MEM_BASE, .DC_MEM_SIZE]⟩,
    ⟨0x21900008, [(8, 0x1000, 1)], 0, [.DC_POST]⟩,
    ⟨0x2190000C, [(8, 0x1000, 1)], 0, [.DC_CTL_ARM, .DC_CTL_FIRE, .DC_CTL_STOP]⟩,
    ⟨0x21900010, [(8, 0x1000, 1)], 0, [.DC_STAT_STATE, .DC_STAT_REJ, .DC_STAT_OVF, .DC_STAT_SEG]⟩,
    ⟨0x21900014, [(8, 0x1000, 1)], 0, [.DC_WPTR]⟩,
    ⟨0x21900020, [(8, 0x1000, 1)], 0, [.DC_SEEN]⟩,
    ⟨0x21900024, [(8, 0x1000, 1)], 0, [.DC_REC]⟩,
    ⟨0x21900028, [(8, 0x1000, 1)], 0, [.DC_SKIP]⟩,
    ⟨0x2190002C, [(8, 0x1000, 1)], 0, [.DC_LOST]⟩,
    ⟨0x21900030, [(8, 0x1000, 1)], 0, [.DC_IDLE]⟩ ]

/-- Registers of the FIELD region, part 9. -/
def regsField9 : List RegDesc :=
  [ ⟨0x21900034, [(8, 0x1000, 1)], 0, [.DC_DISC]⟩,
    ⟨0x21900100, [(8, 0x1000, 32), (32, 0x10, 1)], 0, [.TAP_CFG_EN, .TAP_CFG_TRIG, .TAP_CFG_TMODE, .TAP_CFG_EVT, .TAP_CFG_KEY]⟩,
    ⟨0x21900104, [(8, 0x1000, 32), (32, 0x10, 1)], 0, [.TAP_DB]⟩,
    ⟨0x21900108, [(8, 0x1000, 32), (32, 0x10, 1)], 0, [.TAP_LEVEL]⟩,
    ⟨0x2190010C, [(8, 0x1000, 32), (32, 0x10, 1)], 0, [.TAP_KEEP]⟩,
    ⟨0x21908000, [], 0, [.DCS_CFG_EN, .DCS_CFG_DST, .DCS_CFG_HOSTERR, .DCS_CFG_RSZ, .DCS_CFG_FLUSH]⟩,
    ⟨0x21908004, [], 0, [.DCS_RING_LO]⟩,
    ⟨0x21908008, [], 0, [.DCS_RING_HI]⟩,
    ⟨0x2190800C, [], 0, [.DCS_HOST]⟩,
    ⟨0x21908010, [], 0, [.DCS_DEV]⟩,
    ⟨0x21A00000, [], 0, [.SED_CTL_FREEZE, .SED_CTL_FLOODN]⟩,
    ⟨0x21A00004, [], 0, [.SED_STAT_READY, .SED_STAT_FULL, .SED_STAT_RESERVE, .SED_STAT_FLOOD, .SED_STAT_FRZ, .SED_STAT_FRZTO, .SED_STAT_USED]⟩,
    ⟨0x21A00008, [], 0, [.SED_NEXT]⟩,
    ⟨0x21A0000C, [], 0, [.SED_EVT]⟩,
    ⟨0x21A00010, [], 0, [.SED_NEW]⟩,
    ⟨0x21A00014, [], 0, [.SED_RPT]⟩,
    ⟨0x21A00018, [], 0, [.SED_FLD]⟩,
    ⟨0x21A0001C, [], 0, [.SED_FULLD]⟩,
    ⟨0x21A00020, [], 0, [.SED_FRZL]⟩,
    ⟨0x21A00024, [], 0, [.SED_HELD]⟩,
    ⟨0x21F00010, [], 2, [.CFG_COMMIT_GO, .CFG_COMMIT_PENDING]⟩ ]

/-- Registers of the SAFE region, part 0. -/
def regsSafe0 : List RegDesc :=
  [ ⟨0x30000000, [], 0, [.SAFE_STAT_STATE, .SAFE_STAT_CORE, .SAFE_STAT_CLK, .SAFE_STAT_MEM, .SAFE_STAT_PSERR, .SAFE_STAT_SLOT]⟩,
    ⟨0x30000004, [], 0, [.SAFE_PSID]⟩,
    ⟨0x30000008, [], 0, [.SAFE_IN]⟩,
    ⟨0x3000000C, [], 0, [.SAFE_TPF]⟩,
    ⟨0x30000010, [], 0, [.SAFE_OUT_ON, .SAFE_OUT_FB, .SAFE_OUT_OFLT]⟩,
    ⟨0x30000014, [], 0, [.SAFE_S0]⟩,
    ⟨0x30000018, [], 0, [.SAFE_S1]⟩,
    ⟨0x3000001C, [], 0, [.SAFE_ST]⟩,
    ⟨0x30000040, [(16, 0x4, 1)], 0, [.FN_STAT_STATE, .FN_STAT_DISCF, .FN_STAT_TPF, .FN_STAT_OUTF, .FN_STAT_TRIPS]⟩ ]

/-- Registers of the CHIP region, part 0. -/
def regsChip0 : List RegDesc :=
  [ ⟨0x40000000, [], 0, [.IDENT_PART, .IDENT_STEP, .IDENT_PKG]⟩,
    ⟨0x40020040, [], 0, [.ACC_ERR_COUNT, .ACC_ERR_SOURCE, .ACC_ERR_STICKY]⟩,
    ⟨0x40020044, [], 0, [.ACC_ERR_ADDR_LO]⟩,
    ⟨0x40020048, [], 0, [.ACC_ERR_ADDR_HI]⟩,
    ⟨0x40020050, [], 0, [.ERR_HOLD_EVLOST, .ERR_HOLD_HELD]⟩,
    ⟨0x40030000, [], 0, [.PAIR_CTL_EN, .PAIR_CTL_PREF, .PAIR_CTL_RMODE, .PAIR_CTL_RESIGN, .PAIR_CTL_READMIT, .PAIR_CTL_MAJOR]⟩,
    ⟨0x40030004, [], 0, [.PAIR_STAT_ROLE, .PAIR_STAT_LINKUP, .PAIR_STAT_HBOK, .PAIR_STAT_PAIRERR, .PAIR_STAT_CLEAN, .PAIR_STAT_CAUSE, .PAIR_STAT_TEST]⟩,
    ⟨0x40030008, [], 0, [.PAIR_EPOCH]⟩,
    ⟨0x4003000C, [], 0, [.CP_BEGUN]⟩,
    ⟨0x40030010, [], 0, [.CP_COMMIT]⟩,
    ⟨0x40030014, [], 0, [.CP_ABORT]⟩,
    ⟨0x40030018, [], 0, [.CP_STAT_INPROG, .CP_STAT_FULL, .CP_STAT_DIRTY]⟩,
    ⟨0x4003001C, [], 0, [.CP_TICK]⟩,
    ⟨0x40030100, [(128, 0x8, 1)], 0, [.AREA_BASE]⟩,
    ⟨0x40030104, [(128, 0x8, 1)], 0, [.AREA_LEN_EN, .AREA_LEN_OKIND, .AREA_LEN_OWNER, .AREA_LEN_LEN]⟩,
    ⟨0x40010100, [], 0, [.RST_CTL_WARM, .RST_CTL_KEY, .RST_CTL_REGION]⟩,
    ⟨0x40010104, [], 0, [.RST_CAUSE]⟩,
    ⟨0x40010108, [], 0, [.PWR_CTL_QUIESCE, .PWR_CTL_RUN, .PWR_CTL_DEEP, .PWR_CTL_STATE]⟩,
    ⟨0x40010000, [], 0, [.CLK_CTL]⟩,
    ⟨0x40010004, [], 0, [.CLK_STAT_PLLLOCK, .CLK_STAT_REFOK, .CLK_STAT_SSC_ACT]⟩,
    ⟨0x40010010, [], 0, [.SLEW_TMUX, .SLEW_SVC, .SLEW_XSPI, .SLEW_CAN, .SLEW_ENC, .SLEW_STP, .SLEW_PWM, .SLEW_MISC]⟩,
    ⟨0x40010020, [], 0, [.TEMP_TWARN, .TEMP_WLIM, .TEMP_TJ]⟩,
    ⟨0x40000200, [(32, 0x10, 1)], 0, [.FORCE_CTL_EN, .FORCE_CTL_KEY]⟩,
    ⟨0x40000204, [(32, 0x10, 1)], 0, [.FORCE_VAL]⟩ ]

/-- Registers of the CHIP region, part 1. -/
def regsChip1 : List RegDesc :=
  [ ⟨0x40000208, [(32, 0x10, 1)], 0, [.FORCE_QUAL]⟩,
    ⟨0x4000020C, [(32, 0x10, 1)], 0, [.FORCE_HITS]⟩,
    ⟨0x40000100, [], 0, [.BOOT_STAT]⟩,
    ⟨0x40000104, [], 0, [.SVC_STAT_OPEN, .SVC_STAT_LOCKED, .SVC_STAT_RFAIL, .SVC_STAT_ARB]⟩,
    ⟨0x40000108, [], 0, [.BOOT_CTL_LOOP_GO, .BOOT_CTL_LOOP_HELD]⟩,
    ⟨0x40000010, [], 4, [.CFG_COMMIT_GO, .CFG_COMMIT_PENDING]⟩ ]

/-- Every register of the map. -/
def regTable : List RegDesc :=
  regsLoop0 ++ regsLoop1 ++ regsProg0 ++ regsProg1 ++ regsField0 ++ regsField1 ++ regsField2 ++ regsField3 ++ regsField4 ++ regsField5 ++ regsField6 ++ regsField7 ++ regsField8 ++ regsField9 ++ regsSafe0 ++ regsChip0 ++ regsChip1

end Sys2Proof.Machine
end

