-- ==== Sys2Proof/Machine/State.lean ====
section
/-!
DEFINITION. The state of the device, as plain data. Register fields and scalar internal state lie in one sparse register file
(`F` names them, a number beside the name gives the instance); structured state has types of its own.
-/

namespace Sys2Proof.Machine

/-- Why the device stops a command. No command of this model faults: every stop the spec gives is an effect on the device. -/
inductive Fault where
  /-- Raised by nobody: the device answers every command with a next state (safe). -/
  | none
  deriving DecidableEq, Repr

/-- Why a command has no meaning. -/
inductive Refusal where
  /-- Raised by an arm of `exec` that has no meaning yet, with the mnemonic of its row (safe). -/
  | notModelled (mnemonic : String)
  deriving DecidableEq, Repr

/-- What launches tokens (R20): a cell, a core's token port, an encoder cell, an axis cell, an analogue input, a SAR pair, a
link engine. -/
inductive Prod where
  | cell (c : Nat)
  | port (k : Nat)
  | enc (e : Nat)
  | axis (a : Nat)
  | ain (i : Nat)
  | sar (p : Nat)
  | link (k : Nat)
  deriving DecidableEq, Repr

/-- A token with the firing tag carried beside it (R20). -/
structure Token where
  dest : BitVec 16
  ty : Byte
  qual : Byte
  val : Word
  ftag : BitVec 16
  deriving DecidableEq, Repr

/-- A token on its way: its producer, and the firing (slot, sample tick) that emitted it where a cell did. -/
structure Flight where
  tok : Token
  prod : Prod
  slot : Nat
  tick : Nat
  deriving DecidableEq, Repr

/-- A token placed for an operand (R77). -/
structure Placed where
  k : Nat
  val : Word
  qual : Byte
  deriving DecidableEq, Repr

/-- An entry of a matching store: the tokens of one firing (R77, R101). -/
structure Entry where
  slot : Nat
  tick : Nat
  comet : Bool
  ready : Bool
  ops : List Placed
  deriving DecidableEq, Repr

/-- What one instruction wrote that a following one may have to wait for (R52). -/
structure Hazard where
  d : List Nat
  a : List Nat
  ad : List (Nat × Nat)
  deriving DecidableEq, Repr

/-- A register bank of a cell with the firing it holds (R35, R36, R39). -/
structure Bank where
  slot : Nat
  tick : Nat
  started : Bool
  preempted : Bool
  d : Vector Word 16
  a : Vector Accu 4
  p : Vector (BitVec 14) 8
  m : Vector (BitVec 14) 8
  l : Vector (BitVec 14) 8
  b : Vector (BitVec 14) 8
  q : Vector Byte 8
  sr : Word
  fst : Word
  pc : BitVec 13
  stack : List (BitVec 13)
  rep : Nat
  cycles : Nat
  hz : Hazard
  waiting : Option Token
  deriving DecidableEq, Repr

/-- A firing in a cell's ready queue; a displaced one keeps the bank it was presented in (R83). -/
structure ReadyF where
  slot : Nat
  tick : Nat
  since : Nat
  displaced : Option Bank
  deriving DecidableEq, Repr

/-- How far a firing has got that is no longer in the matching store. -/
inductive FateKind where
  | inBank
  | inTime
  | ended
  | aborted
  | missed
  deriving DecidableEq, Repr

/-- The record of a firing that has been dispatched or withdrawn (R77, R91, R94). -/
structure Fate where
  slot : Nat
  tick : Nat
  kind : FateKind
  deriving DecidableEq, Repr

/-- A firing's value held at an output stage (R91). -/
structure StageVal where
  stage : Nat
  slot : Nat
  tick : Nat
  val : Word
  qual : Byte
  deriving DecidableEq, Repr

/-- A copy matched by a tap of Delta capture and not judged yet (R291). -/
structure TapCopy where
  unit : Nat
  tap : Nat
  event : Bool
  ty : Nat
  qual : Nat
  val : Nat
  tick : Nat
  phase : Nat
  deriving DecidableEq, Repr

/-- A record in a unit's capture FIFO (R291, R294). -/
structure CapRec where
  unit : Nat
  kind : Nat
  tap : Nat
  ty : Nat
  qual : Nat
  val : Nat
  tick : Nat
  phase : Nat
  deriving DecidableEq, Repr

/-- An event on its way to the Sediment log (R12, R304 to R306). -/
structure Event where
  sev : Nat
  src : Nat
  code : Nat
  data : Nat
  tick : Nat
  phase : Nat
  deriving DecidableEq, Repr

/-- What a task waits for (R116, R120, R122, R129, R133). -/
inductive Wait where
  | none
  | flag (all clear : Bool) (rd : BitVec 5)
  | delay
  | push (q : Nat) (item : DWord)
  | pop (q : Nat) (rd : BitVec 5)
  | port (tok : Token)
  deriving DecidableEq, Repr

/-- The registers of a task context that no register of R117 shows (R109), and its wait. -/
structure TaskCtx where
  x : Vector DWord 32
  sr : Word
  wait : Wait
  deriving DecidableEq, Repr

/-- A hardware queue beyond its registers (R127 to R130): offset of the oldest item, lengths of the committed packets not fully
read, uncommitted items, the producer task plus 1, whether the oldest packet has been read in part. -/
structure Queue where
  rd : Nat
  pkts : List Nat
  unc : Nat
  prod : Nat
  mid : Bool
  deriving DecidableEq, Repr

/-- The item an input image entry gave at its latest latch (R141), and what it was fresh against. -/
structure Latched where
  val : Nat
  qual : Nat
  age : Nat
  stamp : Nat
  deriving DecidableEq, Repr

/-- A message for the partner on the pair link (R326 to R331, R334): class S fields, areas as 64-byte
lines by line number, the tasks that were not DORMANT. -/
inductive PairMsg where
  | resign
  | checkpointStart (boundary : Nat)
  | fields (l : List (F × Nat × Nat)) (plans : List (Nat × Plan)) (paths : List (Nat × Path))
  | area (index : Nat) (lines : List (Nat × Nat))
  | tasks (live : List Nat)
  | marker (boundary epoch : Nat)
  | ack (boundary : Nat)
  | abandon
  | handBack
  | handBackTaken
  deriving DecidableEq, Repr

/-- A conversion of a fast SAR pair (R220, R221): its start, and the subscribers it serves with their sample ticks. -/
structure SarConv where
  pair : Nat
  start : Nat
  subs : List (Nat × Nat)
  deriving DecidableEq, Repr

/-- A modem's bytes (R231, R232): those of the burst that is sent, those held for RXQ, and whether further bytes are discarded. -/
structure Fsk where
  tx : List Nat
  hold : List Nat
  drop : Bool
  deriving DecidableEq, Repr

/-- A station block of the present link cycle (R239, R247): whether its CRC and address are good, and what it holds. -/
structure StnRx where
  good : Bool
  inb : List Nat
  status : Nat
  missed : Nat
  epoch : Nat
  deriving DecidableEq, Repr

/-- The latest frame of an Ethernet port (R257 to R260): its bytes on the medium without preamble, its transmit stamp in nanoseconds of
the port's time base, the stamp point and the end of the FCS on TB0, and what was asked for it. -/
structure EthTx where
  bytes : List Nat
  stamp : Nat
  point : Nat
  fin : Nat
  tsid : Nat
  tsreq : Bool
  stamped : Bool
  deriving DecidableEq, Repr

/-- The device: everything but the queue of waiting commands. -/
structure Dev where
  /-- Register fields and scalar internal state that differ from their Reset values. -/
  regs : List ((F × Nat) × Nat)
  /-- Shadow copies of ST fields (R7). -/
  shadow : List ((F × Nat) × Nat)
  /-- Committed snapshots that have not taken effect (R7). -/
  snap : List ((F × Nat) × Nat)
  /-- Copies of capturing reads (R394). -/
  caps : List ((F × Nat) × Nat)
  /-- Memory by physical address (R28), cells that differ from their reset contents. -/
  mem : List Host.Cell
  /-- The xSPI flash memory (R281). -/
  flash : List Host.Cell
  /-- Free values drawn so far (the model's own). -/
  free : Nat
  /-- Register banks, instance 2 c + b. -/
  banks : List (Nat × Bank)
  /-- Tokens on the token network, in launch order (R26). -/
  net : List Flight
  /-- Tokens held by stalled producers, in the order in which they stalled (R105). -/
  stalled : List Flight
  /-- Tokens in emit and token-port buffers behind a stalled one (R64, R133). -/
  backlog : List Flight
  /-- Matching-store entries of the four blocks. -/
  entries : List Entry
  /-- Ready queues of the cells. -/
  readyq : List ReadyF
  /-- Firings dispatched, ended, aborted or missed. -/
  fates : List Fate
  /-- Values held at output stages for their output instants. -/
  stageVals : List StageVal
  /-- Slots whose admission check is requested, in request order (R73). -/
  admq : List Nat
  /-- Tap copies not judged yet. -/
  copies : List TapCopy
  /-- Capture FIFOs. -/
  capFifo : List CapRec
  /-- Events reported to the error aggregator and not handled by the log yet (R12). -/
  events : List Event
  /-- Task contexts (R109). -/
  tasks : List (Nat × TaskCtx)
  /-- READY tasks in the order in which they became READY; a preempted one in front (R118). -/
  readyt : List Nat
  /-- Tasks in WAIT_QUEUE in the order in which they began to wait (R129). -/
  waitq : List Nat
  /-- Hardware queues (R127). -/
  queues : List (Nat × Queue)
  /-- Latched items of input image entries, instance 256 n + e (R141). -/
  latches : List (Nat × Latched)
  /-- Last published item of token entries of output images, instance 256 n + e (R146). -/
  published : List (Nat × Nat)
  /-- Tasks that wait to switch, with the address and length of their change record (R152). -/
  changes : List (Nat × Nat)
  /-- Messages sent to the partner. -/
  pairOut : List PairMsg
  /-- Writes posted to the host: address, length in bytes, value (R277, R299). -/
  hostOut : List (Nat × Nat × Nat)
  /-- Plans of the axis cells (R176). -/
  plans : List (Nat × Plan)
  /-- Path states of the groups (R186). -/
  paths : List (Nat × Path)
  /-- Conversions of the fast SAR pairs in progress or waiting (R221). -/
  sarq : List SarConv
  /-- Bytes of the modems (R231, R232). -/
  fsk : List (Nat × Fsk)
  /-- Link configurations that wait for a cycle start (R237). -/
  olPend : List (Nat × List (F × Nat × Nat))
  /-- Snapshots of the output images, by link (R236). -/
  olSnap : List (Nat × List (List Nat))
  /-- Blocks received in the present link cycle, instance 8 k + s (R247). -/
  olRx : List (Nat × StnRx)
  /-- Latest frame transmitted by each link port (R239, R246). -/
  olFrame : List (Nat × List Nat)
  /-- Latest frame of each Ethernet port (R257). -/
  ethTx : List (Nat × EthTx)
  /-- Transmit time-stamp queues of the Ethernet ports: TSID and stamp in nanoseconds (R260). -/
  ethTsq : List (Nat × List (Nat × Nat))
  /-- Stream blocks ready to be sent: unit, address, instant (R299). -/
  dcReady : List (Nat × Nat × Nat)
  /-- Events that the error aggregator holds for the log (R321). -/
  errHold : List Event
  /-- Events that wait in the log's hold buffer (R310). -/
  sedHold : List Event
  /-- The log's own pending records, with LAST (R404). -/
  sedOwn : List (Event × Nat)
  /-- 64-byte lines written and not carried by a committed checkpoint, in ascending order (R327). -/
  dirty : List Nat
  /-- Lines that the checkpoint in progress carries (R327, R328). -/
  carried : List Nat
  /-- Parameter set of the safety region in effect (R345). -/
  psSet : List Nat
  deriving DecidableEq, Repr

/-- The state of the block: the device and the queue of commands that wait. -/
structure State where
  dev : Dev
  pending : List Instr
  deriving DecidableEq, Repr

/-- The device right after reset: every register field at its Reset value, memory at its reset contents, every region held in
reset (R337, R366, R384). -/
def Dev.reset : Dev :=
  { regs := [], shadow := [], snap := [], caps := [], mem := [], flash := [], free := 0, banks := [], net := [], stalled := [],
    backlog := [], entries := [], readyq := [], fates := [], stageVals := [], admq := [], copies := [], capFifo := [],
    events := [],
    tasks := [],
    readyt := [],
    waitq := [],
    queues := [],
    latches := [],
    published := [],
    changes := [],
    pairOut := [],
    hostOut := [],
    plans := [],
    paths := [],
    sarq := [],
    fsk := [],
    olPend := [],
    olSnap := [],
    olRx := [],
    olFrame := [],
    ethTx := [],
    ethTsq := [],
    dcReady := [],
    errHold := [],
    sedHold := [],
    sedOwn := [],
    dirty := [],
    carried := [],
    psSet := []
  }

/-- The machine right after reset; no command waits. -/
def State.reset : State := { dev := Dev.reset, pending := [] }

end Sys2Proof.Machine
end

