-- ==== Sys2Proof/Machine/Ops.lean ====
section
/-!
DEFINITION. The named operations over the device: register fields, memory, time, free values, event reports, and the entry of
tokens into the token network.
-/

namespace Sys2Proof.Machine

/-- The end of every command: the device changed, the queue kept. -/
def act (s : State) (f : Dev → Dev) : Host.Outcome State Fault Refusal := .next { s with dev := f s.dev }

/-! Register fields. -/

/-- Order of register-file keys. -/
def ltReg (a b : F × Nat) : Bool :=
  decide (a.1.ctorIdx < b.1.ctorIdx) || (decide (a.1.ctorIdx = b.1.ctorIdx) && decide (a.2 < b.2))

/-- Reset value of a field's instance; three rows give one that depends on the instance (R49, R183, R280). -/
def F.resetAt (f : F) (i : Nat) : Nat :=
  match f with
  | .C_STAT_MODE => if i % 6 = 4 then 3 else 0
  | .AX_CFG_ENC => i
  | .PCIE_AP => if i = 0 then 0x40 else if i = 1 then 0x21 else if i = 2 then 0x1F else 1
  | f => f.desc.reset

/-- The part of a value that a field holds. -/
def F.fit (f : F) (v : Nat) : Nat := if f.desc.width = 0 then v else v % 2 ^ f.desc.width

/-- The value of a field in effect. -/
def Dev.get (d : Dev) (f : F) (i : Nat) : Nat := (mapFind (f, i) d.regs).getD (f.resetAt i)

/-- Sets a field; a value equal to the Reset value is not listed. -/
def Dev.put (d : Dev) (f : F) (i v : Nat) : Dev :=
  { d with regs := mapSet ltReg (f, i) (if f.fit v = f.resetAt i then none else some (f.fit v)) d.regs }

/-- Whether a field is not 0. -/
def Dev.on (d : Dev) (f : F) (i : Nat) : Bool := decide (d.get f i ≠ 0)

/-- Sets a one-bit field. -/
def Dev.flag (d : Dev) (f : F) (i : Nat) (b : Bool) : Dev := d.put f i (if b then 1 else 0)

/-- Adds to a wrapping counter. -/
def Dev.bump (d : Dev) (f : F) (i n : Nat) : Dev := d.put f i (d.get f i + n)

/-- Counts one in a saturating counter. -/
def Dev.bumpSat (d : Dev) (f : F) (i : Nat) : Dev :=
  if d.get f i + 1 < 2 ^ f.desc.width then d.put f i (d.get f i + 1) else d

/-- A field read as a signed number of its width. -/
def Dev.sget (d : Dev) (f : F) (i : Nat) : Int := sNat f.desc.width (d.get f i)

/-- Sets a field to the low bits of an integer. -/
def Dev.sput (d : Dev) (f : F) (i : Nat) (x : Int) : Dev := d.put f i (uInt f.desc.width x)

/-- Applies an operation for each number below a bound, in ascending order. -/
def forN (n : Nat) (f : Dev → Nat → Dev) (d : Dev) : Dev := (List.range n).foldl f d

/-- The lowest number below a bound that meets a condition. -/
def firstBelow (n : Nat) (p : Nat → Bool) : Option Nat := (List.range n).find? p

/-- Sum over the numbers below a bound. -/
def sumBelow (n : Nat) (f : Nat → Nat) : Nat := (List.range n).foldl (fun a i => a + f i) 0

/-! Memory (R28): bytes by physical address. -/

/-- What a byte that nothing has written reads as: 0 (R339), and 0x40 in the top byte of each GAIN of the calibration area, which
holds 1.0 at delivery (R216). -/
def memReset (a : Nat) : Byte :=
  if 0x50080000 ≤ a ∧ a < 0x500811A0 ∧ a % 8 = 7 then 0x40#8 else 0#8

/-- One byte of memory. -/
def Dev.byte (d : Dev) (a : Nat) : Byte := (mapFind a d.mem).getD (memReset a)

/-- Memory in which areas of a checkpoint may lie (R326, R335): program SRAM, tightly coupled memories, retentive MRAM, LPDDR4X and the
data memories of the cells. -/
def inAreaMem (a : Nat) : Bool :=
  decide (a < 0x600000) || (decide (0x800000 ≤ a) && decide (a < 0x900000)) || (decide (0x50000000 ≤ a) && decide (a < 0x50080000)) ||
  decide (0x200000000 ≤ a) ||
  (decide (0x10000000 ≤ a) && decide (a < 0x14000000) && decide (a % 0x1000000 < 0xC00000) && decide (a % 0x200000 < 0x10000))

/-- A set of numbers in ascending order with one more. -/
def insNat (n : Nat) : List Nat → List Nat
  | [] => [n]
  | m :: t => if n < m then n :: m :: t else if n = m then m :: t else m :: insNat n t

/-- Writes one byte; a byte equal to its reset content is not listed. The line of a checkpoint area becomes dirty (R327). -/
def Dev.setByte (d : Dev) (a : Nat) (b : Byte) : Dev :=
  { d with mem := mapSet ltNat a (if b = memReset a then none else some b) d.mem
           dirty := if inAreaMem a then insNat (a / 64) d.dirty else d.dirty }

/-- Reads `n` bytes, little-endian. -/
def Dev.rd (d : Dev) (a : Nat) : Nat → Nat
  | 0 => 0
  | n + 1 => (d.byte a).toNat + 256 * d.rd (a + 1) n

/-- Writes `n` bytes, little-endian. -/
def Dev.wr (d : Dev) (a : Nat) : Nat → Nat → Dev
  | 0, _ => d
  | n + 1, v => (d.setByte a (BitVec.ofNat 8 v)).wr (a + 1) n (v / 256)

/-- The canonical form of a memory: addresses strictly rising, no cell equal to its reset content. -/
def memWf (m : List Host.Cell) : Bool := mapOrdered ltNat m && m.all (fun c => !decide (c.2 = memReset c.1))

/-! Time (R27, R284). -/

/-- Units of the time bases in one nanosecond. -/
def tbUnit : Nat := 2 ^ 32

/-- TB0 in whole nanoseconds. -/
def Dev.now (d : Dev) : Nat := d.get .x_TBV 0 / tbUnit

/-- The current tick number. -/
def Dev.tick (d : Dev) : Nat := d.now / 1000

/-- The current phase, 0 to 249. -/
def Dev.phase (d : Dev) : Nat := d.now % 1000 / 4

/-- Time base k `c` TIME_CLK cycles from now, in units of 2^-32 ns (R284); a negative `c` lies in the past. -/
def Dev.tbAt (d : Dev) (k : Nat) (c : Int) : Nat := ((d.get .x_TBV k : Int) + c * (2 ^ 34 + d.sget .TB_RATE k)).toNat

/-- Time base k now, in whole nanoseconds. -/
def Dev.tbNs (d : Dev) (k : Nat) : Nat := d.get .x_TBV k / tbUnit

/-- A stamp of time base k, `c` cycles from now, corrected by `lat` nanoseconds (R258). -/
def Dev.stampAt (d : Dev) (k : Nat) (c lat : Int) : Nat := ((d.tbAt k c / tbUnit : Int) + lat).toNat

/-- The latest tick number n with n mod p = o mod p (R396) whose instant, `off` nanoseconds after the tick, is not later than
`now`. -/
def dueTick (now p o off : Nat) : Option Nat :=
  if now < off then none
  else
    let t := (now - off) / 1000
    let r := (t + p - o % p) % p
    if r ≤ t then some (t - r) else none

/-- The first tick number at or after `t` with n mod p = o mod p. -/
def nextTick (t p o : Nat) : Nat := t + (o % p + p - t % p) % p

/-! Free values. -/

/-- Draws a free value. -/
def Dev.fresh (d : Dev) : Nat × Dev := (Config.freeValue d.free, { d with free := d.free + 1 })

/-! Regions and device states (R17, R338). -/

/-- A region is held in reset. -/
def Dev.held (d : Dev) (r : Nat) : Bool := d.on .x_HELD r

/-- The role is one in which instructions issue and tokens are launched (R320, R338). -/
def Dev.active (d : Dev) : Bool := decide (d.get .PAIR_STAT_ROLE 0 < 2) && !d.on .x_TO_WAIT 0

/-- The clocks of the loop, program and field regions run (R338). -/
def Dev.clocked (d : Dev) : Bool := decide (d.get .PWR_CTL_STATE 0 ≠ 1) && !d.on .x_DEEP 0

/-- The loop region executes. -/
def Dev.loopRuns (d : Dev) : Bool := !d.held 0 && d.clocked && d.active

/-- The program region executes. -/
def Dev.progRuns (d : Dev) : Bool := !d.held 1 && d.clocked && d.active

/-- The field region's units work. -/
def Dev.fieldOn (d : Dev) : Bool := !d.held 2 && d.clocked && decide (d.get .PAIR_STAT_ROLE 0 ≠ 4)

/-- The field region's producers launch tokens and its outputs are driven (R333, R338). -/
def Dev.fieldActs (d : Dev) : Bool := !d.held 2 && d.clocked && d.active

/-! Events (R12, R305). -/

/-- Reports an event to the error aggregator at the present instant; MSI-X vector 33 follows (R278). -/
def Dev.report (d : Dev) (sev src code data : Nat) : Dev :=
  { d.put .x_MSI_PEND 33 1 with events := d.events ++ [{ sev := sev, src := src, code := code, data := data % 2 ^ 32, tick := d.tick, phase := d.phase }] }

/-- SRC of R305 from region, level and unit. -/
def srcOf (region level unit : Nat) : Nat := region * 4096 + level * 1024 + unit

/-! Delta capture copies (R291). -/

/-- The lowest-numbered enabled tap of a unit with a kind and a key. -/
def Dev.tapFor (d : Dev) (u : Nat) (event : Bool) (key : Nat) : Option Nat :=
  firstBelow 32 (fun t => d.on .TAP_CFG_EN (32 * u + t) && (d.on .TAP_CFG_EVT (32 * u + t) == event) &&
    decide (d.get .TAP_CFG_KEY (32 * u + t) = key))

/-- Hands a copy to every enabled unit that has a matching tap; it is matched at once and judged by TAP_COPY. -/
def Dev.copyToTaps (d : Dev) (event : Bool) (key ty qual val tick phase : Nat) : Dev :=
  if d.held 2 then d
  else forN 8 (fun d u =>
    if d.on .DC_CFG_EN u then
      match d.tapFor u event key with
      | some t => { d with copies := d.copies ++ [{ unit := u, tap := t, event := event, ty := ty, qual := qual, val := val,
                                                    tick := tick, phase := phase }] }
      | none => d
    else d) d

/-- An event that event taps may see (R293). -/
def Dev.tapEvent (d : Dev) (code val tick phase : Nat) : Dev := d.copyToTaps true code 0 0 (val % 2 ^ 32) tick phase

/-! Slots (R69). -/

/-- Period in ticks. -/
def Dev.period (d : Dev) (g : Nat) : Nat := d.get .SLOT_TIME_PERIOD g + 1

/-- A slot counts as enabled (R400). -/
def Dev.slotEn (d : Dev) (g : Nat) : Bool := d.on .SLOT_CTL_EN g || d.on .x_SLOT_PASS g

/-- Sample instant of firing n, in ns of TB0. -/
def Dev.sampleAt (d : Dev) (g n : Nat) : Nat := n * 1000 + 4 * d.get .SLOT_PH_SPHASE g

/-- Output instant of firing n. -/
def Dev.outputAt (d : Dev) (g n : Nat) : Nat := d.sampleAt g n + 4 * d.get .SLOT_PH_OPHASE g

/-- Cut-off of firing n. -/
def Dev.cutoffAt (d : Dev) (g n : Nat) : Nat := d.outputAt g n - 60

/-- A comet slot: local slot 62 or 63 with CELL = 4 (R101). -/
def Dev.isComet (d : Dev) (g : Nat) : Bool := decide (g % 64 ≥ 62) && decide (d.get .SLOT_CTL_CELL g = 4)

/-- The numbers of output stages (R89). -/
def isStage (n : Nat) : Bool :=
  decide (n < 0x18) || (decide (0x20 ≤ n) && decide (n < 0x50)) || (decide (0x400 ≤ n) && decide (n < 0x800))

/-! The entry into the token network (R19, R23, R291, R390). -/

/-- Replaces the value of a token whose DEST an enabled force entry names. -/
def Dev.forceTok (d : Dev) (t : Token) : Token × Dev :=
  match firstBelow 32 (fun i => d.on .FORCE_CTL_EN i && decide (d.get .FORCE_CTL_KEY i = t.dest.toNat)) with
  | none => (t, d)
  | some i =>
    ({ t with val := BitVec.ofNat 32 (d.get .FORCE_VAL i), qual := 0x80#8 },
     (d.put .FORCE_QUAL i t.qual.toNat).bump .FORCE_HITS i 1)

/-- Where a token goes at its entry: absorbed as misrouted, absorbed at a region boundary, or onto the network. -/
inductive Route where
  | misrouted
  | absorbed
  | network
  deriving DecidableEq, Repr

/-- R23, then R19. -/
def Dev.route (d : Dev) (dest : Nat) : Route :=
  let cls := dest / 4096
  let n := dest % 4096
  if cls = 0 then
    if n / 8 % 2 = 1 then .misrouted
    else if d.held 0 then .absorbed
    else if d.slotEn (n / 16) then .network else .misrouted
  else if cls = 1 then
    if !isStage n then .misrouted else if d.held 0 then .absorbed else .network
  else if cls = 2 then
    if n ≥ 512 then .misrouted else if d.held 1 then .absorbed else .network
  else .misrouted

/-- A token enters the token network: forcing, the taps, then its route. -/
def Dev.enterNet (d : Dev) (fl : Flight) : Dev :=
  let (t, d) := d.forceTok fl.tok
  let d := d.copyToTaps false t.dest.toNat t.ty.toNat t.qual.toNat t.val.toNat d.tick d.phase
  match d.route t.dest.toNat with
  | .misrouted => d.bump .TOKEN_STAT_MISROUTED 0 1
  | .absorbed => d.bump .TOKEN_STAT_ABSORBED 0 1
  | .network => { d with net := d.net ++ [{ fl with tok := t }] }

/-- A producer is stalled (R105). -/
def Dev.isStalled (d : Dev) (p : Prod) : Bool := d.stalled.any (fun f => decide (f.prod = p))

/-- Launches a token; behind a stalled one it waits at its producer (R26, R64, R105). -/
def Dev.launch (d : Dev) (fl : Flight) : Dev :=
  if d.isStalled fl.prod then { d with backlog := d.backlog ++ [fl] } else d.enterNet fl

/-- Tokens that a producer holds: the stalled one and those behind it. -/
def Dev.waitingAt (d : Dev) (p : Prod) : Nat :=
  (d.stalled.filter (fun f => decide (f.prod = p))).length + (d.backlog.filter (fun f => decide (f.prod = p))).length

/-- A producer resumes: the tokens that waited behind its stalled one enter the network in order. -/
def Dev.resume (d : Dev) (p : Prod) : Dev :=
  let mine := d.backlog.filter (fun f => decide (f.prod = p))
  mine.foldl Dev.enterNet { d with backlog := d.backlog.filter (fun f => !decide (f.prod = p)) }

/-- TYPE code of a two-bit TY (R42). -/
def tyCode (t : Nat) : Nat := t % 4 + 1

/-- A TYPE that R21 does not reserve. -/
def tyValid (t : Nat) : Bool := decide (1 ≤ t) && decide (t ≤ 4)

end Sys2Proof.Machine
end

