-- ==== Sys2Proof/Machine/Fabric.lean ====
section
/-!
DEFINITION. The loop fabric (R69 to R107): matching stores, readiness, dispatch, preemption, cut-offs, admission, and the
commands of slots.
-/

namespace Sys2Proof.Machine

/-! Firings and fates. -/

/-- The fate recorded for a firing. -/
def Dev.fate (d : Dev) (g n : Nat) : Option FateKind :=
  (d.fates.find? (fun f => decide (f.slot = g) && decide (f.tick = n))).map Fate.kind

/-- Records the fate of a firing. -/
def Dev.setFate (d : Dev) (g n : Nat) (k : FateKind) : Dev :=
  { d with fates := d.fates.filter (fun f => !(decide (f.slot = g) && decide (f.tick = n))) ++ [{ slot := g, tick := n, kind := k }] }

/-- Forgets the fate of a firing. -/
def Dev.dropFate (d : Dev) (g n : Nat) : Dev :=
  { d with fates := d.fates.filter (fun f => !(decide (f.slot = g) && decide (f.tick = n))) }

/-- Declared operand field (R72): bit 3 USED, bit 2 REQ, bits 1 and 0 the type. -/
def Dev.opField (d : Dev) (g k : Nat) : Nat := d.get .SLOT_OPS g / 16 ^ k % 16

/-- Operand k is declared USED. -/
def Dev.opUsed (d : Dev) (g k : Nat) : Bool := decide (d.opField g k / 8 = 1)

/-- Operand k is declared REQ. -/
def Dev.opReq (d : Dev) (g k : Nat) : Bool := decide (d.opField g k / 4 % 2 = 1)

/-- The first firing of the slot after it was last enabled (R73, R77). -/
def Dev.firstFiring (d : Dev) (g : Nat) : Nat := nextTick (d.get .x_SLOT_FIRST g) (d.period g) (d.get .SLOT_TIME_TOFF g)

/-- Whether firing n is the HANDOVER firing of its slot (R99). -/
def Dev.isHandover (d : Dev) (g n : Nat) : Bool :=
  d.on .x_HO_STG g &&
  decide (n = nextTick (max (d.get .x_HO_TICK g) (d.get .x_SLOT_FIRST g)) (d.period g) (d.get .SLOT_TIME_TOFF g))

/-- The operands a firing waits for (R79). -/
def Dev.needs (d : Dev) (g n : Nat) : List Nat :=
  (List.range 8).filter (fun k => d.opReq g k && !(decide (k = 7) && d.isHandover g n))

/-- The tick a firing tag stands for (R77). -/
def tagTick (cur ftag : Nat) : Nat := cur + (ftag + 65536 - cur % 65536 + 32767) % 65536 - 32767

/-- The cell that serves a slot: its pinned cell, or C5 while it serves that cell's slots (R314, R318). -/
def Dev.servingCell (d : Dev) (g : Nat) : Nat :=
  let b := g / 64
  let c := d.get .SLOT_CTL_CELL g
  if d.on .SPARE_SUBST b && decide (d.get .SPARE_FROM b = c) && !d.on .x_RST_SW b then 6 * b + 5 else 6 * b + c

/-- Packed mirror base of a slot in C5 (R315). -/
def Dev.mirrorBase (d : Dev) (g : Nat) : Nat :=
  let b := g / 64
  let c := d.get .SLOT_CTL_CELL g
  3072 * c + sumBelow (g % 64) (fun l =>
    if d.slotEn (64 * b + l) && decide (d.get .SLOT_CTL_CELL (64 * b + l) = c) then d.get .SLOT_STATE_SLEN (64 * b + l) else 0)

/-- The base loaded into P7 (R36, R314). -/
def Dev.p7Base (d : Dev) (g : Nat) : Nat :=
  if d.servingCell g % 6 = 5 then d.mirrorBase g else d.get .SLOT_STATE_SBASE g

/-! Banks of cells. -/

/-- A bank that holds nothing; every register reads 0 (R36). -/
def Bank.empty : Bank :=
  { slot := 0, tick := 0, started := false, preempted := false, d := Vector.replicate 16 0#32, a := Vector.replicate 4 0#80,
    p := Vector.replicate 8 0#14, m := Vector.replicate 8 0#14, l := Vector.replicate 8 0#14, b := Vector.replicate 8 0#14,
    q := Vector.replicate 8 0#8, sr := 0#32, fst := 0#32, pc := 0#13, stack := [], rep := 0, cycles := 0,
    hz := { d := [], a := [], ad := [] }, waiting := none }

/-- Bank b of cell c. -/
def Dev.bank (d : Dev) (c b : Nat) : Bank := natGet Bank.empty (2 * c + b) d.banks

/-- Writes bank b of cell c. -/
def Dev.setBank (d : Dev) (c b : Nat) (x : Bank) : Dev := { d with banks := natSet Bank.empty (2 * c + b) x d.banks }

/-- The bank that executes, or last executed (R49). -/
def Dev.actBank (d : Dev) (c : Nat) : Nat := d.get .C_STAT_ACT c

/-- Bank b of cell c holds a firing. -/
def Dev.loaded (d : Dev) (c b : Nat) : Bool := if b = 0 then d.on .C_STAT_LOAD0 c else d.on .C_STAT_LOAD1 c

/-- Records whether bank b of cell c holds a firing. -/
def Dev.setLoaded (d : Dev) (c b : Nat) (x : Bool) : Dev :=
  if b = 0 then d.flag .C_STAT_LOAD0 c x else d.flag .C_STAT_LOAD1 c x

/-- The firing loaded in the idle bank has higher priority than the executing one and preempts it at the next boundary (R40). -/
def Dev.mustPreempt (d : Dev) (c : Nat) : Bool :=
  let a := d.actBank c
  d.on .x_RUNB c && d.loaded c (1 - a) && !(d.bank c (1 - a)).started && !(d.bank c (1 - a)).preempted &&
  decide (d.get .SLOT_CTL_PRIO (d.bank c (1 - a)).slot < d.get .SLOT_CTL_PRIO (d.bank c a).slot)

/-- An instruction boundary of the cell: a firing executes and no EMIT waits. -/
def Dev.atBoundary (d : Dev) (c : Nat) : Bool :=
  d.loopRuns && !d.on .C_STAT_FAULTED c && d.on .x_RUNB c && (d.bank c (d.actBank c)).waiting.isNone

/-- The cell issues the executing firing's next instruction. -/
def Dev.canIssue (d : Dev) (c : Nat) : Bool := d.atBoundary c && !d.mustPreempt c

/-- C5 holds no moved firing after a restore switch: SUBST clears and the mirror is rebuilt (R318). -/
def Dev.restoreDone (d : Dev) (b : Nat) : Dev :=
  if d.on .x_RST_SW b && !d.loaded (6 * b + 5) 0 && !d.loaded (6 * b + 5) 1 then
    ((((d.put .SPARE_SUBST b 0).put .x_RST_SW b 0).put .x_RST_COPY b 0).put .SPARE_RESTORE b 0).put .SPARE_MIRROK b 0
  else d

/-- Releases the executing bank: the other bank's firing resumes or starts (R39, R40, R65). -/
def Dev.release (d : Dev) (c : Nat) : Dev :=
  let a := d.actBank c
  let d := (d.setBank c a Bank.empty).setLoaded c a false
  let d :=
    if d.loaded c (1 - a) then (d.setBank c (1 - a) { d.bank c (1 - a) with preempted := false }).put .C_STAT_ACT c (1 - a)
    else d.put .x_RUNB c 0
  if c % 6 = 5 then d.restoreDone (c / 6) else d

/-- Aborts the executing firing under R48. -/
def Dev.abort (d : Dev) (c cause : Nat) (pc : BitVec 13) : Dev :=
  let b := d.bank c (d.actBank c)
  let d := (d.bumpSat .C_STAT_ILL_CNT c).put .C_ILL_CAUSE c cause
  let d := (d.put .C_ILL_SLOT c (b.slot % 64)).put .C_ILL_PC c pc.toNat
  let d := d.report 1 (srcOf 1 0 c) 0x12 (b.slot + 256 * cause)
  (d.setFate b.slot b.tick .aborted).release c

/-! The matching store. -/

/-- Whether an entry is that of firing n of slot g. -/
def Entry.isOf (e : Entry) (g n : Nat) : Bool := decide (e.slot = g) && decide (e.tick = n)

/-- The entry of a firing. -/
def Dev.entry (d : Dev) (g n : Nat) : Option Entry := d.entries.find? (fun e => e.isOf g n)

/-- Replaces the entry of a firing, or adds it. -/
def Dev.putEntry (d : Dev) (e : Entry) : Dev :=
  { d with entries := d.entries.filter (fun x => !x.isOf e.slot e.tick) ++ [e] }

/-- Frees the entry of a firing. -/
def Dev.freeEntry (d : Dev) (g n : Nat) : Dev := { d with entries := d.entries.filter (fun x => !x.isOf g n) }

/-- Entries in use in a block (R106). -/
def Dev.pendingOf (d : Dev) (b : Nat) : Nat := (d.entries.filter (fun e => decide (e.slot / 64 = b))).length

/-- Tokens of a slot held in entries (R107). -/
def Dev.pendTokens (d : Dev) (g : Nat) : Nat :=
  ((d.entries.filter (fun e => decide (e.slot = g))).map (fun e => e.ops.length)).sum

/-- Whether a new entry can be had for a slot: its own comet entry, or one of entries 0 to 29 (R101, R105). -/
def Dev.canAlloc (d : Dev) (g : Nat) : Bool :=
  if d.isComet g then !d.entries.any (fun e => decide (e.slot = g) && e.comet)
  else decide ((d.entries.filter (fun e => decide (e.slot / 64 = g / 64) && !e.comet)).length < 30)

/-- Raises PEAK to the entries in use (R106). -/
def Dev.notePeak (d : Dev) (b : Nat) : Dev :=
  if d.get .MS_STAT_PEAK b < d.pendingOf b then d.put .MS_STAT_PEAK b (d.pendingOf b) else d

/-- A token for an operand is consumed: it becomes the operand's last value (R80). -/
def Dev.consume (d : Dev) (g k : Nat) (v : Word) (q : Byte) : Dev :=
  (d.put .x_LASTV (8 * g + k) v.toNat).put .x_LASTQ (8 * g + k) q.toNat

/-- A token is consumed without being presented (R107). -/
def Dev.consumeUnused (d : Dev) (g k : Nat) (v : Word) (q : Byte) : Dev := (d.consume g k v q).bump .TOK_UNUSED g 1

/-- The firing becomes ready (R79, R83). -/
def Dev.makeReady (d : Dev) (e : Entry) : Dev :=
  let d := d.putEntry { e with ready := true }
  { d with readyq := d.readyq ++ [{ slot := e.slot, tick := e.tick, since := d.get .x_CYC 0, displaced := none }] }

/-- Whether every operand a firing waits for is placed, and it waits for one. -/
def Dev.allPlaced (d : Dev) (e : Entry) : Bool :=
  let ns := d.needs e.slot e.tick
  !ns.isEmpty && ns.all (fun k => e.ops.any (fun o => decide (o.k = k)))

/-- Places a token in an entry; an earlier one for the operand is consumed (R78); the firing may become ready (R79). -/
def Dev.place (d : Dev) (e : Entry) (k : Nat) (t : Token) : Dev :=
  let d := match e.ops.find? (fun o => decide (o.k = k)) with
    | some o => d.consumeUnused e.slot k o.val o.qual
    | none => d
  let e := { e with ops := e.ops.filter (fun o => !decide (o.k = k)) ++ [{ k := k, val := t.val, qual := t.qual }] }
  if !e.ready && d.allPlaced e then d.makeReady e else d.putEntry e

/-- Whether a token for firing n of slot g is consumed at once (R77, R79). -/
def Dev.tooLate (d : Dev) (g n k : Nat) : Bool :=
  decide (n < d.firstFiring g) || (d.fate g n).isSome || decide (n < d.get .x_SLOT_OUTD g) || decide (n < d.get .x_SLOT_MISSD g) ||
  (match d.entry g n with
   | some e => e.ready && !d.opReq g k
   | none => false)

/-- A matching store takes a token (R77, R78); none when the token needs an entry and none is to be had. -/
def Dev.takeToken (d : Dev) (t : Token) : Option Dev :=
  let g := t.dest.toNat / 16 % 256
  let k := t.dest.toNat % 8
  let n := nextTick (tagTick d.tick t.ftag.toNat) (d.period g) (d.get .SLOT_TIME_TOFF g)
  if !d.slotEn g then some (d.bump .TOKEN_STAT_MISROUTED 0 1)
  else
    let counted := (d.bump .TOK_IN g 1)
    let counted := if d.opUsed g k && decide (t.ty.toNat ≠ tyCode (d.opField g k)) then counted.bumpSat .SLOT_PEND_TYPE_MM g else counted
    if d.tooLate g n k || !d.opUsed g k then some (counted.consumeUnused g k t.val t.qual)
    else match d.entry g n with
      | some e => some (counted.place e k t)
      | none =>
        if d.canAlloc g then
          let e : Entry := { slot := g, tick := n, comet := d.isComet g, ready := false, ops := [] }
          some ((counted.place e k t).notePeak (g / 64))
        else none

/-- A flight addressed to a slot of block b. -/
def Flight.toBlock (b : Nat) (f : Flight) : Bool := decide (f.tok.dest.toNat / 4096 = 0) && decide (f.tok.dest.toNat / 16 % 256 / 64 = b)

/-- Whether nothing of the same producer to the same destination is ahead of element k of a list of flights (R26). -/
def inOrder (l : List Flight) (k : Nat) : Bool :=
  match l[k]? with
  | none => false
  | some f => !(l.take k).any (fun x => decide (x.prod = f.prod) && decide (x.tok.dest = f.tok.dest))

/-- Element k of the network, if it may arrive next and meets a condition. -/
def Dev.arrival (d : Dev) (k : Nat) (p : Flight → Bool) : Option Flight :=
  match d.net[k]? with
  | none => none
  | some f =>
    if p f && inOrder d.net k && !d.stalled.any (fun x => decide (x.prod = f.prod) && decide (x.tok.dest = f.tok.dest)) then some f
    else none

/-- A token that cannot be taken stays with its producer, which stalls (R105). -/
def Dev.stall (d : Dev) (f : Flight) : Dev :=
  Dev.put { d with stalled := d.stalled ++ [f] } .MS_STAT_FULLSEEN (f.tok.dest.toNat / 16 % 256 / 64) 1

/-- Whether a token of a comet slot waits in the lane ahead (R101). -/
def Dev.laneBlocked (d : Dev) (g : Nat) : Bool :=
  d.isComet g && d.stalled.any (fun x => x.toBlock (g / 64) && decide (x.tok.dest.toNat / 16 % 256 = g))

/-- TOKEN_ACCEPTED: the network's k-th token reaches the matching store of block b. -/
def Dev.tokenAccepted (d : Dev) (b k : Nat) : Dev :=
  if d.held 0 then d
  else match d.arrival k (Flight.toBlock b) with
    | none => d
    | some f =>
      let d := { d with net := d.net.eraseIdx k }
      if d.laneBlocked (f.tok.dest.toNat / 16 % 256) then d.stall f
      else (d.takeToken f.tok).getD (d.stall f)

/-- The first stalled token that meets a condition and can be taken now, with the device after taking it. -/
def Dev.firstTakeable (d : Dev) (p : Flight → Bool) : List Flight → Option (Flight × Dev)
  | [] => none
  | f :: t =>
    if p f then
      match d.takeToken f.tok with
      | some d' => some (f, d')
      | none => d.firstTakeable p t
    else d.firstTakeable p t

/-- A stalled token enters the store and its producer resumes (R105). -/
def Dev.unstall (d : Dev) (p : Flight → Bool) : Dev :=
  match d.firstTakeable p d.stalled with
  | none => d
  | some r =>
    let d' : Dev := r.2
    Dev.resume { d' with stalled := d'.stalled.erase r.1 } r.1.prod

/-- STALLED_TOKEN_ACCEPTED. -/
def Dev.stalledTokenAccepted (d : Dev) (b : Nat) : Dev :=
  if d.held 0 then d
  else d.unstall (fun f => f.toBlock b && !d.isComet (f.tok.dest.toNat / 16 % 256))

/-- COMET_LANE_RELEASE: the first token that waits in the lane for comet slot g. -/
def Dev.cometLaneRelease (d : Dev) (g : Nat) : Dev :=
  if d.held 0 || !d.isComet g then d
  else match d.stalled.find? (fun f => f.toBlock (g / 64) && decide (f.tok.dest.toNat / 16 % 256 = g)) with
    | none => d
    | some f => d.unstall (fun x => decide (x = f))

/-- HANDOVER_ENTRY (R79). -/
def Dev.handoverEntry (d : Dev) (g : Nat) : Dev :=
  let n := nextTick (max (d.get .x_HO_TICK g) (d.get .x_SLOT_FIRST g)) (d.period g) (d.get .SLOT_TIME_TOFF g)
  if d.loopRuns && d.slotEn g && d.isHandover g n && (d.needs g n).isEmpty && decide (d.sampleAt g n ≤ d.now) &&
     (d.fate g n).isNone && decide (d.now ≤ d.cutoffAt g n) then
    match d.entry g n with
    | some e => if e.ready then d else d.makeReady e
    | none =>
      if d.canAlloc g then
        (d.makeReady { slot := g, tick := n, comet := d.isComet g, ready := false, ops := [] }).notePeak (g / 64)
      else d
  else d

/-! Presentation, dispatch and preemption. -/

/-- What the store presents for operand k of a firing: value, quality, presence (R80). -/
def Dev.presented (d : Dev) (g : Nat) (ops : List Placed) (k : Nat) : Word × Byte × Bool :=
  match ops.find? (fun o => decide (o.k = k)) with
  | some o => (o.val, o.qual, true)
  | none =>
    if d.opUsed g k then
      (BitVec.ofNat 32 (d.get .x_LASTV (8 * g + k)), BitVec.ofNat 8 (d.get .x_LASTQ (8 * g + k)) ||| 1#8, false)
    else (0#32, 0#8, false)

/-- The value of a stage in effect (R91). -/
def Dev.stageVal (d : Dev) (st : Nat) : Nat :=
  if !d.on .OS_CFG_EN st || d.on .OS_STAT_SAFE_ACT st then d.get .OS_SAFE st else d.get .OS_VAL st

/-- The QUAL of the value in effect (R91). -/
def Dev.stageQual (d : Dev) (st : Nat) : Nat :=
  if !d.on .OS_CFG_EN st || d.on .OS_STAT_SAFE_ACT st then 0x10 else d.get .OS_STAT_QUAL st

/-- The tokens of an entry are consumed as it is presented: USED, or UNUSED for operand 7 of a HANDOVER firing (R99, R107). -/
def Dev.consumeEntry (d : Dev) (g : Nat) (ho : Bool) (ops : List Placed) : Dev :=
  ops.foldl (fun d o =>
    if ho && decide (o.k = 7) then d.consumeUnused g 7 o.val o.qual
    else (d.consume g o.k o.val o.qual).bump .TOK_USED g 1) d

/-- The bank of a firing when it is loaded (R36, R38, R80, R99). -/
def Dev.freshBank (d : Dev) (g n j : Nat) (ops : List Placed) : Bank :=
  let ho := d.isHandover g n
  let st := d.get .x_HO_STG g - 1
  let pr := fun k : Nat =>
    if ho && decide (k = 7) then (BitVec.ofNat 32 (d.stageVal st), BitVec.ofNat 8 (d.stageQual st), true) else d.presented g ops k
  let pres := sumBelow 8 (fun k => if (pr k).2.2 then 2 ^ k else 0)
  { Bank.empty with
    slot := g, tick := n
    d := Vector.ofFn (fun i => if i.val < 8 then 0#32 else (pr (i.val - 8)).1)
    q := Vector.ofFn (fun i => (pr i.val).2.1)
    p := Vector.ofFn (fun i => if i.val = 7 then BitVec.ofNat 14 (d.p7Base g) else 0#14)
    fst := BitVec.ofNat 32 (pres + (if ho then 256 else 0) + 512 * j + 65536 * (g % 64))
    pc := BitVec.ofNat 13 (d.get .SLOT_ENTRY_ENTRY g) }

/-- Loads a ready firing into bank j of cell c. -/
def Dev.loadBank (d : Dev) (c j : Nat) (r : ReadyF) : Dev :=
  let d := { d with readyq := d.readyq.erase r }
  let (bk, d) := match r.displaced with
    | some b =>
      ({ b with fst := setBit b.fst 9 (decide (j = 1)), pc := BitVec.ofNat 13 (d.get .SLOT_ENTRY_ENTRY r.slot),
                p := b.p.set 7 (BitVec.ofNat 14 (d.p7Base r.slot)) }, d)
    | none =>
      let ops := (d.entry r.slot r.tick).elim [] Entry.ops
      (d.freshBank r.slot r.tick j ops,
       (d.consumeEntry r.slot (d.isHandover r.slot r.tick) ops).freeEntry r.slot r.tick)
  let d := ((d.setBank c j bk).setLoaded c j true).setFate r.slot r.tick .inBank
  if c % 6 = 5 then d.put .x_SUB_WIN (c / 6) 0 else d

/-- Whether ready firing a comes before b in the queue (R83). -/
def Dev.before (d : Dev) (a b : ReadyF) : Bool :=
  let pa := d.get .SLOT_CTL_PRIO a.slot
  let pb := d.get .SLOT_CTL_PRIO b.slot
  let fa := if a.displaced.isSome then 0 else 1
  let fb := if b.displaced.isSome then 0 else 1
  decide (pa < pb) || (decide (pa = pb) && (decide (fa < fb) || (decide (fa = fb) &&
    (decide (a.since < b.since) || (decide (a.since = b.since) && decide (a.slot < b.slot))))))

/-- The head of a cell's ready queue; firings past their cut-off are no longer in it (R82). -/
def Dev.queueHead (d : Dev) (c : Nat) : Option ReadyF :=
  (d.readyq.filter (fun r => decide (d.servingCell r.slot = c) && decide (d.now ≤ d.cutoffAt r.slot r.tick))).foldl
    (fun best r => match best with
      | none => some r
      | some x => if d.before r x then some r else some x) none

/-- DISPATCH (R39, R83, R334). When both banks are empty the spec does not say which one is loaded: a free value. -/
def Dev.dispatch (d : Dev) (c : Nat) : Dev :=
  if d.loopRuns && !d.on .C_STAT_FAULTED c && !d.on .x_HB_DRAIN 0 then
    match d.queueHead c with
    | none => d
    | some r =>
      if d.on .x_RUNB c then
        let j := 1 - d.actBank c
        if !d.loaded c j then d.loadBank c j r
        else
          let o := d.bank c j
          if !o.started && !o.preempted && decide (d.get .SLOT_CTL_PRIO r.slot < d.get .SLOT_CTL_PRIO o.slot) &&
             decide (d.now < d.cutoffAt o.slot o.tick) then
            let r0 : ReadyF := { slot := o.slot, tick := o.tick, since := 0, displaced := some o }
            let d : Dev := { d with readyq := d.readyq ++ [r0] }
            d.loadBank c j r
          else d
      else
        let (v, d) := d.fresh
        let j := v % 2
        ((d.loadBank c j r).put .C_STAT_ACT c j).put .x_RUNB c 1
  else d

/-- PREEMPTION (R40). -/
def Dev.preempt (d : Dev) (c : Nat) : Dev :=
  if d.atBoundary c && d.mustPreempt c then
    let a := d.actBank c
    let b := d.bank c a
    (d.setBank c a { b with preempted := true, hz := { d := [], a := [], ad := [] } }).put .C_STAT_ACT c (1 - a)
  else d

/-! Withdrawal and the cut-off. -/

/-- Withdraws a firing that is not in a bank: its tokens are consumed UNUSED, its entry and its place in the queue freed (R82). -/
def Dev.withdraw (d : Dev) (g n : Nat) : Dev :=
  let ops := (d.entry g n).elim [] Entry.ops
  let d := ops.foldl (fun d o => d.consumeUnused g o.k o.val o.qual) d
  let d := d.freeEntry g n
  { d with readyq := d.readyq.filter (fun r => !(decide (r.slot = g) && decide (r.tick = n))) }

/-- DEADLINE_MISS (R82, R94). -/
def Dev.deadlineMiss (d : Dev) (g : Nat) : Dev :=
  match dueTick d.now (d.period g) (d.get .SLOT_TIME_TOFF g) (4 * d.get .SLOT_PH_SPHASE g + 4 * d.get .SLOT_PH_OPHASE g - 59) with
  | none => d
  | some n =>
    if d.loopRuns && d.on .SLOT_CTL_EN g && decide (d.firstFiring g ≤ n) && decide (d.get .x_SLOT_MISSD g ≤ n) &&
       decide (d.fate g n ≠ some .inTime) then
      let d := ((d.bump .SLOT_MISS g 1).put .x_SLOT_MISSD g (n + 1)).report 1 (srcOf 1 1 (g / 64)) 0x10 g
      let displaced := d.readyq.any (fun r => decide (r.slot = g) && decide (r.tick = n))
      if (d.fate g n).isNone || displaced then (d.withdraw g n).setFate g n .missed else d
    else d

/-! Output stages (R89 to R95, R99, R100, R390). -/

/-- Instances of a one-bit field with Reset value 0 that read 1, in ascending order. -/
def Dev.instOn (d : Dev) (f : F) : List Nat := d.regs.filterMap (fun e => if e.1.1 = f then some e.1.2 else none)

/-- Enabled stages owned by a slot, in ascending order. -/
def Dev.owned (d : Dev) (g : Nat) : List Nat := (d.instOn .OS_CFG_EN).filter (fun st => decide (d.get .OS_CFG_OWNER st = g))

/-- Base of link k's registers (R252). -/
def linkBase (k : Nat) : Nat := 0x21300000 + 0x2000 * k

/-- Address of byte i of the output image of station s of link k (R252). -/
def outImage (k s i : Nat) : Nat := linkBase k + 0x800 + 0x100 * s + i

/-- Address of byte i of the input image of station s of link k (R252). -/
def inImage (k s i : Nat) : Nat := linkBase k + 0x1000 + 0x100 * s + i

/-- A station-field stage's value enters the station's output image (R90, R92); bytes beyond the output area are not written. -/
def Dev.stageToImage (d : Dev) (st : Nat) : Dev :=
  if st < 0x400 then d
  else
    let k := d.get .OS_MAP_LINK st
    let s := d.get .OS_MAP_STATION st
    let off := d.get .OS_MAP_OFFSET st
    let v := d.stageVal st
    forN (2 ^ d.get .OS_MAP_WIDTH st) (fun d i =>
      if off + i < d.get .STN_LEN_OLEN (8 * k + s) then d.setByte (outImage k s (off + i)) (BitVec.ofNat 8 (v / 256 ^ i)) else d) d

/-- A stage writes a value and its QUAL. -/
def Dev.stageWrite (d : Dev) (st v q : Nat) : Dev :=
  let d := ((d.put .OS_VAL st v).put .OS_STAT_QUAL st q).put .x_OS_WAT st d.now
  ((d.put .OS_STAT_HELD st 0).put .OS_STAT_SAFE_ACT st 0).stageToImage st

/-- A stage writes its SAFE value, which ends a blend (R94, R100). -/
def Dev.stageSafe (d : Dev) (st : Nat) : Dev :=
  let d := ((d.put .OS_VAL st (d.get .OS_SAFE st)).put .OS_STAT_QUAL st 0x10).put .x_OS_WAT st d.now
  let d := (d.put .OS_STAT_HELD st 0).put .OS_STAT_SAFE_ACT st 1
  ((d.put .OS_STAT_BLENDING st 0).put .x_OS_STEP st 0).stageToImage st

/-- A stage keeps its value at an output instant (R94). -/
def Dev.stageHold (d : Dev) (st : Nat) : Dev :=
  (d.put .OS_STAT_HELD st 1).put .OS_STAT_QUAL st (d.stageQual st ||| 0x10)

/-- The blended value and whether it differs from the new one (R100). `step` is none where it is unlimited. -/
def blend (ty vold vnew : Nat) (step : Option Nat) : Nat × Bool :=
  if ty = 1 then
    let dd := (f32.sub vnew vold).1
    let dl := match step with
      | none => dd
      | some st =>
        let neg := (st + 2 ^ 31) % 2 ^ 32
        let d1 := if (f32.cmp st dd).1.2.1 then st else dd
        if (f32.cmp d1 neg).1.2.1 then neg else d1
    let v := (f32.add vold dl).1
    (v, !(f32.cmp v vnew).1.1)
  else
    let dd : Int := if ty = 3 then sNat 32 (vnew + 2 ^ 32 - vold) else sNat 32 vnew - sNat 32 vold
    let dl := match step with
      | none => dd
      | some st => clampI dd st
    let v := uInt 32 (sNat 32 vold + dl)
    (v, decide (v ≠ vnew))

/-- A stage writes a firing's value, blended where R100 applies. -/
def Dev.stageFiring (d : Dev) (st n v q : Nat) : Dev :=
  let due := d.get .x_OS_STEP st
  if d.on .OS_CFG_BLEND st && decide (due ≠ 0) && decide (d.get .x_OS_SWT st ≤ n) then
    let step := if due = 1 then some (d.get .OS_HLIM st) else if d.get .OS_HRATE st = 0 then none else some (d.get .OS_HRATE st)
    let r := blend (d.get .OS_CFG_TYPE st) (d.stageVal st) v step
    (((d.stageWrite st r.1 q).flag .OS_STAT_BLENDING st r.2).put .x_OS_STEP st (if r.2 then 2 else 0))
  else (d.stageWrite st v q).put .OS_STAT_BLENDING st 0

/-- The force entry of a stage, the lowest enabled one (R390). -/
def Dev.stageForce (d : Dev) (st : Nat) : Option Nat :=
  (firstBelow 32 (fun i => d.on .FORCE_CTL_EN i && decide (d.get .FORCE_CTL_KEY i = 0x1000 + st))).map (d.get .FORCE_VAL)

/-- What the stages of a slot do at an output instant. -/
inductive OutAct where
  | firing
  | hold
  | safe
  deriving DecidableEq, Repr

/-- One owned stage at the owner's output instant. -/
def Dev.stageInstant (d : Dev) (g n : Nat) (a : OutAct) (st : Nat) : Dev :=
  match d.stageForce st with
  | some v => d.stageWrite st v 0x80
  | none =>
    match a with
    | .hold => d.stageHold st
    | .safe => d.stageSafe st
    | .firing =>
      match d.stageVals.find? (fun x => decide (x.stage = st) && decide (x.slot = g) && decide (x.tick = n)) with
      | some x => d.stageFiring st n x.val.toNat x.qual.toNat
      | none => d.put .OS_STAT_HELD st 1

/-- Stages owned by any slot of a block. -/
def Dev.ownedByBlock (d : Dev) (b : Nat) : List Nat :=
  (d.instOn .OS_CFG_EN).filter (fun st => decide (d.get .OS_CFG_OWNER st / 64 = b) && d.on .SLOT_CTL_EN (d.get .OS_CFG_OWNER st))

/-- DPOL in effect for a missed firing: STOP acts as HOLD for a moved slot during a substitution (R317). -/
def Dev.dpol (d : Dev) (g : Nat) : Nat :=
  let p := d.get .SLOT_POL_DPOL g
  if p = 2 ∧ d.on .x_SUB_WIN (g / 64) ∧ d.get .SPARE_FROM (g / 64) = d.get .SLOT_CTL_CELL g then 0 else p

/-- What an output instant does, from the miss (R94) and the signalled program-region stop (R95). -/
def Dev.outAct (d : Dev) (g : Nat) (missed : Bool) : OutAct :=
  let lsp := if d.on .x_LSPSIG 0 then d.get .SLOT_POL_LSP g else 0
  if (missed && decide (d.dpol g = 1)) || decide (lsp = 2) then .safe
  else if missed || decide (lsp = 1) then .hold
  else .firing

/-- OUTPUT_INSTANT (R91, R94, R95, R316). -/
def Dev.outputInstant (d : Dev) (g : Nat) : Dev :=
  match dueTick d.now (d.period g) (d.get .SLOT_TIME_TOFF g) (4 * d.get .SLOT_PH_SPHASE g + 4 * d.get .SLOT_PH_OPHASE g) with
  | none => d
  | some n =>
    if d.loopRuns && d.on .x_SLOT_SAFE g then
      if d.get .x_SLOT_SAFE g ≤ d.outputAt g n then ((d.owned g).foldl Dev.stageSafe d).put .x_SLOT_SAFE g 0 else d
    else if d.loopRuns && d.on .SLOT_CTL_EN g && decide (d.firstFiring g ≤ n) && decide (d.get .x_SLOT_OUTD g ≤ n) then
      let missed := decide (d.fate g n ≠ some .inTime)
      let b := g / 64
      let d1 :=
        if missed && decide (d.dpol g = 2) && !d.on .x_BLK_STOP b then
          let d1 := (d.ownedByBlock b).foldl Dev.stageSafe d
          (((d1.put .x_BLK_STOP b 1).put .x_BLK_STICK b d.tick).report 2 (srcOf 1 1 b) 0x11 g)
        else if d.on .x_BLK_STOP b then d
        else (d.owned g).foldl (fun d' st =>
          let d2 : Dev := d'.stageInstant g n (d.outAct g missed) st
          if d2.get .x_OS_WAT st = d.now then d2.put .x_OS_WAT st (d.outputAt g n) else d2) d
      let d2 := { d1 with stageVals := d1.stageVals.filter (fun x => !(decide (x.slot = g) && decide (x.tick ≤ n))) }
      let d3 := if d2.fate g n = some .inBank then d2 else d2.dropFate g n
      d3.put .x_SLOT_OUTD g (n + 1)
    else d

/-- TOKEN_AT_OUTPUT_STAGE: the network's k-th token reaches its stage (R91, R93). -/
def Dev.tokenAtStage (d : Dev) (k : Nat) : Dev :=
  if d.held 0 then d
  else match d.arrival k (fun f => decide (f.tok.dest.toNat / 4096 = 1)) with
    | none => d
    | some f =>
      let st := f.tok.dest.toNat % 4096
      let d := { d with net := d.net.eraseIdx k }
      let d := if f.tok.ty.toNat = tyCode (d.get .OS_CFG_TYPE st) then d else d.bumpSat .OS_TMM st
      let fromCell := match f.prod with
        | .cell _ => true
        | _ => false
      if !d.on .OS_CFG_EN st || !fromCell || decide (f.slot ≠ d.get .OS_CFG_OWNER st) || !d.on .SLOT_CTL_EN f.slot then
        d.bumpSat .OS_STAT_NOTOWN st
      else if d.now > d.cutoffAt f.slot f.tick then d.bumpSat .OS_STAT_LATE st
      else
        { d with stageVals := d.stageVals.filter (fun x => !(decide (x.stage = st) && decide (x.slot = f.slot) && decide (x.tick = f.tick)))
            ++ [{ stage := st, slot := f.slot, tick := f.tick, val := f.tok.val, qual := f.tok.qual }] }

/-! Requests and admission (R73 to R76, R84, R85, R400). -/

/-- A write of 1 to REQ_EN. -/
def Dev.reqEn (d : Dev) (g : Nat) : Dev :=
  if d.held 0 || d.on .SLOT_CTL_BUSY g then d
  else if d.slotEn g then (d.put .SLOT_CTL_REFUSE g 0x0A).put .SLOT_CTL_REF_SLOT g (g % 64)
  else { (d.put .SLOT_CTL_REQ_EN g 1).put .SLOT_CTL_BUSY g 1 with admq := d.admq ++ [g] }

/-- A write of 1 to REQ_SWAP. -/
def Dev.reqSwap (d : Dev) (g : Nat) : Dev :=
  if d.held 0 || d.on .SLOT_CTL_BUSY g then d
  else if !d.slotEn g then (d.put .SLOT_CTL_REFUSE g 0x0A).put .SLOT_CTL_REF_SLOT g (g % 64)
  else { (d.put .SLOT_CTL_REQ_SWAP g 1).put .SLOT_CTL_BUSY g 1 with admq := d.admq ++ [g] }

/-- A write of 1 to REQ_DIS: without effect on a disabled slot, held while a check runs or EN does not read 1 yet. -/
def Dev.reqDis (d : Dev) (g : Nat) : Dev :=
  if !d.held 0 && (d.slotEn g || d.on .SLOT_CTL_BUSY g) then (d.put .SLOT_CTL_REQ_DIS g 1).put .x_SLOT_DTICK g d.tick else d

/-- Several request bits in one write (R76). -/
def Dev.reqBits (d : Dev) (g : Nat) (en dis swap : Bool) : Dev :=
  if dis then d.reqDis g
  else if en && swap then
    if d.held 0 || d.on .SLOT_CTL_BUSY g then d else (d.put .SLOT_CTL_REFUSE g 0x0A).put .SLOT_CTL_REF_SLOT g (g % 64)
  else if en then d.reqEn g
  else if swap then d.reqSwap g
  else d

/-- The declared figures of a slot in an admission check. -/
structure Fig where
  slot : Nat
  prio : Nat
  period : Nat
  oph : Nat
  arr : Nat
  wcet : Nat
  long : Nat
  deriving DecidableEq, Repr

/-- The figures of slot j, with the new ones for the candidate. -/
def Dev.fig (d : Dev) (cand : Option Nat) (j : Nat) : Fig :=
  let isC := decide (cand = some j)
  { slot := j, prio := d.get .SLOT_CTL_PRIO j, period := d.period j, oph := d.get .SLOT_PH_OPHASE j, arr := d.get .SLOT_ARR j,
    wcet := if isC then d.get .SLOT_WNEW j else d.get .SLOT_WCET_WCET j,
    long := if isC then d.get .SLOT_LONG_LONG_NEW j else d.get .SLOT_LONG_LONG j }

/-- Enabled slots pinned to cell c of block b, and the candidate, in ascending order (R85). -/
def Dev.cellSet (d : Dev) (b c : Nat) (cand : Option Nat) : List Nat :=
  ((List.range 64).map (fun l => 64 * b + l)).filter (fun j => decide (cand = some j) || (d.slotEn j && decide (d.get .SLOT_CTL_CELL j = c)))

/-- The load of R85. -/
def loadOf (fs : List Fig) : Nat := (fs.map (fun f => ceilDiv ((f.wcet + 8) * 64) f.period)).sum

/-- The latency bound of slot i in ps (R85). -/
def latencyOf (cell : Nat) (fs : List Fig) (i : Fig) : Nat :=
  let blk := (fs.filter (fun j => decide (j.prio > i.prio))).foldl (fun m j => max m j.long) 0
  let intf := ((fs.filter (fun j => decide (j.slot ≠ i.slot) && decide (j.prio ≤ i.prio))).map (fun j =>
    (if j.prio < i.prio then 1 + ceilDiv (i.oph * 4000) (j.period * 1000000) else 1) * (j.wcet + 8))).sum
  let arr := if cell = 4 then 240000 else max (i.arr * 4000) 88000
  arr + (8 + blk + 4 + intf + i.wcet) * 2011 + 60000

/-- Whether two comet slots keep 700 ns between all their sample instants (R101). -/
def Dev.cometApart (d : Dev) (g h : Nat) : Bool :=
  let G : Int := (Nat.gcd (d.period g) (d.period h) * 1000 : Nat)
  let r := (((d.get .SLOT_TIME_TOFF g : Int) - d.get .SLOT_TIME_TOFF h) * 1000 +
    4 * ((d.get .SLOT_PH_SPHASE g : Int) - d.get .SLOT_PH_SPHASE h)) % G
  decide (700 ≤ r) && decide (700 ≤ G - r)

/-- The cascade rules of R96. -/
def Dev.cascadeOk (d : Dev) (g : Nat) : Bool :=
  let i := d.get .SLOT_POL_INNER g
  let po := d.period g
  let pin := d.period i
  let x : Int := (d.get .SLOT_PH_SPHASE g : Int) + d.get .SLOT_PH_OPHASE g - d.get .SLOT_PH_SPHASE i
  d.slotEn i && decide (po % pin = 0) && decide (1 ≤ po / pin) && decide (po / pin ≤ 256) && decide (0 ≤ x) && decide (x % 250 = 0) &&
  decide (((d.get .SLOT_TIME_TOFF g : Int) + x / 250 - d.get .SLOT_TIME_TOFF i) % (pin : Int) = 0)

/-- The admission check: the reason code and the slot concerned; code 0 passes (R84). -/
def Dev.admission (d : Dev) (g : Nat) (swap : Bool) : Nat × Nat :=
  let b := g / 64
  let l := g % 64
  let c := d.get .SLOT_CTL_CELL g
  let oph := d.get .SLOT_PH_OPHASE g
  let ids := d.cellSet b c (some g)
  let fs := ids.map (d.fig (some g))
  let other := if l = 62 then g + 1 else g - 1
  let slen := (ids.map (d.get .SLOT_STATE_SLEN)).sum
  let servedByC5 := swap && d.on .SPARE_SUBST b && decide (d.get .SPARE_FROM b = c)
  if d.get .SLOT_PH_SPHASE g > 249 ∨ d.get .SLOT_TIME_TOFF g ≥ d.period g ∨ oph < 125 ∨ oph > 250 * d.period g then (1, l)
  else if c > 4 ∨ (c = 4 ∧ l < 62) ∨ (d.on .C_STAT_FAULTED (6 * b + c) ∧ !servedByC5) then (2, l)
  else if !(List.range 8).any (d.opReq g) || (List.range 8).any (fun k => d.opReq g k && !d.opUsed g k) then (3, l)
  else if d.get .SLOT_STATE_SBASE g + d.get .SLOT_STATE_SLEN g > 16384 ∨ slen > 3072 then (4, l)
  else if c = 4 ∧ (oph ≠ 250 ∨ d.get .SLOT_WNEW g > 300 ∨
      (d.slotEn other ∧ d.get .SLOT_CTL_CELL other = 4 ∧ !d.cometApart g other)) then (5, l)
  else if d.on .SLOT_POL_CASC g ∧ !d.cascadeOk g then (6, l)
  else if loadOf fs > 28608 then (7, l)
  else match fs.find? (fun i => decide (latencyOf c fs i > i.oph * 4000)) with
    | some i => (8, i.slot % 64)
    | none => (0, 0)

/-- Writes Cc_LOAD of the cell a slot is pinned to (R87). -/
def Dev.putLoad (d : Dev) (b c : Nat) : Dev := d.put .C_LOAD (6 * b + c) (loadOf ((d.cellSet b c none).map (d.fig none)))

/-- A check passed for REQ_EN: the figures take effect; EN follows at the next tick (R73, R400). -/
def Dev.passEnable (d : Dev) (g : Nat) : Dev :=
  let d := ((d.put .SLOT_ENTRY_ENTRY g (d.get .SLOT_ENTRY_ENTRY_NEW g)).put .SLOT_WCET_WCET g (d.get .SLOT_WNEW g)).put .SLOT_LONG_LONG g (d.get .SLOT_LONG_LONG_NEW g)
  let d := ((d.put .x_SLOT_PASS g 1).put .x_SLOT_PTICK g d.tick).put .x_SLOT_FIRST g (d.tick + 1)
  let d := forN 8 (fun d k => (d.put .x_LASTV (8 * g + k) 0).put .x_LASTQ (8 * g + k) 1) d
  d.putLoad (g / 64) (d.get .SLOT_CTL_CELL g)

/-- A check passed for REQ_SWAP: the new figures wait for the next tick (R75). -/
def Dev.passSwap (d : Dev) (g : Nat) : Dev :=
  let d := ((d.put .x_SLOT_SWAP g 1).put .x_SLOT_PTICK g d.tick).put .x_SWAP_E g (d.get .SLOT_ENTRY_ENTRY_NEW g)
  (d.put .x_SWAP_W g (d.get .SLOT_WNEW g)).put .x_SWAP_L g (d.get .SLOT_LONG_LONG_NEW g)

/-- ADMISSION_CHECK: the check at the front of a block's queue runs and ends (R73, R84). -/
def Dev.admissionCheck (d : Dev) (b : Nat) : Dev :=
  if d.held 0 || !d.clocked then d
  else match d.admq.find? (fun g => decide (g / 64 = b)) with
    | none => d
    | some g =>
      let swap := d.on .SLOT_CTL_REQ_SWAP g
      let r := d.admission g swap
      let d := { d with admq := d.admq.erase g }
      let d := (d.put .SLOT_CTL_REFUSE g r.1).put .SLOT_CTL_REF_SLOT g r.2
      let d := ((d.put .SLOT_CTL_REQ_EN g 0).put .SLOT_CTL_REQ_SWAP g 0).put .SLOT_CTL_BUSY g 0
      let d := if swap then d.put .x_SLOT_DTICK g d.tick else d
      if r.1 = 0 then (if swap then d.passSwap g else d.passEnable g)
      else if swap then d else d.put .SLOT_CTL_REQ_DIS g 0

/-- The mirror of a block must be rebuilt (R315). -/
def Dev.mirrorStale (d : Dev) (b : Nat) : Dev := d.put .SPARE_MIRROK b 0

/-- SLOT_ENABLE: the first tick after a passed enable check (R73). -/
def Dev.slotEnable (d : Dev) (g : Nat) : Dev :=
  if !d.held 0 && d.clocked && d.on .x_SLOT_PASS g && decide (d.get .x_SLOT_PTICK g < d.tick) then
    let d := ((d.put .SLOT_CTL_EN g 1).put .x_SLOT_PASS g 0).put .x_SLOT_FIRST g d.tick
    (if d.on .SLOT_CTL_REQ_DIS g then d.put .x_SLOT_DTICK g d.tick else d).mirrorStale (g / 64)
  else d

/-- Disables a slot: firings not in a bank are withdrawn, owned stages hold (R74). -/
def Dev.disable (d : Dev) (g : Nat) : Dev :=
  let ticks := (d.entries.filter (fun e => decide (e.slot = g))).map Entry.tick ++ (d.readyq.filter (fun r => decide (r.slot = g))).map ReadyF.tick
  let d := ticks.foldl (fun d n => d.withdraw g n) d
  let d := (d.owned g).foldl (fun d st => d.put .OS_STAT_HELD st 1) d
  let d := (((d.put .SLOT_CTL_EN g 0).put .x_SLOT_PASS g 0).put .x_SLOT_SWAP g 0).put .SLOT_CTL_REQ_DIS g 0
  let d := { d with fates := d.fates.filter (fun f => !(decide (f.slot = g) && decide (f.kind ≠ FateKind.inBank))) }
  (d.putLoad (g / 64) (d.get .SLOT_CTL_CELL g)).mirrorStale (g / 64)

/-- SLOT_DISABLE: the first tick after REQ_DIS, or after a held one may act (R74). -/
def Dev.slotDisable (d : Dev) (g : Nat) : Dev :=
  if !d.held 0 && d.clocked && d.on .SLOT_CTL_REQ_DIS g && d.on .SLOT_CTL_EN g && !d.on .SLOT_CTL_BUSY g &&
     decide (d.get .x_SLOT_DTICK g < d.tick) then d.disable g
  else d

/-- SWAP_TAKES_EFFECT: the first tick after a passed swap check (R75). -/
def Dev.swapEffect (d : Dev) (g : Nat) : Dev :=
  if !d.held 0 && d.clocked && d.on .x_SLOT_SWAP g && d.on .SLOT_CTL_EN g && decide (d.get .x_SLOT_PTICK g < d.tick) then
    let d := ((d.put .SLOT_ENTRY_ENTRY g (d.get .x_SWAP_E g)).put .SLOT_WCET_WCET g (d.get .x_SWAP_W g)).put .SLOT_LONG_LONG g (d.get .x_SWAP_L g)
    (d.put .x_SLOT_SWAP g 0).putLoad (g / 64) (d.get .SLOT_CTL_CELL g)
  else d

/-- Disables every slot of a block with a REFUSE code (R94, R313). -/
def Dev.disableBlock (d : Dev) (b code : Nat) : Dev :=
  forN 64 (fun d l =>
    let g := 64 * b + l
    if d.slotEn g then ((d.disable g).put .SLOT_CTL_REFUSE g code).put .SLOT_CTL_REF_SLOT g l else d) d

/-- BLOCK_STOP: the tick after a miss under DPOL STOP (R94). -/
def Dev.blockStop (d : Dev) (b : Nat) : Dev :=
  if d.loopRuns && d.on .x_BLK_STOP b && decide (d.get .x_BLK_STICK b < d.tick) then
    (d.disableBlock b 0x09).put .x_BLK_STOP b 0
  else d

/-! Registers of the store. -/

/-- Captures values for the reads that follow (R394). -/
def Dev.capture (d : Dev) (l : List (F × Nat × Nat)) : Dev :=
  { d with caps := l.foldl (fun m e => mapSet ltReg (e.1, e.2.1) (some e.2.2) m) d.caps }

/-- The captured copy of a field, or its Reset value (R394). -/
def Dev.captured (d : Dev) (f : F) (i : Nat) : Nat := (mapFind (f, i) d.caps).getD (f.resetAt i)

/-- A write of 1 to FULLSEEN (R106). -/
def Dev.fullseenClear (d : Dev) (b : Nat) : Dev := (d.put .MS_STAT_FULLSEEN b 0).put .MS_STAT_PEAK b (d.pendingOf b)

/-- A read of TOK_IN (R107). -/
def Dev.tokInRead (d : Dev) (g : Nat) : Dev :=
  d.capture [(.TOK_USED, g, d.get .TOK_USED g), (.TOK_UNUSED, g, d.get .TOK_UNUSED g),
    (.SLOT_PEND_TYPE_MM, g, d.get .SLOT_PEND_TYPE_MM g), (.SLOT_PEND_PEND, g, d.pendTokens g)]

/-! The commands. -/

/-- TOKEN_ACCEPTED (R77, R78, R105). -/
def execTokenAccepted (b : Fin 4) (k : Nat) (s : State) := act s (fun d => d.tokenAccepted b k)
/-- STALLED_TOKEN_ACCEPTED (R105). -/
def execStalledTokenAccepted (b : Fin 4) (s : State) := act s (fun d => d.stalledTokenAccepted b)
/-- COMET_LANE_RELEASE (R101). -/
def execCometLaneRelease (g : Fin 256) (s : State) := act s (fun d => d.cometLaneRelease g)
/-- HANDOVER_ENTRY (R79, R99). -/
def execHandoverEntry (g : Fin 256) (s : State) := act s (fun d => d.handoverEntry g)
/-- DISPATCH (R83). -/
def execDispatch (c : Fin 24) (s : State) := act s (fun d => d.dispatch c)
/-- PREEMPTION (R40). -/
def execPreemption (c : Fin 24) (s : State) := act s (fun d => d.preempt c)
/-- DEADLINE_MISS (R94). -/
def execDeadlineMiss (g : Fin 256) (s : State) := act s (fun d => d.deadlineMiss g)
/-- OUTPUT_INSTANT (R91). -/
def execOutputInstant (g : Fin 256) (s : State) := act s (fun d => d.outputInstant g)
/-- TOKEN_AT_OUTPUT_STAGE (R91). -/
def execTokenAtOutputStage (k : Nat) (s : State) := act s (fun d => d.tokenAtStage k)
/-- BLOCK_STOP (R94). -/
def execBlockStop (b : Fin 4) (s : State) := act s (fun d => d.blockStop b)
/-- REQ_EN (R73, R76). -/
def execReqEn (g : Fin 256) (s : State) := act s (fun d => d.reqEn g)
/-- REQ_DIS (R74, R76). -/
def execReqDis (g : Fin 256) (s : State) := act s (fun d => d.reqDis g)
/-- REQ_SWAP (R75, R76). -/
def execReqSwap (g : Fin 256) (s : State) := act s (fun d => d.reqSwap g)
/-- ADMISSION_CHECK (R84). -/
def execAdmissionCheck (b : Fin 4) (s : State) := act s (fun d => d.admissionCheck b)
/-- SLOT_ENABLE (R73). -/
def execSlotEnable (g : Fin 256) (s : State) := act s (fun d => d.slotEnable g)
/-- SLOT_DISABLE (R74). -/
def execSlotDisable (g : Fin 256) (s : State) := act s (fun d => d.slotDisable g)
/-- SWAP_TAKES_EFFECT (R75). -/
def execSwapTakesEffect (g : Fin 256) (s : State) := act s (fun d => d.swapEffect g)
/-- MS_STAT_FULLSEEN_CLEAR (R106). -/
def execMsStatFullseenClear (b : Fin 4) (s : State) := act s (fun d => d.fullseenClear b)
/-- TOK_IN_READ (R107). -/
def execTokInRead (g : Fin 256) (s : State) := act s (fun d => d.tokInRead g)

end Sys2Proof.Machine
end

