-- ==== Sys2Proof/Machine/Flags.lean ====
section
/-!
DEFINITION. Status registers of the cell and task profiles (R38, R109): the flag computations of R44 to R46, R66 to R68 and the
condition codes of R47.
-/

namespace Sys2Proof.Machine

/-- SR bit numbers (R38, R109). -/
def srV : Nat := 0
/-- Carry. -/
def srC : Nat := 1
/-- Zero. -/
def srZ : Nat := 2
/-- Negative. -/
def srN : Nat := 3
/-- Inexact. -/
def srFNX : Nat := 6
/-- Underflow. -/
def srFUF : Nat := 7
/-- Overflow. -/
def srFOF : Nat := 8
/-- Division by zero. -/
def srFDZ : Nat := 9
/-- Invalid operation. -/
def srFIV : Nat := 10
/-- Accumulator wrapped. -/
def srAV : Nat := 11
/-- Saturated. -/
def srSV : Nat := 12
/-- Test flag. -/
def srT : Nat := 13
/-- End of packet (task). -/
def srEOP : Nat := 14
/-- Timed out (task). -/
def srTO : Nat := 15

/-- A bit of a word. -/
def bitOf {w : Nat} (x : BitVec w) (i : Nat) : Bool := x.getLsbD i

/-- Sets a sticky bit when a condition holds. -/
def stick (sr : Word) (i : Nat) (b : Bool) : Word := if b then setBit sr i true else sr

/-- N and Z from a result. -/
def setNZ {w : Nat} (sr : Word) (r : BitVec w) : Word := setBit (setBit sr srN r.msb) srZ (decide (r = 0#w))

/-- C and V. -/
def setCV (sr : Word) (c v : Bool) : Word := setBit (setBit sr srC c) srV v

/-- The result of an ALU function: the value, C and V where it writes them, whether it saturated. -/
structure AluOut (w : Nat) where
  res : BitVec w
  cv : Option (Bool × Bool)
  sat : Bool
  deriving DecidableEq, Repr

/-- SR after an ALU function (R44, R66). -/
def aluSr {w : Nat} (sr : Word) (o : AluOut w) : Word :=
  let sr := setNZ sr o.res
  let sr := match o.cv with
    | some (c, v) => setCV sr c v
    | none => sr
  stick sr srSV o.sat

/-- SR after a floating-point function: the sticky exception bits (R68). -/
def fpSr (sr : Word) (f : FFlags) : Word :=
  stick (stick (stick (stick (stick sr srFIV f.iv) srFDZ f.dz) srFOF f.ov) srFUF f.uf) srFNX f.nx

/-- SR after FCMP: Z equal, N less, V unordered, C 0 (R46). -/
def fcmpSr (sr : Word) (r : (Bool × Bool × Bool) × FFlags) : Word :=
  fpSr (setCV (setBit (setBit sr srZ r.1.1) srN r.1.2.1) false r.1.2.2) r.2

/-- Legal condition codes (R47). -/
def condLegal (c : BitVec 4) : Bool := decide (c.toNat ≤ 0xC)

/-- The condition codes of R47. -/
def condHolds (sr : Word) (c : BitVec 4) : Bool :=
  let n := bitOf sr srN
  let z := bitOf sr srZ
  let v := bitOf sr srV
  let cc := bitOf sr srC
  let t := bitOf sr srT
  match c.toNat with
  | 0x0 => true
  | 0x1 => z
  | 0x2 => !z
  | 0x3 => n != v
  | 0x4 => n == v
  | 0x5 => !z && (n == v)
  | 0x6 => z || (n != v)
  | 0x7 => cc
  | 0x8 => !cc
  | 0x9 => t
  | 0xA => !t
  | 0xB => n
  | 0xC => !n
  | _ => false

/-! The functions of R44, at any width. -/

/-- No C and V. -/
def plain {w : Nat} (r : BitVec w) : AluOut w := { res := r, cv := none, sat := false }

/-- ADD. -/
def opAdd {w : Nat} (a b : BitVec w) : AluOut w := let o := addOut a b; { res := o.res, cv := some (o.c, o.v), sat := false }
/-- SUB. -/
def opSub {w : Nat} (a b : BitVec w) : AluOut w := let o := subOut a b; { res := o.res, cv := some (o.c, o.v), sat := false }
/-- ADDS: the saturated sum; C and V as for the wrapping sum. -/
def opAdds {w : Nat} (a b : BitVec w) : AluOut w :=
  let o := addOut a b
  let r := satS w (a.toInt + b.toInt)
  { res := r.1, cv := some (o.c, o.v), sat := r.2 }
/-- SUBS. -/
def opSubs {w : Nat} (a b : BitVec w) : AluOut w :=
  let o := subOut a b
  let r := satS w (a.toInt - b.toInt)
  { res := r.1, cv := some (o.c, o.v), sat := r.2 }
/-- AND. -/
def opAnd {w : Nat} (a b : BitVec w) : AluOut w := plain (a &&& b)
/-- OR. -/
def opOr {w : Nat} (a b : BitVec w) : AluOut w := plain (a ||| b)
/-- XOR. -/
def opXor {w : Nat} (a b : BitVec w) : AluOut w := plain (a ^^^ b)
/-- MIN. -/
def opMin {w : Nat} (a b : BitVec w) : AluOut w := plain (if a.toInt ≤ b.toInt then a else b)
/-- MAX. -/
def opMax {w : Nat} (a b : BitVec w) : AluOut w := plain (if a.toInt ≤ b.toInt then b else a)
/-- ABS, saturating. -/
def opAbs {w : Nat} (a : BitVec w) : AluOut w :=
  let r := satS w (a.toInt.natAbs : Int)
  { res := r.1, cv := none, sat := r.2 }
/-- NEG. -/
def opNeg {w : Nat} (a : BitVec w) : AluOut w := opSub 0#w a
/-- NEGS. -/
def opNegs {w : Nat} (a : BitVec w) : AluOut w := opSubs 0#w a
/-- ASR by a count. -/
def opAsr {w : Nat} (a : BitVec w) (n : Nat) : AluOut w := plain (asrW a n)
/-- LSR by a count. -/
def opLsr {w : Nat} (a : BitVec w) (n : Nat) : AluOut w := plain (lsrW a n)
/-- LSL by a count. -/
def opLsl {w : Nat} (a : BitVec w) (n : Nat) : AluOut w := plain (lslW a n)
/-- MUL. -/
def opMul {w : Nat} (a b : BitVec w) : AluOut w := plain (a * b)
/-- MULQ with shift SH (R67). -/
def opMulq (sh : Nat) (a b : Word) : AluOut 32 :=
  let r := satS 32 (rne (a.toInt * b.toInt * 2 ^ sh) (2 ^ 31))
  { res := r.1, cv := none, sat := r.2 }
/-- RCPQ (R67). -/
def opRcpq (a : Word) : AluOut 32 :=
  if a = 0#32 then { res := 0x7FFFFFFF#32, cv := none, sat := true }
  else
    let r := satS 32 (rneInt (2 ^ 46) a.toInt)
    { res := r.1, cv := none, sat := r.2 }

end Sys2Proof.Machine
end

