-- ==== Sys2Proof/Machine/Operands.lean ====
section
/-!
DEFINITION. Operands of the cell profile: register access, the addressing of R37 and R42, data memory (R29, R53, R315), legal
words (R41 to R47), cycle counts (R51) and the issue of an instruction (R48, R50, R52, R59).
-/

namespace Sys2Proof.Machine

/-- Element of a register array. -/
def vget {α : Type} {n : Nat} (v : Vector α n) (i : Nat) (dflt : α) : α := (v[i]?).getD dflt

/-- Writes an element of a register array. -/
def vset {α : Type} {n : Nat} (v : Vector α n) (i : Nat) (x : α) : Vector α n := v.setIfInBounds i x

/-- D register. -/
def Bank.rD (b : Bank) (i : BitVec 4) : Word := vget b.d i.toNat 0#32
/-- Writes a D register. -/
def Bank.wD (b : Bank) (i : BitVec 4) (x : Word) : Bank := { b with d := vset b.d i.toNat x }
/-- Accumulator. -/
def Bank.rA (b : Bank) (i : BitVec 2) : Accu := vget b.a i.toNat 0#80
/-- Writes an accumulator. -/
def Bank.wA (b : Bank) (i : BitVec 2) (x : Accu) : Bank := { b with a := vset b.a i.toNat x }
/-- P register. -/
def Bank.rP (b : Bank) (i : BitVec 3) : BitVec 14 := vget b.p i.toNat 0#14
/-- Writes a P register. -/
def Bank.wP (b : Bank) (i : BitVec 3) (x : BitVec 14) : Bank := { b with p := vset b.p i.toNat x }
/-- Quality tag of operand k. -/
def Bank.rQ (b : Bank) (i : BitVec 3) : Byte := vget b.q i.toNat 0#8

/-- Register of class CL: 0 P, 1 M, 2 L, 3 B (R42). -/
def Bank.rAddr (b : Bank) (cl : BitVec 2) (i : BitVec 3) : BitVec 14 :=
  match cl.toNat with
  | 0 => vget b.p i.toNat 0#14
  | 1 => vget b.m i.toNat 0#14
  | 2 => vget b.l i.toNat 0#14
  | _ => vget b.b i.toNat 0#14

/-- Writes a register of class CL. -/
def Bank.wAddr (b : Bank) (cl : BitVec 2) (i : BitVec 3) (x : BitVec 14) : Bank :=
  match cl.toNat with
  | 0 => { b with p := vset b.p i.toNat x }
  | 1 => { b with m := vset b.m i.toNat x }
  | 2 => { b with l := vset b.l i.toNat x }
  | _ => { b with b := vset b.b i.toNat x }

/-- P modified by M under L and B (R37). -/
def addrMod (p m l b : BitVec 14) : BitVec 14 :=
  let t : Int := (p.toNat : Int) + m.toInt
  let t := if l = 0#14 then t
    else
      let t := if t ≥ (b.toNat : Int) + l.toNat then t - l.toNat else t
      if t < (b.toNat : Int) then t + l.toNat else t
  BitVec.ofInt 14 t

/-- Modifies Pn by Mm (R37). -/
def Bank.modP (b : Bank) (n m : BitVec 3) : Bank :=
  b.wP n (addrMod (b.rP n) (vget b.m m.toNat 0#14) (vget b.l n.toNat 0#14) (vget b.b n.toNat 0#14))

/-- The X and Y addresses of a D-format instruction and the bank after its post-modifies (R42). -/
def Bank.dAddr (b : Bank) (px mx py my : BitVec 3) (ux uy : Bool) : BitVec 14 × BitVec 14 × Bank :=
  let x := b.rP px
  let y := b.rP py
  let b := if ux then b.modP px mx else b
  let b := if uy then b.modP py my else b
  (x, y, b)

/-- The address of an L-format instruction and the bank after its modify (R42). -/
def Bank.lAddr (b : Bank) (p : BitVec 3) (am : BitVec 2) (m : BitVec 3) (ofs : BitVec 14) : BitVec 14 × Bank :=
  match am.toNat with
  | 0 => (b.rP p, b)
  | 1 => (b.rP p, b.modP p m)
  | 2 => (b.rP p + ofs, b)
  | _ => let b := b.modP p m; (b.rP p, b)

/-! Data memory. -/

/-- Base of a cell window (R29). -/
def cellBase (c : Nat) : Nat := 0x10000000 + (c / 6) * 0x1000000 + (c % 6) * 0x200000

/-- Reads a data-memory word. -/
def Dev.dmRead (d : Dev) (c : Nat) (w : BitVec 14) : Word := BitVec.ofNat 32 (d.rd (cellBase c + 4 * w.toNat) 4)

/-- The enabled slot pinned to a cell whose declared state area holds a word (R315). -/
def Dev.areaOf (d : Dev) (c w : Nat) : Option Nat :=
  ((List.range 64).map (fun l => 64 * (c / 6) + l)).find? (fun g =>
    d.slotEn g && decide (d.get .SLOT_CTL_CELL g = c % 6) && decide (d.get .SLOT_STATE_SBASE g ≤ w) &&
    decide (w < d.get .SLOT_STATE_SBASE g + d.get .SLOT_STATE_SLEN g))

/-- The moved slot whose packed mirror area in C5 holds a word (R318). -/
def Dev.mirrorOf (d : Dev) (b w : Nat) : Option Nat :=
  ((List.range 64).map (fun l => 64 * b + l)).find? (fun g =>
    d.slotEn g && decide (d.get .SLOT_CTL_CELL g = d.get .SPARE_FROM b) && decide (d.mirrorBase g ≤ w) &&
    decide (w < d.mirrorBase g + d.get .SLOT_STATE_SLEN g))

/-- Copies a write of a cell's data memory: to the mirror in C5 (R315), or through to a cell being restored (R318). -/
def Dev.mirrorWrite (d : Dev) (c w v : Nat) : Dev :=
  let b := c / 6
  if c % 6 < 5 then
    if d.on .SPARE_MIRROK b then
      match d.areaOf c w with
      | some g => d.wr (cellBase (6 * b + 5) + 4 * (d.mirrorBase g + (w - d.get .SLOT_STATE_SBASE g))) 4 v
      | none => d
    else d
  else if d.on .x_RST_COPY b then
    match d.mirrorOf b w with
    | some g => d.wr (cellBase (6 * b + d.get .SPARE_FROM b) + 4 * (d.get .SLOT_STATE_SBASE g + (w - d.mirrorBase g))) 4 v
    | none => d
  else d

/-- Writes a data-memory word, and its copies. -/
def Dev.dmWrite (d : Dev) (c : Nat) (w : BitVec 14) (v : Word) : Dev :=
  (d.wr (cellBase c + 4 * w.toNat) 4 v.toNat).mirrorWrite c w.toNat v.toNat

/-! Cycle counts (R51). -/

/-- The rows of R51. -/
inductive CyKind where
  | one
  | rcpq
  | twoAccess
  | qmac
  | fp
  | frcp
  | fmac2
  | branch
  | call
  deriving DecidableEq, Repr

/-- Issue cycles in a mode (0 QUAD, 1 DUALF, 2 ECO, 3 COMET); none where the instruction is not available. A branch counts as not
taken here. -/
def CyKind.cycles : CyKind → Nat → Option Nat
  | .one, _ => some 1
  | .branch, _ => some 1
  | .call, _ => some 2
  | .rcpq, _ => some 4
  | .twoAccess, m => some (if m = 2 then 2 else 1)
  | .qmac, m => some (if m = 1 ∨ m = 2 then 2 else 1)
  | .fp, m => if m = 3 then none else some (if m = 1 then 1 else 4)
  | .frcp, m => if m = 3 then none else some (if m = 1 then 4 else 8)
  | .fmac2, m => if m = 1 then some 1 else none

/-! Legal words (R41 to R47). -/

/-- Bits hi to lo of a word. -/
def fld (w hi lo : Nat) : Nat := w / 2 ^ lo % 2 ^ (hi + 1 - lo)

/-- A D-format word whose fields other than F, AC and the X and Y selections are as given: legal modifier and AC fields. -/
def dLegal (mx my ac : Nat) (ux uy : Bool) : Bool :=
  (ux || decide (mx = 0)) && (uy || decide (my = 0)) && decide (ac ≠ 3)

/-- A legal L-format selection (R42). -/
def lLegal (am m ofs : Nat) : Bool :=
  (decide (am = 2) || decide (ofs = 0)) && (decide (am = 1) || decide (am = 3) || decide (m = 0))

/-- The cycle row of a legal cell instruction word and whether REP may repeat it; none for an illegal word. -/
def cellWord (x : Word) : Option (CyKind × Bool) :=
  let w := x.toNat
  let fn := fld w 5 0
  let dd := fld w 25 22
  let da := fld w 21 18
  let db := fld w 17 14
  let z (l : List Nat) : Bool := l.all (fun v => decide (v = 0))
  let ok (b : Bool) (k : CyKind) (r : Bool) : Option (CyKind × Bool) := if b then some (k, r) else none
  let dOk := dLegal (fld w 14 12) (fld w 8 6) (fld w 2 1) (decide (fld w 5 5 = 1)) (decide (fld w 4 4 = 1)) && decide (fld w 0 0 = 0)
  let oneX := z [fld w 11 9, fld w 8 6, fld w 4 4]
  match fld w 31 26 with
  | 0x01 =>
    let sh := fld w 10 6
    if fn > 0x13 ∨ fld w 13 11 ≠ 0 ∨ (fn ≠ 0x11 ∧ sh ≠ 0) ∨ sh > 16 then none
    else if fn = 0x04 then ok (z [dd]) .one false
    else if fn = 0x12 then ok (z [db]) .rcpq false
    else if fn = 0x0A ∨ fn = 0x0B ∨ fn = 0x0C ∨ fn = 0x13 then ok (z [db]) .one false
    else ok true .one false
  | 0x02 => ok true .one false
  | 0x03 => ok (z [da, fld w 17 16]) .one false
  | 0x04 => ok (z [da, fld w 17 16]) .one false
  | 0x05 => ok true .one false
  | 0x06 => ok true .one false
  | 0x08 => ok (lLegal (fld w 18 17) (fld w 16 14) (fld w 13 0)) .one true
  | 0x09 => ok (lLegal (fld w 18 17) (fld w 16 14) (fld w 13 0)) .one true
  | 0x0A => ok (dOk && z [fld w 3 3, fld w 2 1]) .twoAccess true
  | 0x0B => ok (dOk && z [dd, da, fld w 3 3, fld w 2 1]) .twoAccess true
  | 0x10 => ok (dOk && z [dd, da]) .qmac true
  | 0x11 => ok (dOk && oneX && z [dd, da]) .one true
  | 0x12 => ok (dOk && oneX && z [fld w 25 24]) .one true
  | 0x13 => ok (dOk && z [fld w 25 24, da]) .twoAccess true
  | 0x14 =>
    let an := fld w 21 20
    let as := fld w 19 18
    let sh := fld w 11 8
    let rm := fld w 7 7
    if fld w 17 12 ≠ 0 ∨ fld w 6 6 ≠ 0 then none
    else match fn with
      | 0x00 => ok (z [as]) .one false
      | 0x01 => ok (z [as, sh, rm]) .one false
      | 0x02 => ok (z [dd, as, sh, rm]) .one false
      | 0x03 => ok (z [dd, sh, rm]) .one false
      | 0x04 => ok (z [dd, sh, rm]) .one false
      | 0x05 => ok (z [dd, as, rm]) .one false
      | 0x06 => ok (z [as, sh, rm] && decide (an < 4)) .one false
      | _ => none
  | 0x18 =>
    let dc := fld w 13 10
    if fld w 9 6 ≠ 0 then none
    else if fn = 0x03 ∨ fn = 0x04 then ok true .fp false
    else if fn = 0x09 then ok (z [dd, dc]) .fp false
    else if fn < 0x07 then ok (z [dc]) .fp false
    else if fn = 0x0A then ok (z [db, dc]) .frcp false
    else if fn ≤ 0x0E then ok (z [db, dc]) .fp false
    else none
  | 0x19 => ok (dOk && z [dd, da, fld w 3 3, fld w 2 1]) .fmac2 true
  | 0x1C => ok (z [fld w 21 13] && decide (dd ≤ 0xC)) .branch false
  | 0x1D => ok (z [fld w 21 13, dd]) .call false
  | 0x1E => ok (z [fld w 21 13, fld w 12 0] && decide (dd ≤ 0xC)) .branch false
  | 0x20 => ok (z [dd, fld w 21 10]) .one false
  | 0x21 => ok (z [fld w 21 10, fld w 9 0]) .one false
  | 0x24 => ok (if fld w 20 20 = 1 then z [fld w 15 0] else z [fld w 19 16]) .one false
  | 0x25 => ok (z [fld w 19 14]) .one false
  | 0x26 => ok (z [fld w 20 20, fld w 15 0]) .one false
  | 0x27 => ok (z [fld w 18 8, fld w 7 0] && decide (fld w 21 19 ≤ 1)) .one false
  | 0x28 => ok (z [fld w 21 19, fld w 18 8, fld w 7 0]) .one false
  | 0x2C => ok true .one false
  | 0x2D => ok (z [dd, fld w 18 8]) .one false
  | 0x2E => ok (z [fld w 21 19, fld w 18 8]) .one false
  | 0x2F => ok (z [fld w 18 8, fld w 7 0]) .one false
  | 0x30 => ok (z [fld w 25 0]) .one false
  | 0x31 => ok (z [fld w 25 0]) .one false
  | 0x32 => ok (z [fld w 25 0]) .one false
  | _ => none

/-! Issue. -/

/-- What an instruction is to the issue logic: legality (R41), cycle row, whether REP may repeat it (R59), what it reads and writes
of R52. -/
structure Issue where
  legal : Bool := true
  cy : CyKind := .one
  rep : Bool := false
  mulD : List Nat := []
  accs : List Nat := []
  addr : List (Nat × Nat) := []
  wr : Hazard := { d := [], a := [], ad := [] }
  deriving DecidableEq, Repr

/-- Cycles added by R52 (0 or 1). -/
def Issue.stall (i : Issue) (h : Hazard) : Nat :=
  if i.mulD.any (fun r => h.d.contains r) || i.accs.any (fun r => h.a.contains r) || i.addr.any (fun r => h.ad.contains r) then 1 else 0

/-- Applies a function n times. -/
def timesN {α : Type} : Nat → (α → α) → α → α
  | 0, _, x => x
  | n + 1, f, x => timesN n f (f x)

/-- Issues an instruction on the executing bank of cell c: aborts it where R48 says so, else counts its cycles and carries out its
effect, once or as often as a REP before it says. A cell that issues nothing now is unchanged. -/
def Dev.issue (d : Dev) (c : Nat) (i : Issue) (eff : Dev → Bank → Dev × Bank) : Dev :=
  if !d.canIssue c then d
  else
    let a := d.actBank c
    let b := d.bank c a
    if !i.legal then d.abort c 0x01 b.pc
    else match i.cy.cycles (d.get .C_STAT_MODE c) with
      | none => d.abort c 0x02 b.pc
      | some n =>
        if b.rep ≠ 0 && !i.rep then d.abort c 0x03 (b.pc - 1#13)
        else
          let times := if b.rep = 0 then 1 else b.rep
          let b1 := { b with started := true, pc := b.pc + 1#13, rep := 0, cycles := b.cycles + i.stall b.hz + n * times, hz := i.wr }
          let r := timesN times (fun x => eff x.1 x.2) (d, b1)
          r.1.setBank c a r.2

/-- An instruction that touches registers only. -/
def Dev.issueR (d : Dev) (c : Nat) (i : Issue) (eff : Bank → Bank) : Dev := d.issue c i (fun d b => (d, eff b))

/-- Data hazard record of D registers. -/
def hzD (l : List Nat) : Hazard := { d := l, a := [], ad := [] }
/-- Hazard record of accumulators. -/
def hzA (l : List Nat) : Hazard := { d := [], a := l, ad := [] }
/-- Hazard record of address registers. -/
def hzAddr (l : List (Nat × Nat)) : Hazard := { d := [], a := [], ad := l }

/-- The address registers a modify of Pn by Mm uses. -/
def modUses (n m : BitVec 3) : List (Nat × Nat) := [(0, n.toNat), (1, m.toNat), (2, n.toNat), (3, n.toNat)]

end Sys2Proof.Machine
end

