-- ==== Sys2Proof/Machine/Roles.lean ====
section
/-!
DEFINITION. Device roles and the device fault (R320, R322): what every unit may cause.
-/

namespace Sys2Proof.Machine

/-- Codes of PAIR_STAT.ROLE (R335). -/
def roleAlone : Nat := 0
/-- ACTIVE. -/
def roleActive : Nat := 1
/-- STANDBY. -/
def roleStandby : Nat := 2
/-- SYNCING. -/
def roleSyncing : Nat := 3
/-- FAILED. -/
def roleFailed : Nat := 4

/-- The role code in DATA of log CODE 0x50 (R306): 0 ALONE, 1 ACTIVE, 2 STANDBY, 3 SYNCING, 4 FAILED. -/
def Dev.role (d : Dev) : Nat := d.get .PAIR_STAT_ROLE 0

/-- Takes a role for a CAUSE (R322, R335). -/
def Dev.setRole (d : Dev) (role cause : Nat) : Dev :=
  let d' := if d.get .PWR_CTL_STATE 0 = 1 then d else d.put .PWR_CTL_STATE 0 (if role = roleStandby then 2 else 0)
  ((d'.put .PAIR_STAT_ROLE 0 role).put .PAIR_STAT_CAUSE 0 cause).report 0 (srcOf 0 3 3) 0x50 (role + 16 * d.role)

/-- Sends a message to the partner. -/
def Dev.sendPair (d : Dev) (m : PairMsg) : Dev := { d with pairOut := d.pairOut ++ [m] }

/-- An ACTIVE device resigns (R330). -/
def Dev.resignIfActive (d : Dev) : Dev := if d.role = roleActive then d.sendPair .resign else d

/-- Takes the FAILED role: every output stage drives its SAFE value (R320). -/
def Dev.takeFailed (d : Dev) (cause : Nat) : Dev :=
  ((d.instOn .OS_CFG_EN).foldl Dev.stageSafe d).setRole roleFailed cause

/-- A device fault of a source (R313, R320). -/
def Dev.deviceFault (d : Dev) (src : Nat) : Dev :=
  if d.role = roleFailed then d.report 3 src 0x05 0
  else ((d.report 3 src 0x05 0).resignIfActive).takeFailed 0x05

end Sys2Proof.Machine
end

