-- ==== Sys2Proof/Machine/Sched.lean ====
section
/-!
DEFINITION. The hardware scheduler (R109 to R123): contexts, the READY order, waits, event flags, kills, the program-region stop
(R145 to R147), and the issue of task instructions.
-/

namespace Sys2Proof.Machine

/-- State codes of R116. -/
def tsDormant : Nat := 0
/-- READY. -/
def tsReady : Nat := 1
/-- RUNNING. -/
def tsRunning : Nat := 2
/-- WAIT_FLAG. -/
def tsWaitFlag : Nat := 3
/-- DELAY. -/
def tsDelay : Nat := 4
/-- WAIT_QUEUE. -/
def tsWaitQueue : Nat := 5
/-- STOPPED. -/
def tsStopped : Nat := 6
/-- FAULT. -/
def tsFault : Nat := 7

/-- A context at the start of a task: X0 to X31 and SR hold 0 (R110). -/
def TaskCtx.start : TaskCtx := { x := Vector.replicate 32 0#64, sr := 0#32, wait := .none }

/-- The context of task n. -/
def Dev.ctx (d : Dev) (n : Nat) : TaskCtx := natGet TaskCtx.start n d.tasks

/-- Writes the context of task n. -/
def Dev.setCtx (d : Dev) (n : Nat) (c : TaskCtx) : Dev := { d with tasks := natSet TaskCtx.start n c d.tasks }

/-- X register. -/
def TaskCtx.rX (c : TaskCtx) (i : BitVec 5) : DWord := vget c.x i.toNat 0#64

/-- Writes an X register. -/
def TaskCtx.wX (c : TaskCtx) (i : BitVec 5) (v : DWord) : TaskCtx := { c with x := vset c.x i.toNat v }

/-- Writes an X register of task n. -/
def Dev.setX (d : Dev) (n : Nat) (i : BitVec 5) (v : DWord) : Dev := d.setCtx n ((d.ctx n).wX i v)

/-- Writes a bit of SR of task n. -/
def Dev.srBit (d : Dev) (n i : Nat) (b : Bool) : Dev := d.setCtx n { d.ctx n with sr := setBit (d.ctx n).sr i b }

/-- State of task n. -/
def Dev.tstate (d : Dev) (n : Nat) : Nat := d.get .TASK_STAT_STATE n

/-- The program region is stopped (R146). -/
def Dev.stopped (d : Dev) : Bool := d.on .WD_STAT_STOPPED 0

/-- The task that runs on a core. -/
def Dev.running (d : Dev) (k : Nat) : Option Nat := if d.on .x_RUNT k then some (d.get .x_RUNT k - 1) else none

/-- Task n becomes READY at the tail of its level (R118). -/
def Dev.ready (d : Dev) (n : Nat) : Dev :=
  let d := (d.setCtx n { d.ctx n with wait := .none }).put .TASK_STAT_STATE n tsReady
  let d := d.put .x_TIMED n 0
  { d with readyt := d.readyt.filter (fun m => !decide (m = n)) ++ [n], waitq := d.waitq.filter (fun m => !decide (m = n)) }

/-- The core's running task leaves it. -/
def Dev.leaveCore (d : Dev) (n : Nat) : Dev :=
  let k := d.get .TASK_CTL_CORE n
  if d.running k = some n then d.put .x_RUNT k 0 else d

/-- Task n becomes DORMANT and loses its registers (R110). -/
def Dev.dormant (d : Dev) (n : Nat) : Dev :=
  let d := ((d.leaveCore n).setCtx n TaskCtx.start).put .TASK_STAT_STATE n tsDormant
  let d := (d.put .TASK_WMASK n 0).put .x_TIMED n 0
  { d with readyt := d.readyt.filter (fun m => !decide (m = n)), waitq := d.waitq.filter (fun m => !decide (m = n)) }

/-- Task n is set up under R110 and becomes READY. -/
def Dev.start (d : Dev) (n : Nat) : Dev :=
  let d := (d.setCtx n TaskCtx.start).put .TASK_STAT_PC n (4 * d.get .TASK_ENTRY n)
  ((d.put .TASK_FLAGS n 0).put .TASK_WMASK n 0).ready n

/-- Task n blocks: it leaves its core and waits. -/
def Dev.block (d : Dev) (n st : Nat) (w : Wait) : Dev :=
  let d := (d.leaveCore n).setCtx n { (d.leaveCore n).ctx n with wait := w }
  let d := d.put .TASK_STAT_STATE n st
  if st = tsWaitQueue then { d with waitq := d.waitq ++ [n] } else d

/-- Sets the wake tick of task n (R117, R122). -/
def Dev.setWake (d : Dev) (n t : Nat) : Dev := ((d.put .x_WAKE n t).put .TASK_WAKE n t).put .x_TIMED n 1

/-- Whether task a is served before task b: ascending PRIO, then the order of a list. -/
def Dev.bestTask (d : Dev) (l : List Nat) : Option Nat :=
  l.foldl (fun best n => match best with
    | none => some n
    | some m => if d.get .TASK_CTL_PRIO n < d.get .TASK_CTL_PRIO m then some n else some m) none

/-- The READY task that a core runs next (R118). -/
def Dev.nextReady (d : Dev) (k : Nat) : Option Nat := d.bestTask (d.readyt.filter (fun n => decide (d.get .TASK_CTL_CORE n = k)))

/-- A READY task of lower PRIO than the running one waits to preempt it (R118). -/
def Dev.mustPreemptT (d : Dev) (k : Nat) : Bool :=
  match d.running k, d.nextReady k with
  | some n, some m => decide (d.get .TASK_CTL_PRIO m < d.get .TASK_CTL_PRIO n)
  | _, _ => false

/-- Sets flags of a task (R121); a program region held in reset takes none. -/
def Dev.setFlags (d : Dev) (n bits : Nat) : Dev := if d.held 1 then d else d.put .TASK_FLAGS n (d.get .TASK_FLAGS n ||| bits)

/-- A flag condition (R120). -/
def flagCond (all : Bool) (flags mask : Nat) : Bool :=
  decide (mask = 0) || (if all then decide (flags &&& mask = mask) else decide (flags &&& mask ≠ 0))

/-- Completion of a flag wait: XD := FLAGS, the clearing forms clear the mask, TO as given (R120). -/
def Dev.flagDone (d : Dev) (n mask : Nat) (clear to_ : Bool) (rd : BitVec 5) : Dev :=
  let fl := d.get .TASK_FLAGS n
  let d := (d.setX n rd (BitVec.ofNat 64 fl)).srBit n srTO to_
  if clear && !to_ then d.put .TASK_FLAGS n (fl &&& (2 ^ 32 - 1 - mask % 2 ^ 32)) else d

/-! Images that the stop writes (R142, R146). -/

/-- A 64-bit descriptor's field. -/
def dfld (x hi lo : Nat) : Nat := x / 2 ^ lo % 2 ^ (hi + 1 - lo)

/-- A valid output descriptor (R140, R142). -/
def outDescOk (x : Nat) : Bool :=
  let k := dfld x 63 60
  if k = 1 then decide (dfld x 59 55 ≤ 19) && decide (dfld x 43 42 ≠ 3) && decide (dfld x 41 32 = 0)
  else if k = 2 then tyValid (dfld x 43 36) && decide (dfld x 35 32 = 0)
  else false

/-- Address of entry e of the output image of task n. -/
def Dev.oimg (d : Dev) (n e : Nat) : Nat := 8 * d.get .CYC_OIMG_ADDR n + 16 * e

/-- Whether an enabled output stage maps one of the bytes [off, off + w) of a station's output area (R142). -/
def Dev.stageMaps (d : Dev) (k s off w : Nat) : Bool :=
  (d.instOn .OS_CFG_EN).any (fun st => decide (0x400 ≤ st) && decide (d.get .OS_MAP_LINK st = k) && decide (d.get .OS_MAP_STATION st = s) &&
    decide (d.get .OS_MAP_OFFSET st < off + w) && decide (off < d.get .OS_MAP_OFFSET st + 2 ^ d.get .OS_MAP_WIDTH st))

/-- Writes the low-order bytes of a value into a station's output image; a mapped entry is suppressed and counted (R142). -/
def Dev.imageWrite (d : Dev) (n desc val : Nat) : Dev :=
  let k := dfld desc 59 55
  let s := dfld desc 54 52
  let off := dfld desc 51 44
  let w := 2 ^ dfld desc 43 42
  if d.stageMaps k s off w then d.bumpSat .CYC_STAT_CONFLICT n
  else forN w (fun d i => if off + i < d.get .STN_LEN_OLEN (8 * k + s) then d.setByte (outImage k s (off + i)) (BitVec.ofNat 8 (val / 256 ^ i)) else d) d

/-- A token leaves through the token port of core k (R133). -/
def Dev.portLaunch (d : Dev) (k : Nat) (t : Token) : Dev := d.launch { tok := t, prod := .port k, slot := 256, tick := 0 }

/-- SAFE into every station-field entry of a cyclic task (R146). -/
def Dev.safeImage (d : Dev) (n : Nat) : Dev :=
  forN (d.get .CYC_OIMG_CNT n) (fun d e =>
    let x := d.rd (d.oimg n e) 8
    if outDescOk x && decide (dfld x 63 60 = 1) then d.imageWrite n x (x % 2 ^ 32) else d) d

/-- Abandons the switches of a change record not yet made (R153). -/
def Dev.abandonChange (d : Dev) : Dev :=
  if d.on .CHG_STAT_BUSY 0 then
    let d := (((d.put .CHG_STAT_BUSY 0 0).put .CHG_STAT_ABANDONED 0 1).put .CHG_WAIT_LO 0 0).put .CHG_WAIT_HI 0 0
    { d with changes := [] }
  else d

/-- The program region stops for a cause and a task (R145 to R147, R153). Expiries and faults during a stop are ignored. -/
def Dev.stopProgram (d : Dev) (cause n : Nat) : Dev :=
  if d.stopped then d
  else
    let d := ((d.put .WD_STAT_STOPPED 0 1).put .WD_STAT_CAUSE 0 cause).put .WD_STAT_TASK 0 n
    let d := (d.put .WD_TICK 0 d.tick).put .x_STOPT 0 d.tick
    let d := forN 64 (fun d m =>
      if d.tstate m = tsDormant ∨ d.tstate m = tsFault then d else d.put .TASK_STAT_STATE m tsStopped) d
    let d := forN 4 (fun d k => d.put .x_RUNT k 0) { d with readyt := [], waitq := [] }
    let d := forN 64 (fun d m => if d.on .CYC_CTL_EN m then d.safeImage m else d) d
    let d := d.abandonChange.report 2 (srcOf 2 2 n) 0x20 (2 ^ 31 + 65536 * cause + n)
    if d.on .WD_CTL 0 && decide (d.role = roleActive) && decide (d.get .x_PARTNER 0 = roleStandby) then
      d.resignIfActive.takeFailed 0x02
    else d

/-- A task fault: the task enters FAULT with its cause and PC, and the region stops (R115). -/
def Dev.taskFault (d : Dev) (n cause : Nat) : Dev :=
  let d := ((d.leaveCore n).put .TASK_STAT_STATE n tsFault).put .TASK_FAULT n cause
  d.stopProgram 0x02 n

/-! Issue of task instructions. -/

/-- Program memory: the shared program SRAM and the tightly coupled memories (R28). -/
def inProgMem (a : Nat) : Bool := decide (a < 0x600000) || (decide (0x800000 ≤ a) && decide (a < 0x900000))

/-- The core issues the next instruction of its running task. -/
def Dev.canIssueT (d : Dev) (k : Nat) : Bool :=
  d.progRuns && !d.stopped && !d.mustPreemptT k &&
  (match d.running k with
   | some n => !d.on .TASK_CTL_REQ_KILL n
   | none => false)

/-- Issues an instruction of the task that runs on core k: its cycles are counted and PC advances before its effect; an illegal
form or a fetch outside program memory is a task fault (R111, R114, R115). A core that issues nothing now is unchanged. -/
def Dev.issueT (d : Dev) (k : Nat) (legal : Bool) (cyc : Nat) (eff : Nat → Dev → Dev) : Dev :=
  if !d.canIssueT k then d
  else
    match d.running k with
    | none => d
    | some n =>
      let pc := d.get .TASK_STAT_PC n
      if !inProgMem pc then d.taskFault n 0x04
      else if !legal then d.taskFault n 0x01
      else eff n ((d.put .TASK_STAT_PC n (pc + 4)).bump .TASK_RUN n cyc)

/-- An instruction that changes only the task's registers. -/
def Dev.issueX (d : Dev) (k : Nat) (legal : Bool) (cyc : Nat) (eff : TaskCtx → TaskCtx) : Dev :=
  d.issueT k legal cyc (fun n d => d.setCtx n (eff (d.ctx n)))

/-- A fault found by an instruction that has already advanced PC: the faulting instruction has no effect (R115). -/
def Dev.faultBack (d : Dev) (n cause : Nat) : Dev := (d.put .TASK_STAT_PC n (d.get .TASK_STAT_PC n + 2 ^ 28 - 4)).taskFault n cause

/-! Queues (R127 to R131). -/

/-- A queue that holds nothing. -/
def Queue.empty : Queue := { rd := 0, pkts := [], unc := 0, prod := 0, mid := false }

/-- Queue q. -/
def Dev.queue (d : Dev) (q : Nat) : Queue := natGet Queue.empty q d.queues

/-- Writes queue q. -/
def Dev.setQueue (d : Dev) (q : Nat) (x : Queue) : Dev := { d with queues := natSet Queue.empty q x d.queues }

/-- Committed items not yet read. -/
def Queue.level (x : Queue) : Nat := x.pkts.sum

/-- Capacity in items. -/
def Dev.qcap (d : Dev) (q : Nat) : Nat := d.get .Q_CFG_SIZE q + 1

/-- Address of item j of the queue, counted from the oldest (R127). -/
def Dev.qaddr (d : Dev) (q j : Nat) : Nat := 0x1100000 + 8 * (d.get .Q_BASE q + ((d.queue q).rd + j) % d.qcap q)

/-- A unit reads the queue: attached as a source. -/
def Dev.isSource (d : Dev) (q : Nat) : Bool := d.on .Q_CFG_ATT q && decide (d.get .x_QDIR q = 1)

/-- A unit writes the queue: attached as a sink. -/
def Dev.isSink (d : Dev) (q : Nat) : Bool := d.on .Q_CFG_ATT q && decide (d.get .x_QDIR q = 2)

/-- Stores one item; in item mode it is committed at once (R129). -/
def Dev.qstore (d : Dev) (q : Nat) (item : Nat) : Dev :=
  let x := d.queue q
  let d := (d.wr (d.qaddr q (x.level + x.unc)) 8 item).bump .Q_IN q 1
  if d.on .Q_CFG_PKT q then d.setQueue q { x with unc := x.unc + 1 }
  else d.setQueue q { x with pkts := x.pkts ++ [1] }

/-- Commits the packet under construction (R130). -/
def Dev.qcommit (d : Dev) (q : Nat) : Dev :=
  let x := d.queue q
  if x.unc = 0 then d.setQueue q { x with prod := 0 }
  else d.setQueue q { x with pkts := x.pkts ++ [x.unc], unc := 0, prod := 0 }

/-- Rewinds the packet under construction and counts its items (R130). -/
def Dev.qrewind (d : Dev) (q : Nat) : Dev :=
  let x := d.queue q
  (d.bump .Q_RWD q x.unc).setQueue q { x with unc := 0, prod := 0 }

/-- Removes the oldest item: the item, whether it ended its packet, the device (R129, R130). -/
def Dev.qtake (d : Dev) (q : Nat) : Nat × Bool × Dev :=
  let x := d.queue q
  let v := d.rd (d.qaddr q 0) 8
  match x.pkts with
  | [] => (0, true, d)
  | p :: t =>
    let last := decide (p ≤ 1)
    let x' : Queue := { x with rd := (x.rd + 1) % d.qcap q, pkts := if last then t else (p - 1) :: t, mid := !last }
    (v, last, (d.setQueue q x').bump .Q_OUT q 1)

/-- Drops the rest of the current packet, or the oldest one: the items dropped (R130). -/
def Dev.qdrop (d : Dev) (q : Nat) : Nat × Dev :=
  let x := d.queue q
  match x.pkts with
  | [] => (0, d)
  | p :: t =>
    (p, (d.setQueue q { x with rd := (x.rd + p) % d.qcap q, pkts := t, mid := false }).bump .Q_DROP q p)

/-- The items of the oldest committed packet. -/
def Dev.qpeek (d : Dev) (q : Nat) : List Nat :=
  match (d.queue q).pkts with
  | [] => []
  | p :: _ => (List.range p).map (fun j => d.rd (d.qaddr q j) 8)

/-- A unit takes the oldest packet of a source: every item is read. -/
def Dev.qtakePacket (d : Dev) (q : Nat) : Dev :=
  match (d.queue q).pkts with
  | [] => d
  | p :: _ => timesN p (fun d => (d.qtake q).2.2) d

/-- A unit writes a packet into a sink, or rewinds it whole where it does not fit: whether it was committed (R128). The items are
counted in IN and, rewound, in RWD. -/
def Dev.qputPacket (d : Dev) (q : Nat) (items : List Nat) : Bool × Dev :=
  let x := d.queue q
  if x.level + x.unc + items.length ≤ d.qcap q then (true, (items.foldl (fun d i => d.qstore q i) d).qcommit q)
  else
    let room := d.qcap q - (x.level + x.unc)
    (false, ((items.take room).foldl (fun d i => d.qstore q i) d).qrewind q)

/-- A unit attaches a queue: direction 1 source, 2 sink (R128). -/
def Dev.qattach (d : Dev) (q dir : Nat) : Dev := (d.put .Q_CFG_ATT q 1).put .x_QDIR q dir

/-- A unit detaches a queue; its items stay (R128). -/
def Dev.qdetach (d : Dev) (q : Nat) : Dev := (d.put .Q_CFG_ATT q 0).put .x_QDIR q 0

/-- Whether task n may write queue q now: not a sink, no other producer, a place free (R128 to R130). -/
def Dev.canPush (d : Dev) (q n : Nat) : Bool :=
  let x := d.queue q
  !d.isSink q && (!d.on .Q_CFG_PKT q || decide (x.prod = 0) || decide (x.prod = n + 1)) && decide (x.level + x.unc < d.qcap q)

/-- Whether a packet under construction has filled the whole queue (R130). -/
def Dev.oversized (d : Dev) (q n : Nat) : Bool :=
  let x := d.queue q
  d.on .Q_CFG_PKT q && !d.isSink q && (decide (x.prod = 0) || decide (x.prod = n + 1)) && decide (x.unc = d.qcap q)

/-- Task n writes an item. -/
def Dev.doPush (d : Dev) (q n : Nat) (item : DWord) : Dev :=
  let d := (d.qstore q item.toNat).srBit n srTO false
  if d.on .Q_CFG_PKT q then d.setQueue q { d.queue q with prod := n + 1 } else d

/-- Task n reads an item into a register (R129, R130). -/
def Dev.doPop (d : Dev) (q n : Nat) (rd : BitVec 5) : Dev :=
  let r := d.qtake q
  ((r.2.2.setX n rd (BitVec.ofNat 64 r.1)).srBit n srTO false).srBit n srEOP r.2.1

/-- Whether task n may read queue q now. -/
def Dev.canPop (d : Dev) (q : Nat) : Bool := !d.isSource q && decide (0 < (d.queue q).level)

/-- Rewinds every packet that task n is building (R119). -/
def Dev.rewindOf (d : Dev) (n : Nat) : Dev :=
  d.queues.foldl (fun d e => if e.2.prod = n + 1 then d.qrewind e.1 else d) d

/-- Kills task n now (R119). -/
def Dev.kill (d : Dev) (n : Nat) : Dev := ((d.rewindOf n).dormant n).put .TASK_CTL_REQ_KILL n 0

end Sys2Proof.Machine
end

