-- ==== Sys2Proof/Machine/Encoder.lean ====
section
/-!
DEFINITION. Encoder cells: counting, serial frames, speed, latches and pulse output (R155 to R174).
-/

namespace Sys2Proof.Machine

/-- A field-region producer launches a token (R20, R25); outside ACTIVE and ALONE it launches none (R333, R338). -/
def Dev.fieldToken (d : Dev) (p : Prod) (dest ty qual val ftag : Nat) : Dev :=
  if d.fieldActs then
    d.launch { tok := { dest := BitVec.ofNat 16 dest, ty := BitVec.ofNat 8 ty, qual := BitVec.ofNat 8 qual, val := BitVec.ofNat 32 val,
                        ftag := BitVec.ofNat 16 ftag }, prod := p, slot := 256, tick := 0 }
  else d

/-! Modes (R155). -/

/-- OFF. -/
def emOff : Nat := 0
/-- QUAD. -/
def emQuad : Nat := 1
/-- STEPDIR. -/
def emStep : Nat := 2
/-- HALL. -/
def emHall : Nat := 3
/-- BISS. -/
def emBiss : Nat := 4
/-- SSI. -/
def emSsi : Nat := 5

/-- MODE of cell e; a retired cell acts as in OFF (R313). -/
def Dev.emode (d : Dev) (e : Nat) : Nat := if d.on .x_RET_E e then 0 else d.get .E_CFG_MODE e

/-- A serial mode. -/
def Dev.eserial (d : Dev) (e : Nat) : Bool := decide (d.emode e = emBiss) || decide (d.emode e = emSsi)

/-- COUNT of cell e as a 64-bit word (R161). -/
def Dev.count (d : Dev) (e : Nat) : DWord := BitVec.ofNat 64 (d.get .E_CNT_LO e + 2 ^ 32 * d.get .E_CNT_HI e)

/-- Writes COUNT. -/
def Dev.setCount (d : Dev) (e : Nat) (c : DWord) : Dev := (d.put .E_CNT_LO e c.toNat).put .E_CNT_HI e (c.toNat / 2 ^ 32)

/-! The pulse divider (R171). -/

/-- Events of size and sign x enter the divider of pulse cell p. -/
def Dev.divider (d : Dev) (p : Nat) (x : Int) : Dev :=
  let den : Int := (d.get .E_PRAT_DEN p : Nat)
  let acc := d.sget .E_PACC p + x * (d.get .E_PRAT_NUM p : Nat)
  let d := (d.sput .E_PACC p (acc.tmod den)).sput .E_PLAG p (d.sget .E_PLAG p + acc.tdiv den)
  if (d.sget .E_PLAG p).natAbs > 2 ^ 30 then d.put .E_PCFG_OVF p 1 else d

/-- A counting event of cell e feeds every enabled divider that takes it. -/
def Dev.feedDividers (d : Dev) (e : Nat) (x : Int) : Dev :=
  forN 8 (fun d k => if d.on .E_PCFG_PEN (24 + k) && decide (d.get .E_PCFG_PSRC (24 + k) = e) then d.divider (24 + k) x else d) d

/-- Pulse output starts: ACC, LAG and POUT are 0 and the pins are in state 00 (R172). -/
def Dev.pulseStart (d : Dev) (p : Nat) : Dev :=
  (((((d.put .E_PACC p 0).put .E_PLAG p 0).put .E_POUT p 0).put .x_P_ST p 0).put .x_P_DIR p 0).put .x_P_NEXT p d.now

/-- One count leaves on the pulse pins. -/
def Dev.pulseOut (d : Dev) (p : Nat) (space : Nat) : Dev :=
  let up := decide (0 < d.sget .E_PLAG p)
  let s : Int := if up then 1 else -1
  let d := (d.sput .E_PLAG p (d.sget .E_PLAG p - s)).sput .E_POUT p (d.sget .E_POUT p + s)
  (d.put .x_P_ST p (d.get .x_P_ST p + (if up then 1 else 3))).put .x_P_NEXT p (d.now + space)

/-- PULSE_EMIT of pair k (R171, R172): in step mode a change of direction is set first and waits PSPACE. -/
def Dev.pulseEmit (d : Dev) (k : Nat) : Dev :=
  let p := 24 + k
  let sp := 4 * d.get .E_PCFG_PSPACE p
  if d.fieldActs && d.on .E_PCFG_PEN p && d.on .E_PLAG p && decide (d.get .x_P_NEXT p ≤ d.now) then
    if d.on .E_PCFG_PSD p then
      let down := decide (d.sget .E_PLAG p < 0)
      if d.on .x_P_DIR p != down then ((d.flag .x_P_DIR p down).put .x_P_DIRT p d.now).put .x_P_NEXT p (d.now + sp)
      else d.pulseOut p (2 * sp)
    else d.pulseOut p sp
  else d

/-! Counting (R158 to R161, R166). -/

/-- The speed estimator takes an accepted edge (R166). -/
def Dev.edge (d : Dev) (e : Nat) (down : Bool) (t : Nat) (c : DWord) : Dev :=
  let still := d.on .E_STAT_STILL e
  let d1 :=
    if still && !d.on .x_E_FIRST e then
      ((((d.put .x_E_RT e t).put .x_E_RC e c.toNat).put .x_E_FIRST e 1).put .x_E_PENDG e 1).put .E_STAT_REV e 0
    else if d.on .E_STAT_DIR e != down then
      (((d.put .x_E_RT e t).put .x_E_RC e c.toNat).put .x_E_PENDG e 1).flag .E_STAT_REV e (!still)
    else
      (((d.put .x_E_PENDG e 0).put .E_STAT_STILL e 0).put .x_E_FIRST e 0).put .E_STAT_REV e 0
  ((d1.flag .E_STAT_DIR e down).put .x_E_LT e t).put .x_E_LC e c.toNat

/-- A legal counting event of signed size x (R161). -/
def Dev.countBy (d : Dev) (e : Nat) (x : Int) : Dev :=
  let d := d.setCount e (d.count e + BitVec.ofInt 64 x)
  (if x < 0 then d.bump .E_DOWN e x.natAbs else d.bump .E_UP e x.natAbs).feedDividers e x

/-- A counting event of an incremental mode: +1 or −1, exchanged by INV. -/
def Dev.countEdge (d : Dev) (e : Nat) (down : Bool) : Dev :=
  let down := down != d.on .E_CFG_INV e
  let d := d.countBy e (if down then -1 else 1)
  d.edge e down (d.now / 4 * 4) (d.count e)

/-- An illegal transition (R158, R160). -/
def Dev.illegalEdge (d : Dev) (e : Nat) : Dev := ((d.bump .E_ILL e 1).put .E_STAT_ILLSEEN e 1).put .x_E_ILLP e 1

/-- Place of a quadrature state (A, B) in the sequence 00, 01, 11, 10. -/
def quadIdx (a b : Bool) : Nat :=
  match a, b with
  | false, false => 0
  | false, true => 1
  | true, true => 2
  | true, false => 3

/-- Level bits of LVL: A in bit 2, B in bit 1, Z in bit 0. -/
def lvl (a b z : Bool) : Nat := (if a then 4 else 0) + (if b then 2 else 0) + (if z then 1 else 0)

/-- Accepted level A, B or Z of cell e: bit 2, 1 or 0. -/
def Dev.lvlBit (d : Dev) (e i : Nat) : Bool := decide (d.get .E_STAT_LVL e / 2 ^ i % 2 = 1)

/-- QUAD_STATE_CHANGE: the levels A and B accepted in one sample (R158). -/
def Dev.quadChange (d : Dev) (e : Nat) (a b : Bool) : Dev :=
  if !d.fieldOn then d
  else
    let old := quadIdx (d.lvlBit e 2) (d.lvlBit e 1)
    let step := (quadIdx a b + 4 - old) % 4
    let d := d.put .E_STAT_LVL e (lvl a b (d.lvlBit e 0))
    if d.emode e = emQuad then
      if step = 1 then d.countEdge e false
      else if step = 3 then d.countEdge e true
      else if step = 2 then d.illegalEdge e
      else d
    else d

/-- STEP_EDGE: an accepted rising step edge; `dir` is the direction level accepted in the sample before, `b` the present one (R159). -/
def Dev.stepEdge (d : Dev) (e : Nat) (dir b : Bool) : Dev :=
  if !d.fieldOn then d
  else
    let d := d.put .E_STAT_LVL e (lvl true b (d.lvlBit e 0))
    if d.emode e = emStep then d.countEdge e dir else d

/-- Sector of a Hall state (U, V, W), 6 for none (R160). -/
def hallSector (u v w : Bool) : Nat :=
  match u, v, w with
  | false, false, true => 0
  | false, true, true => 1
  | false, true, false => 2
  | true, true, false => 3
  | true, false, false => 4
  | true, false, true => 5
  | false, false, false => 6
  | true, true, true => 6

/-- HALL_SECTOR_CHANGE: the accepted state (U, V, W) (R160). -/
def Dev.hallChange (d : Dev) (e : Nat) (u v w : Bool) : Dev :=
  if !d.fieldOn then d
  else
    let d := d.put .E_STAT_LVL e (lvl u v w)
    if d.emode e ≠ emHall then d
    else
      let n := hallSector u v w
      let o := d.get .E_STAT_SECTOR e
      if n = 6 then (d.illegalEdge e).put .E_STAT_HALLBAD e 1
      else
        let d := d.put .E_STAT_SECTOR e n
        if o > 5 ∨ n = o then d
        else if n = (o + 1) % 6 then d.countEdge e false
        else if o = (n + 1) % 6 then d.countEdge e true
        else d.illegalEdge e

/-- EN_ADD: a signed value joins COUNT and ADJ (R161). -/
def Dev.enAdd (d : Dev) (e : Nat) (v : Word) : Dev :=
  if d.held 2 then d
  else
    let d := (d.setCount e (d.count e + v.signExtend 64)).bump .E_ADJ e v.toNat
    if d.eserial e && decide (v ≠ 0#32) then d.put .x_E_CHT e d.now else d

/-- A read of En_CNT_LO (R161). -/
def Dev.countRead (d : Dev) (e : Nat) : Dev :=
  d.capture [(.E_CNT_HI, e, d.get .E_CNT_HI e), (.E_UP, e, d.get .E_UP e), (.E_DOWN, e, d.get .E_DOWN e), (.E_ADJ, e, d.get .E_ADJ e)]

/-- A read of En_POUT (R171). -/
def Dev.poutRead (d : Dev) (e : Nat) : Dev := d.capture [(.E_PLAG, e, d.get .E_PLAG e), (.E_PACC, e, d.get .E_PACC e)]

/-- A new MODE, FILT or INV takes effect: the levels in force become the previous state, the estimator restarts in STILL, and the next
good frame is the first (R161, R164, R166). -/
def Dev.encRestart (d : Dev) (e : Nat) : Dev :=
  let d := ((d.put .E_STAT_STILL e 1).put .E_STAT_REV e 0).put .x_E_FIRST e 0
  let d := ((d.put .x_E_PENDG e 1).put .x_E_VM e 0).put .x_E_GOOD e 0
  let d := (d.put .x_E_FRM e 0).put .x_E_CHT e d.now
  let s := hallSector (d.lvlBit e 2) (d.lvlBit e 1) (d.lvlBit e 0)
  if d.emode e = emHall then d.put .E_STAT_SECTOR e (if s = 6 then 7 else s) else d

/-! Speed (R166 to R168). -/

/-- 1.0e9 in binary64. -/
def giga64 : Nat := (f64.ofInt false 1000000000 0).1

/-- Speed at a sample instant, binary64, with the estimator's new state (R166). -/
def Dev.speedAt (d : Dev) (e ts : Nat) : Nat × Dev :=
  let lt := d.get .x_E_LT e
  if ts - lt > d.get .E_TOK_STILL_T e * 1000 then
    (0, ((((d.put .E_STAT_STILL e 1).put .x_E_FIRST e 0).put .E_STAT_REV e 0).put .x_E_PENDG e 1).put .x_E_VM e 0)
  else if d.on .x_E_PENDG e then (0, d)
  else if lt ≠ d.get .x_E_RT e then
    let dc := (BitVec.ofNat 64 (d.get .x_E_LC e) - BitVec.ofNat 64 (d.get .x_E_RC e)).toInt
    let dt : Int := (lt - d.get .x_E_RT e : Nat)
    let v := (f64.div (f64.mul (f64.ofInt false dc 0).1 giga64).1 (f64.ofInt false dt 0).1).1
    (v, ((d.put .x_E_VM e v).put .x_E_RT e lt).put .x_E_RC e (d.get .x_E_LC e))
  else
    let vabs := d.get .x_E_VM e % 2 ^ 63
    let m := (f64.minmax false vabs (f64.div giga64 (f64.ofInt false (ts - lt : Nat) 0).1).1).1
    (if d.on .E_STAT_DIR e then m + 2 ^ 63 else m, d)

/-- A binary64 speed in SFMT (R168). -/
def speedOut64 (sfmt : Bool) (v : Nat) : Nat := if sfmt then (f64.toInt 32 4 v).1.toNat else (f64.conv f32 v).1

/-- A speed of n / m counts/s in SFMT (R167, R168). -/
def speedOutQ (sfmt : Bool) (n : Int) (m : Nat) : Nat := if sfmt then (satS 32 (rne (16 * n) m)).1.toNat else (f32.ratio n m).1

/-- TYPE of the speed token: I32 or FP32. -/
def Dev.speedTy (d : Dev) (e : Nat) : Nat := if d.on .E_TOK_SFMT e then 3 else 2

/-- Launches the position and speed tokens of sample n with one QUAL; ILLEGAL joins while it waits (R158, R165). -/
def Dev.encTokens (d : Dev) (e n qual pos : Nat) : Dev :=
  let q := qual ||| (if d.on .x_E_ILLP e && !d.eserial e then 0x20 else 0)
  let d := d.put .x_E_LQ e q
  let pen := d.on .E_TOK_PEN e
  let sen := d.on .E_TOK_SEN e
  let d := if pen then d.fieldToken (.enc e) (d.get .E_DEST_PDEST e) 4 q pos n else d
  let d := if sen then d.fieldToken (.enc e) (d.get .E_DEST_SDEST e) (d.speedTy e) q (d.get .E_SPD e) n else d
  if pen || sen then d.put .x_E_ILLP e 0 else d

/-- STILL of a serial mode (R167). -/
def Dev.serialStill (d : Dev) (e : Nat) : Dev :=
  if d.get .x_E_CHT e + d.get .E_TOK_STILL_T e * 1000 ≤ d.now then d.put .E_STAT_STILL e 1 else d

/-- ENCODER_SAMPLE_INSTANT (R162 to R166). -/
def Dev.encSample (d : Dev) (e : Nat) : Dev :=
  let off := 4 * d.get .E_TOK_SPHASE e
  match dueTick d.now (d.get .E_TIME_PERIOD e + 1) (d.get .E_TIME_TOFF e) off with
  | none => d
  | some n =>
    if d.fieldOn && decide (d.get .x_E_DONE e ≤ n) && decide (d.emode e ≠ emOff) then
      let d := d.put .x_E_DONE e (n + 1)
      if d.eserial e then
        let d := d.serialStill e
        if d.on .x_E_FRM e || decide (d.now < d.get .x_E_PAUSE e) then (d.bumpSat .E_SERR_OVL e).encTokens e n 0x01 (d.get .x_E_LASTP e)
        else (d.put .x_E_FRM e (n + 1)).put .x_E_FRT e (n * 1000 + off)
      else
        let r := d.speedAt e (n * 1000 + off)
        let d1 : Dev := r.2
        let pos := d1.get .E_CNT_LO e
        ((d1.put .E_SPD e (speedOut64 (d1.on .E_TOK_SFMT e) r.1)).put .x_E_LASTP e pos).encTokens e n 0x00 pos
    else d

/-! Serial frames (R162 to R164). -/

/-- One step of the CRC of R162, polynomial x^6 + x + 1. -/
def crc6Step (c : Nat) (b : Bool) : Nat :=
  let top := decide (c / 32 % 2 = 1) != b
  let c := c * 2 % 64
  if top then c ^^^ 3 else c

/-- CRC over the low w bits of x, from the top bit down. -/
def crc6 : Nat → Nat → Nat → Nat
  | 0, _, c => c
  | w + 1, x, c => crc6 w x (crc6Step c (decide (x / 2 ^ w % 2 = 1)))

/-- Binary value of a Gray code of w bits, from the top bit down. -/
def ungray : Nat → Nat → Bool → Nat
  | 0, _, _ => 0
  | w + 1, x, prev =>
    let b := decide (x / 2 ^ w % 2 = 1) != prev
    (if b then 2 ^ w else 0) + ungray w x b

/-- Whether a frame's check bits match: the inverted CRC over data, nERR and nWARN, or even parity. -/
def Dev.frameOk (d : Dev) (e data : Nat) (nerr nwarn : Bool) (chk : Nat) : Bool :=
  let len := d.get .E_SER_LEN e
  if d.emode e = emBiss then
    decide (crc6 (len + 2) (data % 2 ^ len * 4 + (if nerr then 2 else 0) + (if nwarn then 1 else 0)) 0 = 63 - chk % 64)
  else !d.on .E_SER_PAR e || decide ((popcNat len data + chk % 2) % 2 = 0)

/-- The position of a frame. -/
def Dev.framePos (d : Dev) (e data : Nat) : Nat :=
  let len := d.get .E_SER_LEN e
  if d.emode e = emSsi && d.on .E_SER_GRAY e then ungray len (data % 2 ^ len) false else data % 2 ^ len

/-- A good frame updates COUNT, speed and the sensor bits (R164, R167). -/
def Dev.goodFrame (d : Dev) (e p : Nat) (nerr nwarn : Bool) : Dev :=
  let biss := decide (d.emode e = emBiss)
  let d := if biss then (d.flag .E_STAT_SERR e (!nerr)).flag .E_STAT_SWARN e (!nwarn) else d
  let ts := d.get .x_E_FRT e
  let first := !d.on .x_E_GOOD e
  let len := d.get .E_SER_LEN e
  let x := sNat len (p + 2 ^ len - d.get .x_E_POS e % 2 ^ len)
  let changed := if first then decide (d.count e ≠ BitVec.ofNat 64 p) else decide (x ≠ 0)
  let d1 :=
    if first then
      ((d.bump .E_ADJ e ((BitVec.ofNat 64 p - d.count e).toNat % 2 ^ 32)).setCount e (BitVec.ofNat 64 p)).put .E_SPD e 0
    else
      let d1 := if x = 0 then d else (d.countBy e x).flag .E_STAT_DIR e (decide (x < 0))
      let dt := ts - d.get .x_E_GT e
      d1.put .E_SPD e (if dt = 0 then d.get .E_SPD e else speedOutQ (d.on .E_TOK_SFMT e) (x * 1000000000) dt)
  let d2 := ((d1.put .x_E_GOOD e 1).put .x_E_POS e p).put .x_E_GT e ts
  let d3 := if changed then (d2.put .x_E_CHT e d2.now).put .E_STAT_STILL e 0 else d2.serialStill e
  d3.put .x_E_LASTP e (d3.get .E_CNT_LO e)

/-- SERIAL_FRAME_END: acknowledge and start bit seen, data, nERR, nWARN, and the CRC or parity bit (R162 to R164). -/
def Dev.frameEnd (d : Dev) (e : Nat) (ack : Bool) (data : Nat) (nerr nwarn : Bool) (chk : Nat) : Dev :=
  if d.fieldOn && d.eserial e && d.on .x_E_FRM e then
    let n := d.get .x_E_FRM e - 1
    let d := (d.put .x_E_FRM e 0).put .x_E_PAUSE e (d.now + 1000 * d.get .E_SER_TPAUSE e)
    if decide (d.emode e = emBiss) && !ack then
      (((d.bumpSat .E_SERR_NOACK e).put .E_STAT_NOACKSEEN e 1).serialStill e).encTokens e n 0x05 (d.get .x_E_LASTP e)
    else if !d.frameOk e data nerr nwarn chk then
      (((d.bumpSat .E_SERR_CRCE e).put .E_STAT_CRCSEEN e 1).serialStill e).encTokens e n 0x01 (d.get .x_E_LASTP e)
    else
      let d := d.goodFrame e (d.framePos e data) nerr nwarn
      d.encTokens e n (if d.emode e = emBiss ∧ !nerr then 0x08 else 0x00) (d.get .E_CNT_LO e)
  else d

/-! Latches (R169, R170). -/

/-- Filter of the latch source. -/
def Dev.latchFilt (d : Dev) (e : Nat) : Nat :=
  if d.get .E_LCFG_SRC e = 16 then d.get .E_CFG_FILT e else d.get .LIN_CFG_FILT (d.get .E_LCFG_SRC e)

/-- LATCH_EVENT: an accepted edge of the cell's latch source (R169). -/
def Dev.latchEvent (d : Dev) (e : Nat) (rising : Bool) : Dev :=
  if !d.fieldOn then d
  else
    let src := d.get .E_LCFG_SRC e
    let own := decide (src = 16)
    let d := if own then d.put .E_STAT_LVL e (lvl (d.lvlBit e 2) (d.lvlBit e 1) rising) else d.flag .LIN_CFG_LEVEL src rising
    let match_ := decide (d.get .E_LCFG_EDGE e = 3) || decide (d.get .E_LCFG_EDGE e = (if rising then 1 else 2))
    let gate := !(own && d.on .E_LCFG_GATE e) || (d.lvlBit e 2 && d.lvlBit e 1)
    if match_ && gate && d.on .E_LCFG_EN e && !(own && decide (d.emode e = emOff)) then
      let lv := d.get .E_LCFG_LEVEL e
      let t := d.now / 4 * 4 - 4 * (2 + d.latchFilt e)
      let c := d.get .E_CNT_LO e
      let d :=
        if lv < 4 then
          (((d.put .x_LQ_CNT (4 * e + lv) c).put .x_LQ_TIME (4 * e + lv) (t / 1000 * 256 + t % 1000 / 4)).put .E_LCFG_LEVEL e (lv + 1)).tapEvent
            (0x400 + e) c (t / 1000) (t % 1000 / 4)
        else d.bump .E_LLOST e 1
      let d := if d.on .E_LCFG_NOTE e then d.setFlags (d.get .E_LCFG_NTASK e) (2 ^ d.get .E_LCFG_NFLAG e) else d
      if d.on .E_LCFG_CONT e then d else d.put .E_LCFG_EN e 0
    else d

/-- LATCH_COUNT_READ (R170). -/
def Dev.latchRead (d : Dev) (e : Nat) : Dev :=
  let lv := d.get .E_LCFG_LEVEL e
  if lv = 0 then d.put .E_LCNT e 0
  else
    let t := d.get .x_LQ_TIME (4 * e)
    let d := ((d.put .E_LCNT e (d.get .x_LQ_CNT (4 * e))).put .E_LTIME_TICK e (t / 256)).put .E_LTIME_PHASE e t
    let d := forN 3 (fun d j => (d.put .x_LQ_CNT (4 * e + j) (d.get .x_LQ_CNT (4 * e + j + 1))).put .x_LQ_TIME (4 * e + j)
      (d.get .x_LQ_TIME (4 * e + j + 1))) d
    ((d.put .x_LQ_CNT (4 * e + 3) 0).put .x_LQ_TIME (4 * e + 3) 0).put .E_LCFG_LEVEL e (lv - 1)

/-! The commands. -/

/-- QUAD_STATE_CHANGE (R158). -/
def execQuadStateChange (e : Fin 32) (a b : Bool) (s : State) := act s (fun d => d.quadChange e a b)
/-- STEP_EDGE (R159). -/
def execStepEdge (e : Fin 32) (dir b : Bool) (s : State) := act s (fun d => d.stepEdge e dir b)
/-- HALL_SECTOR_CHANGE (R160). -/
def execHallSectorChange (e : Fin 32) (u v w : Bool) (s : State) := act s (fun d => d.hallChange e u v w)
/-- PULSE_EMIT (R172). -/
def execPulseEmit (k : Fin 8) (s : State) := act s (fun d => d.pulseEmit k)
/-- EN_ADD (R161). -/
def execEnAdd (e : Fin 32) (v : BitVec 32) (s : State) := act s (fun d => d.enAdd e v)
/-- ENCODER_SAMPLE_INSTANT (R165). -/
def execEncoderSampleInstant (e : Fin 32) (s : State) := act s (fun d => d.encSample e)
/-- SERIAL_FRAME_END (R164). -/
def execSerialFrameEnd (e : Fin 32) (ack : Bool) (data : BitVec 40) (nerr nwarn : Bool) (chk : BitVec 6) (s : State) :=
  act s (fun d => d.frameEnd e ack data.toNat nerr nwarn chk.toNat)
/-- LATCH_EVENT (R169). -/
def execLatchEvent (e : Fin 32) (rising : Bool) (s : State) := act s (fun d => d.latchEvent e rising)
/-- LATCH_COUNT_READ (R170). -/
def execLatchCountRead (e : Fin 32) (s : State) := act s (fun d => d.latchRead e)
/-- ENCODER_COUNT_READ (R161). -/
def execEncoderCountRead (e : Fin 32) (s : State) := act s (fun d => d.countRead e)
/-- POUT_READ (R171). -/
def execPoutRead (k : Fin 8) (s : State) := act s (fun d => d.poutRead (24 + k))

end Sys2Proof.Machine
end

