-- ==== Sys2Proof/Machine/Analog.lean ====
section
/-!
DEFINITION. Sigma-delta converters, analogue inputs and fast SAR pairs (R202 to R216, R220 to R222).
-/

namespace Sys2Proof.Machine

/-! Correction (R204, R216). -/

/-- Address of the calibration set of AINn at gain code g. -/
def setAin (n g : Nat) : Nat := 0x50080000 + 8 * (8 * n + g)

/-- Address of the calibration set of AOUTn. -/
def setAout (n : Nat) : Nat := 0x50081000 + 8 * n

/-- Address of the calibration set of FAINn. -/
def setFain (n : Nat) : Nat := 0x50081100 + 8 * n

/-- A raw input value corrected with the set at an address, and whether it saturated. -/
def Dev.correct (d : Dev) (set : Nat) (raw : Int) : Word × Bool :=
  satS 32 (rne ((raw - sNat 32 (d.rd set 4)) * (d.rd (set + 4) 4 : Nat)) (2 ^ 30))

/-! Conversions (R205 to R207). -/

/-- Modulator period in ns. -/
def Dev.modPeriod (d : Dev) (k : Nat) : Nat := if d.on .SD_CFG_LP k then 800 else 100

/-- The first modulator edge at or after a time. -/
def Dev.modEdge (d : Dev) (k t : Nat) : Nat := let p := d.modPeriod k; (t + p - 1) / p * p

/-- Input that converter k converts on a channel. -/
def ainOf (k ch : Nat) : Nat := 4 * k + ch

/-- Settling results of a filter. -/
def settleOf (filt : Nat) : Nat := if filt = 0 then 3 else if filt = 1 then 4 else 2

/-- Sequence entry in progress, as an instance of SDk_SEQe. -/
def Dev.seqIdx (d : Dev) (k : Nat) : Nat := 16 * k + d.get .SD_STAT_ENTRY k

/-- The settings that a change conversion is judged by, as one number (R206). -/
def Dev.convKey (d : Dev) (k ch gain filt osr : Nat) : Nat :=
  let n := ainOf k ch
  ch + 4 * gain + 32 * filt + 128 * osr + 2 ^ 23 * d.get .SD_CFG_LP k + 2 ^ 24 * d.get .AIN_CFG_OWEN n + 2 ^ 25 * d.get .AIN_CFG_OWI n

/-- The settings of the entry in progress. -/
def Dev.entryKey (d : Dev) (k : Nat) : Nat :=
  let i := d.seqIdx k
  d.convKey k (d.get .SD_SEQ_CH i) (d.get .SD_SEQ_GAIN i) (d.get .SD_SEQ_FILT i) (d.get .SD_SEQ_OSR i)

/-- A conversion of the entry in progress starts at a time; a change starts the settling count (R206). -/
def Dev.convStart (d : Dev) (k t : Nat) : Dev :=
  let key := d.entryKey k + 1
  let d := ((d.put .x_SD_RUN k 1).put .x_SD_T0 k t)
  if d.get .x_SD_KEY k = key then d
  else (d.put .x_SD_KEY k key).put .x_SD_SET k (settleOf (d.get .SD_SEQ_FILT (d.seqIdx k)))

/-- The sequence starts at an entry, as after a change: nothing precedes (R206 to R208). -/
def Dev.seqStart (d : Dev) (k entry t : Nat) : Dev :=
  let d := ((d.put .SD_STAT_ENTRY k entry).put .x_SD_R k 0).put .x_SD_KEY k 0
  if d.on .SD_CFG_EN k && !d.on .SD_STAT_CALSUSP k then d.convStart k (d.modEdge k t) else d.put .x_SD_RUN k 0

/-- The conversion in progress is abandoned and counted. -/
def Dev.abandon (d : Dev) (k : Nat) : Dev := if d.on .x_SD_RUN k then (d.bumpSat .SD_STAT_ABORT k).put .x_SD_RUN k 0 else d

/-- A committed change of the converter (R207). -/
def Dev.seqRestart (d : Dev) (k : Nat) : Dev :=
  if d.on .SD_UCTL_BUSY k then (d.put .x_SD_RST k 1)
  else (d.abandon k).seqStart k 0 d.now

/-- A result of input n: corrected, judged and delivered (R204 to R206, R210, R211); the QUAL and the result. -/
def Dev.judge (d : Dev) (n gain : Nat) (raw : Word) (ovl settling : Bool) : Nat × Word :=
  let r := d.correct (setAin n gain) raw.toInt
  let v : Word := if ovl then (if raw.msb then 0x80000000#32 else 0x7FFFFFFF#32) else r.1
  let x := v.toInt
  let range := ovl || r.2 || decide (x < sNat 32 (d.get .AIN_RLO n)) || decide (sNat 32 (d.get .AIN_RHI n) < x)
  let open_ := d.on .AIN_CFG_OWEN n && decide (sNat 32 (d.get .AIN_OWTH n) ≤ x)
  ((if settling then 2 else 0) + (if open_ then 4 else 0) + (if range then 8 else 0), v)

/-- A result becomes the latest one of its input, ended at a time (R205). -/
def Dev.deliver (d : Dev) (n qual : Nat) (v : Word) (t : Nat) : Dev :=
  if d.on .x_RET_AIN n then d
  else (((d.put .AIN_RES n v.toNat).put .AIN_RINFO_QUAL n qual).bump .AIN_RINFO_CNT n 1).put .x_AIN_T n (t + 1)

/-- CONVERSION_RESULT: the conversion of the sequence ends with a raw value; `ovl` is a modulator overload (R204, R205). -/
def Dev.conversionResult (d : Dev) (k : Nat) (raw : Word) (ovl : Bool) : Dev :=
  let i := d.seqIdx k
  let t := d.get .x_SD_T0 k + d.get .SD_SEQ_OSR i * d.modPeriod k
  if d.fieldOn && d.on .x_SD_RUN k && decide (t ≤ d.now) && (!d.on .SD_UCTL_BUSY k || decide (t ≤ d.get .x_SD_UT0 k)) then
    let n := ainOf k (d.get .SD_SEQ_CH i)
    let set := d.get .x_SD_SET k
    let r := d.judge n (d.get .SD_SEQ_GAIN i) raw ovl (decide (0 < set))
    let d := (d.deliver n r.1 r.2 t).put .x_SD_SET k (set - 1)
    let done := d.get .x_SD_R k + 1
    let d :=
      if done ≤ d.get .SD_SEQ_REP i then d.put .x_SD_R k done
      else (d.put .x_SD_R k 0).put .SD_STAT_ENTRY k (if d.get .SD_STAT_ENTRY k < d.get .SD_CFG_NENT k then d.get .SD_STAT_ENTRY k + 1 else 0)
    d.convStart k t
  else d

/-! Urgent requests (R208, R209). -/

/-- An urgent request reaches the converter at a time. -/
def Dev.urgent (d : Dev) (k t : Nat) : Dev :=
  if !d.fieldOn || !d.on .SD_CFG_EN k then d
  else if d.on .SD_UCTL_BUSY k || d.on .SD_STAT_CALSUSP k then d.bumpSat .SD_UCTL_REJ k
  else
    let key := d.convKey k (d.get .SD_URG_CH k) (d.get .SD_URG_GAIN k) (d.get .SD_URG_FILT k) (d.get .SD_URG_OSR k)
    let run := d.get .x_SD_RUN k
    let d := ((d.abandon k).put .x_SD_RUN k run).put .x_SD_UCFG k key
    ((d.put .SD_UCTL_BUSY k 1).put .SD_STAT_URGACT k 1).put .x_SD_UT0 k (d.modEdge k t)

/-- A written request reaches the converter within 400 ns: when, is a free value. -/
def Dev.urgentReq (d : Dev) (k : Nat) : Dev :=
  let r := d.fresh
  let d1 : Dev := r.2
  d1.urgent k (d1.now + r.1 % 401)

/-- URGENT_TRIGGER. -/
def Dev.urgentTrigger (d : Dev) (k : Nat) : Dev :=
  match dueTick d.now (d.get .SD_UTIME_PERIOD k + 1) (d.get .SD_UTIME_TOFF k) (4 * d.get .SD_URG_SPHASE k) with
  | none => d
  | some n =>
    if d.fieldOn && d.on .SD_URG_TRIG k && decide (d.get .x_SD_TDONE k ≤ n) then
      (d.put .x_SD_TDONE k (n + 1)).urgent k (n * 1000 + 4 * d.get .SD_URG_SPHASE k)
    else d

/-- URGENT_RESULT: the urgent conversion ends; the sequence resumes with the interrupted entry, or with a new sequence (R207, R208). -/
def Dev.urgentResult (d : Dev) (k : Nat) (raw : Word) (ovl : Bool) : Dev :=
  let key := d.get .x_SD_UCFG k
  let filt := key / 32 % 4
  let t := d.get .x_SD_UT0 k + (settleOf filt + 1) * (key / 128 % 65536) * (if key / 2 ^ 23 % 2 = 1 then 800 else 100)
  if d.fieldOn && d.on .SD_UCTL_BUSY k && decide (t ≤ d.now) then
    let n := ainOf k (key % 4)
    let r := d.judge n (key / 4 % 8) raw ovl false
    let d := (d.deliver n r.1 r.2 t)
    let d := ((d.put .SD_URES k r.2.toNat).put .SD_UINFO_QUAL k r.1).bump .SD_UINFO_CNT k 1
    let d := if d.on .SD_UCTL_NOTE k then d.setFlags (d.get .SD_UCTL_NTASK k) (2 ^ d.get .SD_UCTL_NFLAG k) else d
    let entry := if d.on .x_SD_RST k then 0 else d.get .SD_STAT_ENTRY k
    (((d.put .SD_UCTL_BUSY k 0).put .SD_STAT_URGACT k 0).put .x_SD_RST k 0).seqStart k entry t
  else d

/-! Input tokens (R213). -/

/-- A calibration of input n is in progress. -/
def Dev.calInput (d : Dev) (n : Nat) : Bool :=
  d.on .CAL_STAT_ACTIVE 0 && decide (d.get .x_CAL_TGT 0 = 0) && decide (d.get .x_CAL_CH 0 = n)

/-- INPUT_TOKEN_INSTANT. -/
def Dev.inputToken (d : Dev) (n : Nat) : Dev :=
  let off := 4 * d.get .AIN_TOK_SPHASE n
  match dueTick d.now (d.get .AIN_TIME_PERIOD n + 1) (d.get .AIN_TIME_TOFF n) off with
  | none => d
  | some m =>
    if d.fieldOn && d.on .AIN_TOK_TEN n && !d.on .x_RET_AIN n && decide (d.get .x_AIN_DONE n ≤ m) then
      let at_ := m * 1000 + off
      let cal := if d.calInput n then 0x40 else 0
      let stale := decide (d.get .x_AIN_T n ≤ d.get .x_AIN_PT n)
      let d := (d.put .x_AIN_DONE n (m + 1)).put .x_AIN_PT n (at_ + 1)
      if d.get .x_AIN_T n = 0 then d.fieldToken (.ain n) (d.get .AIN_TOK_DEST n) 1 (0x01 ||| cal) 0 m
      else d.fieldToken (.ain n) (d.get .AIN_TOK_DEST n) 1 (d.get .AIN_RINFO_QUAL n ||| cal ||| (if stale then 1 else 0)) (d.get .AIN_RES n) m
    else d

/-- A read of SDk_URES (R214). -/
def Dev.uresRead (d : Dev) (k : Nat) : Dev :=
  d.capture [(.SD_UINFO_QUAL, k, d.get .SD_UINFO_QUAL k), (.SD_UINFO_CNT, k, d.get .SD_UINFO_CNT k)]

/-- A read of AINn_RES (R215). -/
def Dev.resRead (d : Dev) (n : Nat) : Dev :=
  d.capture [(.AIN_RINFO_QUAL, n, d.get .AIN_RINFO_QUAL n), (.AIN_RINFO_CNT, n, d.get .AIN_RINFO_CNT n)]

/-! Fast SAR pairs (R220, R221). -/

/-- The latest sample tick of subscriber k of pair p and its instant. -/
def Dev.sarInstant (d : Dev) (p k : Nat) : Option (Nat × Nat) :=
  let dest := d.get .SAR_SUB_DESTA (4 * p + k)
  if dest / 4096 = 0 then
    let g := dest / 16
    if !d.slotEn g || d.held 0 then none
    else match dueTick d.now (d.period g) (d.get .SLOT_TIME_TOFF g) (4 * d.get .SLOT_PH_SPHASE g) with
      | some n => if d.firstFiring g ≤ n then some (n, d.sampleAt g n) else none
      | none => none
  else
    (dueTick d.now (d.get .SAR_TIME_PERIOD p + 1) (d.get .SAR_TIME_TOFF p) (4 * d.get .SAR_CFG_SPHASE p)).map
      (fun n => (n, n * 1000 + 4 * d.get .SAR_CFG_SPHASE p))

/-- Enabled subscribers with an instant not handled yet: subscriber, tick, instant. -/
def Dev.sarDue (d : Dev) (p : Nat) : List (Nat × Nat × Nat) :=
  (List.range 4).filterMap (fun k =>
    if d.get .SAR_SEN p / 2 ^ k % 2 = 1 then
      match d.sarInstant p k with
      | some (n, t) => if d.get .x_SAR_DONE (4 * p + k) ≤ t then some (k, n, t) else none
      | none => none
    else none)

/-- SAR_SAMPLE_INSTANT: the earliest instant due; every subscriber whose instant coincides is served by the one conversion. -/
def Dev.sarSample (d : Dev) (p : Nat) : Dev :=
  let due := d.sarDue p
  if d.fieldOn && d.on .SAR_CFG_EN p && !due.isEmpty then
    let t := due.foldl (fun m x => min m x.2.2) (due.headD (0, 0, 0)).2.2
    let now_ := due.filter (fun x => decide (x.2.2 = t))
    let d := now_.foldl (fun d x => d.put .x_SAR_DONE (4 * p + x.1) (t + 1)) d
    let e := d.get .x_SAR_END p
    let d := if t < e then d.bumpSat .SAR_STAT_COLL p else d
    let start := max t e
    Dev.put { d with sarq := d.sarq ++ [{ pair := p, start := start, subs := now_.map (fun x => (x.1, x.2.1)) }] } .x_SAR_END p (start + 200)
  else d

/-- The value and QUAL of a SAR code of FAINn. -/
def Dev.sarValue (d : Dev) (n code : Nat) : Nat × Nat :=
  (((d.correct (setFain n) (((code : Int) - 32768) * 65536)).1).toNat, if code = 0 ∨ code = 65535 then 0x08 else 0x00)

/-- SAR_CONVERSION_END: the earliest conversion of the pair ends with the two codes. -/
def Dev.sarEnd (d : Dev) (p codeA codeB : Nat) : Dev :=
  match d.sarq.find? (fun c => decide (c.pair = p)) with
  | none => d
  | some c =>
    if d.fieldOn && decide (c.start + 200 ≤ d.now) then
      let d : Dev := { d with sarq := d.sarq.erase c }
      if !d.on .SAR_CFG_EN p then d
      else
        let a := d.sarValue (2 * p) codeA
        let b := d.sarValue (2 * p + 1) codeB
        let d := (d.put .SAR_RES_CODEA p codeA).put .SAR_RES_CODEB p codeB
        let d := if a.2 = 0 then d else d.put .SAR_STAT_CLIPA p 1
        let d := if b.2 = 0 then d else d.put .SAR_STAT_CLIPB p 1
        c.subs.foldl (fun d x =>
          let i := 4 * p + x.1
          let d := if d.on .x_RET_AIN (64 + 2 * p) then d else d.fieldToken (.sar p) (d.get .SAR_SUB_DESTA i) 1 a.2 a.1 x.2
          if d.on .x_RET_AIN (64 + 2 * p + 1) then d else d.fieldToken (.sar p) (d.get .SAR_SUB_DESTB i) 1 b.2 b.1 x.2) d
    else d

/-! The commands. -/

/-- CONVERSION_RESULT (R205). -/
def execConversionResult (k : Fin 16) (raw : BitVec 32) (ovl : Bool) (s : State) := act s (fun d => d.conversionResult k raw ovl)
/-- URGENT_REQ (R208). -/
def execUrgentReq (k : Fin 16) (s : State) := act s (fun d => d.urgentReq k)
/-- URGENT_TRIGGER (R208). -/
def execUrgentTrigger (k : Fin 16) (s : State) := act s (fun d => d.urgentTrigger k)
/-- URGENT_RESULT (R208). -/
def execUrgentResult (k : Fin 16) (raw : BitVec 32) (ovl : Bool) (s : State) := act s (fun d => d.urgentResult k raw ovl)
/-- URES_READ (R214). -/
def execUresRead (k : Fin 16) (s : State) := act s (fun d => d.uresRead k)
/-- RES_READ (R215). -/
def execResRead (n : Fin 64) (s : State) := act s (fun d => d.resRead n)
/-- INPUT_TOKEN_INSTANT (R213). -/
def execInputTokenInstant (n : Fin 64) (s : State) := act s (fun d => d.inputToken n)
/-- SAR_SAMPLE_INSTANT (R221). -/
def execSarSampleInstant (p : Fin 10) (s : State) := act s (fun d => d.sarSample p)
/-- SAR_CONVERSION_END (R220). -/
def execSarConversionEnd (p : Fin 10) (codeA codeB : BitVec 16) (s : State) := act s (fun d => d.sarEnd p codeA.toNat codeB.toNat)

end Sys2Proof.Machine
end

