-- ==== Sys2Proof/Machine/Aout.lean ====
section
/-!
DEFINITION. System calibration, loop outputs and FSK modems (R216 to R219, R223 to R234).
-/

namespace Sys2Proof.Machine

/-! Calibration (R217, R218). -/

/-- A calibration of AOUTn is in progress. -/
def Dev.calOutput (d : Dev) (n : Nat) : Bool :=
  d.on .CAL_STAT_ACTIVE 0 && decide (d.get .x_CAL_TGT 0 = 2) && decide (d.get .x_CAL_CH 0 = n)

/-- The written fields of CAL_CTL; an NAVG above 8 leaves the field unchanged (R217). -/
def Dev.calFields (d : Dev) (tgt ch gain navg : Nat) : Dev :=
  let d := ((d.put .CAL_CTL_TGT 0 tgt).put .CAL_CTL_CH 0 ch).put .CAL_CTL_GAIN 0 gain
  if navg ≤ 8 then d.put .CAL_CTL_NAVG 0 navg else d

/-- A command is refused with a code. -/
def Dev.calRefuse (d : Dev) (err : Nat) : Dev := d.put .CAL_STAT_ERR 0 err

/-- A command runs. -/
def Dev.calRun (d : Dev) (cmd : Nat) : Dev := (d.put .CAL_STAT_BUSY 0 1).put .x_CAL_CMD 0 cmd

/-- The written target is the one of the calibration in progress. -/
def Dev.calSame (d : Dev) : Bool :=
  d.on .CAL_STAT_ACTIVE 0 && decide (d.get .CAL_CTL_TGT 0 = d.get .x_CAL_TGT 0) && decide (d.get .CAL_CTL_CH 0 = d.get .x_CAL_CH 0) &&
    (decide (d.get .x_CAL_TGT 0 ≠ 0) || decide (d.get .CAL_CTL_GAIN 0 = d.get .x_CAL_GAIN 0))

/-- The target of the written fields exists. -/
def Dev.calExists (d : Dev) (output : Bool) : Bool :=
  let t := d.get .CAL_CTL_TGT 0
  let ch := d.get .CAL_CTL_CH 0
  if output then decide (t = 2) && decide (ch < 32) else decide (t = 0) || (decide (t = 1) && decide (ch < 20))

/-- The target is available (ERR 0x02). -/
def Dev.calAvailable (d : Dev) : Bool :=
  let t := d.get .CAL_CTL_TGT 0
  let ch := d.get .CAL_CTL_CH 0
  if t = 0 then d.on .SD_CFG_EN (ch / 4)
  else if t = 1 then decide (d.get .SAR_SEN (ch / 2) = 0)
  else d.on .AOUT_CFG_EN ch && !d.on .AOUT_CFG_MDROP ch

/-- A calibration begins with a command and a step. -/
def Dev.calBegin (d : Dev) (cmd step : Nat) : Dev :=
  let d := ((d.put .CAL_STAT_ACTIVE 0 1).put .x_CAL_STEP 0 step).put .x_CAL_TGT 0 (d.get .CAL_CTL_TGT 0)
  ((d.put .x_CAL_CH 0 (d.get .CAL_CTL_CH 0)).put .x_CAL_GAIN 0 (d.get .CAL_CTL_GAIN 0)).calRun cmd

/-- Commands that start a calibration: ZERO of an input, OUTLO of an output. -/
def Dev.calStart (d : Dev) (output : Bool) (cmd step : Nat) (eff : Dev → Dev) : Dev :=
  if d.held 2 then d
  else if d.on .CAL_STAT_ACTIVE 0 then d.calRefuse 0x01
  else if !d.calExists output then d.calRefuse 0x04
  else if !d.calAvailable then d.calRefuse 0x02
  else eff (d.calBegin cmd step)

/-- ZERO suspends the converter of an analogue input for the whole calibration. -/
def Dev.calZero (d : Dev) : Dev :=
  d.calStart false 1 1 (fun d =>
    if d.get .x_CAL_TGT 0 = 0 then (d.abandon (d.get .x_CAL_CH 0 / 4)).put .SD_STAT_CALSUSP (d.get .x_CAL_CH 0 / 4) 1 else d)

/-- The calibration ends: a suspended converter converts the interrupted entry again. -/
def Dev.calEnd (d : Dev) : Dev :=
  let k := d.get .x_CAL_CH 0 / 4
  let tgt := d.get .x_CAL_TGT 0
  let d := (d.put .CAL_STAT_ACTIVE 0 0).put .x_CAL_STEP 0 0
  if tgt = 0 then
    let d := d.put .SD_STAT_CALSUSP k 0
    if d.on .SD_UCTL_BUSY k then d else d.seqStart k (d.get .SD_STAT_ENTRY k) d.now
  else if tgt = 2 then d.put .x_AO_WR (d.get .x_CAL_CH 0) 1
  else d

/-- GAIN and OFFSET in range (ERR 0x03). -/
def gainOk (g : Int) : Bool := decide (0x20000000 ≤ g) && decide (g ≤ 0x80000000)

/-- SPAN of an output (R218). -/
def Dev.spanOut (d : Dev) : Dev :=
  let lo : Int := d.get .CAL_MLO 0
  let dd : Int := (d.get .CAL_MHI 0 : Int) - lo
  let g := rneInt (2 ^ 30 * 53498 * 19600000) (65535 * dd)
  let o := 2675 + rneInt ((3200000 - lo) * 53498) dd
  if dd ≤ 0 ∨ !gainOk g ∨ o < -4096 ∨ 4096 < o then d.calRefuse 0x03
  else (((d.sput .CAL_GAIN 0 g).sput .CAL_OFS 0 o).put .x_CAL_STEP 0 5).calRun 2

/-- SPAN (R217). -/
def Dev.calSpan (d : Dev) : Dev :=
  if d.held 2 then d
  else if !d.calSame || d.on .CAL_STAT_BUSY 0 then d.calRefuse 0x01
  else if d.get .x_CAL_TGT 0 = 2 then
    if d.get .x_CAL_STEP 0 ≥ 4 then d.spanOut else d.calRefuse 0x01
  else d.calRun 2

/-- STORE: the set goes to MRAM in one store and the calibration ends. -/
def Dev.calStore (d : Dev) : Dev :=
  if d.held 2 then d
  else if !d.calSame || d.on .CAL_STAT_BUSY 0 || !(decide (d.get .x_CAL_STEP 0 = 2) || decide (d.get .x_CAL_STEP 0 = 5)) then d.calRefuse 0x01
  else
    let ch := d.get .x_CAL_CH 0
    let t := d.get .x_CAL_TGT 0
    let a := if t = 0 then setAin ch (d.get .x_CAL_GAIN 0) else if t = 1 then setFain ch else setAout ch
    ((d.wr a 8 (d.get .CAL_OFS 0 + 2 ^ 32 * d.get .CAL_GAIN 0)).calEnd).calRun 3

/-- CANCEL: the calibration ends. -/
def Dev.calCancel (d : Dev) : Dev := if d.held 2 then d else if d.on .CAL_STAT_ACTIVE 0 then d.calEnd.calRun 4 else d

/-- OUTLO. -/
def Dev.calOutlo (d : Dev) : Dev := d.calStart true 5 3 (fun d => d.put .x_AO_WR (d.get .x_CAL_CH 0) 1)

/-- OUTHI. -/
def Dev.calOuthi (d : Dev) : Dev :=
  if d.held 2 then d
  else if !d.calSame || d.on .CAL_STAT_BUSY 0 || !(decide (d.get .x_CAL_STEP 0 = 3) || decide (d.get .x_CAL_STEP 0 = 4) || decide (d.get .x_CAL_STEP 0 = 5)) then
    d.calRefuse 0x01
  else ((d.put .x_CAL_STEP 0 4).put .x_AO_WR (d.get .x_CAL_CH 0) 1).calRun 6

/-- CAL_COMMAND_DONE: the running command ends; ZERO and SPAN of an input with the average of their results (R217). -/
def Dev.calDone (d : Dev) (avg : Word) : Dev :=
  if !d.fieldOn || !d.on .CAL_STAT_BUSY 0 then d
  else
    let cmd := d.get .x_CAL_CMD 0
    let d := (d.put .CAL_STAT_BUSY 0 0).put .x_CAL_CMD 0 0
    let d1 :=
      if cmd = 1 then d.put .CAL_OFS 0 avg.toNat
      else if cmd = 2 ∧ d.get .x_CAL_TGT 0 ≠ 2 then
        let x := avg.toInt - sNat 32 (d.get .CAL_OFS 0)
        let g := rneInt (sNat 32 (d.get .CAL_REF 0) * 2 ^ 30) x
        if x = 0 ∨ !gainOk g then d.calRefuse 0x03 else (d.sput .CAL_GAIN 0 g).put .x_CAL_STEP 0 2
      else d
    d1.put .CAL_STAT_DONE 0 1

/-! Loop outputs (R223 to R227). -/

/-- The code of a stage value before the limits: none is below every code, and `true` above every code, for the infinities (R223). -/
def nominal (ty v : Nat) : Option Int × Bool :=
  if ty = 0 then (some (rne ((8 * 2 ^ 31 + 160 * sNat 32 v) * 65535) (196 * 2 ^ 31)), false)
  else if ty = 1 then
    match f32.unpack v with
    | .nan _ => (none, false)
    | .inf s => (none, !s)
    | .num s m e =>
      let x : Int := if s then -(m : Int) else m
      let up := 2 ^ e.toNat
      let down := 2 ^ (-e).toNat
      (some (rne ((10 * x * (up : Nat) - 32 * (down : Nat)) * 65535) (196 * down)), false)
  else (some (sNat 32 v), false)

/-- The value of R223 limited to LLO to LHI, and whether it was outside. -/
def Dev.signalCode (d : Dev) (n : Nat) : Nat × Bool :=
  let lo := d.get .AOUT_LIM_LLO n
  let hi := d.get .AOUT_LIM_LHI n
  match nominal (d.get .OS_CFG_TYPE (0x20 + n)) (d.stageVal (0x20 + n)) with
  | (none, up) => (if up then hi else lo, true)
  | (some c, _) => if c < lo then (lo, true) else if (hi : Int) < c then (hi, true) else (c.toNat, false)

/-- A nominal code corrected (R216). -/
def Dev.correctCode (d : Dev) (n c : Nat) : Nat :=
  let x := rne ((c * d.rd (setAout n + 4) 4 : Nat) : Int) (2 ^ 30) + sNat 32 (d.rd (setAout n) 4)
  if x < 0 then 0 else if 65535 < x then 65535 else x.toNat

/-- Case 1 of R224: the gate is off. -/
def Dev.gateOff (d : Dev) (n : Nat) : Bool := !d.on .AOUT_CFG_EN n || d.on .x_RET_AO n || !d.fieldActs

/-- CODE, ALARM and CLAMP of output n (R224). -/
def Dev.outCode (d : Dev) (n : Nat) : Nat × Bool × Bool :=
  let alarm := d.on .AOUT_CFG_AFORCE n || decide (d.stageQual (0x20 + n) &&& d.get .AOUT_CFG_AQMASK n ≠ 0)
  if d.gateOff n then (0, false, false)
  else if d.calOutput n then (if d.get .x_CAL_STEP 0 = 3 then 0x0A73 else 0xDB6D, false, false)
  else if d.on .AOUT_CFG_MDROP n then (d.correctCode n 0x0A73, false, false)
  else if alarm then (d.correctCode n (if d.on .AOUT_CFG_ADIR n then d.get .AOUT_ALM_AHI n else d.get .AOUT_ALM_ALO n), true, false)
  else let c := d.signalCode n; (d.correctCode n c.1, false, c.2)

/-- The DAC takes the present code. -/
def Dev.dacTake (d : Dev) (n : Nat) : Dev :=
  let r := d.outCode n
  let d := ((d.put .AOUT_STAT_CODE n r.1).flag .AOUT_STAT_ALARM n r.2.1).put .x_AO_WR n 0
  if r.2.2 then d.put .AOUT_STAT_CLAMP n 1 else d

/-- DAC_UPDATE: 500 ns after the output instant or the commit tick, or within 1 µs of a write (R225). -/
def Dev.dacUpdate (d : Dev) (n : Nat) : Dev :=
  if d.held 2 || !d.clocked then d
  else if d.on .x_AO_WR n || (decide (d.get .x_OS_WAT (0x20 + n) + 500 ≤ d.now) && decide (d.get .x_AO_CMT n + 499 ≤ d.now)) then d.dacTake n
  else d

/-- AFORCE_WRITE (R224, R225). -/
def Dev.aforce (d : Dev) (n : Nat) (x : Bool) : Dev := if d.held 2 then d else (d.flag .AOUT_CFG_AFORCE n x).put .x_AO_WR n 1

/-- HEADROOM_CHANGE (R227). -/
def Dev.headroom (d : Dev) (n : Nat) (x : Bool) : Dev :=
  if !d.fieldOn then d
  else
    let d := d.flag .AOUT_STAT_HEADROOM n x
    if x then d.put .AOUT_STAT_HRSEEN n 1 else d

/-! FSK modems (R229 to R234). -/

/-- Nothing sent or held. -/
def Fsk.idle : Fsk := { tx := [], hold := [], drop := false }

/-- The bytes of modem b. -/
def Dev.fskOf (d : Dev) (b : Nat) : Fsk := natGet Fsk.idle b d.fsk

/-- Writes the bytes of modem b. -/
def Dev.setFsk (d : Dev) (b : Nat) (x : Fsk) : Dev := { d with fsk := natSet Fsk.idle b x d.fsk }

/-- The modem works. -/
def Dev.fmOn (d : Dev) (b : Nat) : Bool := d.fieldActs && d.on .FM_CFG_EN b

/-- FSK_BURST_START: the oldest packet of TXQ is sent as one burst, at least 1 bit time after the one before (R231). -/
def Dev.burstStart (d : Dev) (b : Nat) : Dev :=
  let q := d.get .FM_CFG_TXQ b
  let free := decide (d.get .x_FM_END b = 0) || decide (d.get .x_FM_END b - 1 + 833334 ≤ d.now)
  if d.fmOn b && !d.on .FM_STAT_TX b && free && !(d.queue q).pkts.isEmpty then
    let bytes := (d.qpeek q).map (fun i => i % 256)
    (((d.qtakePacket q).setFsk b { d.fskOf b with tx := bytes }).put .FM_STAT_TX b 1).put .x_FM_T0 b d.now
  else d

/-- FSK_BURST_END: after 2 bit times of mark and 11 bits for each byte (R231). -/
def Dev.burstEnd (d : Dev) (b : Nat) : Dev :=
  if d.fmOn b && d.on .FM_STAT_TX b && decide (d.get .x_FM_T0 b + (2 + 11 * (d.fskOf b).tx.length) * 2500000 / 3 ≤ d.now) then
    ((d.setFsk b { d.fskOf b with tx := [] }).put .FM_STAT_TX b 0).put .x_FM_END b (d.now + 1)
  else d

/-- A place in RXQ. -/
def Dev.rxRoom (d : Dev) (q : Nat) : Bool := decide ((d.queue q).level + (d.queue q).unc < d.qcap q)

/-- Held bytes enter RXQ while it has places; a packet whose carrier has ended is committed behind them (R232). -/
def Dev.fskDrain (d : Dev) (b : Nat) : Dev :=
  let q := d.get .FM_CFG_RXQ b
  let d := timesN 4 (fun d =>
    match (d.fskOf b).hold with
    | [] => d
    | i :: t => if d.rxRoom q then (d.qstore q i).setFsk b { d.fskOf b with hold := t } else d) d
  if d.on .x_FM_CMTP b && (d.fskOf b).hold.isEmpty then (d.qcommit q).put .x_FM_CMTP b 0 else d

/-- FSK_BYTE_RECEIVED (R230, R232). -/
def Dev.fskByte (d : Dev) (b data : Nat) (par frm : Bool) : Dev :=
  let after := decide (d.get .x_FM_END b ≠ 0) && decide (d.now < d.get .x_FM_END b - 1 + 833334)
  if !d.fmOn b || d.on .FM_STAT_TX b || after then d
  else
    let q := d.get .FM_CFG_RXQ b
    let item := data + (if par then 256 else 0) + (if frm then 512 else 0)
    let d := if par then d.bumpSat .FM_ERR_PERR b else d
    let d := (if frm then d.bumpSat .FM_ERR_FERR b else d).fskDrain b
    let x := d.fskOf b
    if x.drop then d.bump .FM_LOST b 1
    else if x.hold.isEmpty && d.rxRoom q then d.qstore q item
    else if x.hold.length < 4 then d.setFsk b { x with hold := x.hold ++ [item] }
    else ((d.qrewind q).setFsk b { x with hold := [], drop := true }).bump .FM_LOST b (x.hold.length + 1)

/-- CARRIER_DETECT_CHANGE; a carrier that ends commits the packet (R230, R232). -/
def Dev.carrier (d : Dev) (b : Nat) (cd : Bool) : Dev :=
  if !d.fmOn b then d
  else
    let was := d.on .FM_STAT_CD b
    let d := d.flag .FM_STAT_CD b cd
    if was && !cd then ((d.setFsk b { d.fskOf b with drop := false }).put .x_FM_CMTP b 1).fskDrain b else d

/-- EN of a modem takes effect or is cleared: its queues attach or detach (R128, R231, R232). -/
def Dev.fmAttach (d : Dev) (b : Nat) : Dev :=
  if d.on .FM_CFG_EN b then (d.qattach (d.get .FM_CFG_TXQ b) 1).qattach (d.get .FM_CFG_RXQ b) 2
  else ((d.qdetach (d.get .FM_CFG_TXQ b)).qdetach (d.get .FM_CFG_RXQ b)).setFsk b Fsk.idle

/-- A committed change of CHAN, or of EN to 0, that finds the modem busy waits (R233). -/
def Dev.fmChange (d : Dev) (b en ch : Nat) : Dev :=
  let busy := d.on .FM_STAT_TX b || d.on .FM_STAT_CD b
  let was := d.get .FM_CFG_EN b
  let waits := busy && ((decide (was = 1) && decide (en = 0)) || decide (d.get .FM_CFG_CHAN b ≠ ch))
  if waits then ((d.put .FM_STAT_CHPEND b 1).put .x_FM_NEN b en).put .x_FM_NCH b ch
  else
    let d := ((d.put .FM_CFG_EN b en).put .FM_CFG_CHAN b ch).put .FM_STAT_CHPEND b 0
    if was = en then d else d.fmAttach b

/-- CHAN_CHANGE_TAKES_EFFECT: the modem neither transmits nor sees CD (R233). -/
def Dev.chanChange (d : Dev) (b : Nat) : Dev :=
  if d.fieldOn && d.on .FM_STAT_CHPEND b && !d.on .FM_STAT_TX b && !d.on .FM_STAT_CD b then
    d.fmChange b (d.get .x_FM_NEN b) (d.get .x_FM_NCH b)
  else d

/-! The commands. -/

/-- A calibration command with the fields of its write. -/
def calCmd (tgt : BitVec 2) (ch : BitVec 6) (gain : BitVec 3) (navg : BitVec 4) (eff : Dev → Dev) (s : State) :=
  act s (fun d => if d.held 2 then d else eff (d.calFields tgt.toNat ch.toNat gain.toNat navg.toNat))

/-- ZERO (R217). -/
def execZero (tgt : BitVec 2) (ch : BitVec 6) (gain : BitVec 3) (navg : BitVec 4) (s : State) := calCmd tgt ch gain navg Dev.calZero s
/-- SPAN (R217). -/
def execSpan (tgt : BitVec 2) (ch : BitVec 6) (gain : BitVec 3) (navg : BitVec 4) (s : State) := calCmd tgt ch gain navg Dev.calSpan s
/-- STORE (R217). -/
def execStore (tgt : BitVec 2) (ch : BitVec 6) (gain : BitVec 3) (navg : BitVec 4) (s : State) := calCmd tgt ch gain navg Dev.calStore s
/-- CANCEL (R217). -/
def execCancel (tgt : BitVec 2) (ch : BitVec 6) (gain : BitVec 3) (navg : BitVec 4) (s : State) := calCmd tgt ch gain navg Dev.calCancel s
/-- OUTLO (R217). -/
def execOutlo (tgt : BitVec 2) (ch : BitVec 6) (gain : BitVec 3) (navg : BitVec 4) (s : State) := calCmd tgt ch gain navg Dev.calOutlo s
/-- OUTHI (R217). -/
def execOuthi (tgt : BitVec 2) (ch : BitVec 6) (gain : BitVec 3) (navg : BitVec 4) (s : State) := calCmd tgt ch gain navg Dev.calOuthi s
/-- CAL_COMMAND_DONE (R217). -/
def execCalCommandDone (avg : BitVec 32) (s : State) := act s (fun d => d.calDone avg)
/-- DAC_UPDATE (R225). -/
def execDacUpdate (n : Fin 32) (s : State) := act s (fun d => d.dacUpdate n)
/-- AFORCE_WRITE (R225). -/
def execAforceWrite (n : Fin 32) (x : Bool) (s : State) := act s (fun d => d.aforce n x)
/-- HEADROOM_CHANGE (R227). -/
def execHeadroomChange (n : Fin 32) (x : Bool) (s : State) := act s (fun d => d.headroom n x)
/-- CARRIER_DETECT_CHANGE (R230). -/
def execCarrierDetectChange (b : Fin 4) (cd : Bool) (s : State) := act s (fun d => d.carrier b cd)
/-- FSK_BURST_START (R231). -/
def execFskBurstStart (b : Fin 4) (s : State) := act s (fun d => d.burstStart b)
/-- FSK_BURST_END (R231). -/
def execFskBurstEnd (b : Fin 4) (s : State) := act s (fun d => d.burstEnd b)
/-- FSK_BYTE_RECEIVED (R232). -/
def execFskByteReceived (b : Fin 4) (data : BitVec 8) (par frm : Bool) (s : State) := act s (fun d => d.fskByte b data.toNat par frm)
/-- CHAN_CHANGE_TAKES_EFFECT (R233). -/
def execChanChangeTakesEffect (b : Fin 4) (s : State) := act s (fun d => d.chanChange b)

end Sys2Proof.Machine
end

