-- ==== Sys2Proof/Machine/Olisol.lean ====
section
/-!
DEFINITION. The Olisol link engines (R235 to R254).
-/

namespace Sys2Proof.Machine

/-! CRC-32 and frames (R239, R240). -/

/-- One bit of the reflected CRC-32. -/
def crc32Step : Nat → Nat → Nat
  | 0, c => c
  | n + 1, c => crc32Step n (if c % 2 = 1 then c / 2 ^^^ 0xEDB88320 else c / 2)

/-- CRC-32 of IEEE 802.3 over bytes. -/
def crc32 (l : List Nat) : Nat := (l.foldl (fun c b => crc32Step 8 (c ^^^ b % 256)) 0xFFFFFFFF) ^^^ 0xFFFFFFFF

/-- The low `n` bytes of a number, least significant first. -/
def leBytes : Nat → Nat → List Nat
  | 0, _ => []
  | n + 1, v => v % 256 :: leBytes n (v / 256)

/-- The number that bytes spell, least significant first. -/
def leNat : List Nat → Nat
  | [] => 0
  | b :: t => b % 256 + 256 * leNat t

/-- Stations with a block. -/
def stationsOf (present : Nat) : List Nat := (List.range 8).filter (fun s => decide (present / 2 ^ s % 2 = 1))

/-- The present stations of link k. -/
def Dev.stations (d : Dev) (k : Nat) : List Nat := stationsOf (d.get .OL_SEL_PRESENT k)

/-- Tick of the present cycle start. -/
def Dev.olTc (d : Dev) (k : Nat) : Nat := d.get .x_OL_DONE k - 1

/-- Completion offset of a configuration (R237). -/
def cmplOf (v : F → Nat → Nat) (k : Nat) : Nat :=
  let b := 44 + ((stationsOf (v .OL_SEL_PRESENT k)).map (fun s => v .STN_LEN_OLEN (8 * k + s) + v .STN_LEN_ILEN (8 * k + s) + 16)).sum
  4 * v .OL_TIME_TXD k + 20 * (b + 2) + 4 * v .OL_TIME_RTTMAX k

/-- Whether a configuration passes the check of R237. -/
def olCfgOk (v : F → Nat → Nat) (k : Nat) : Bool := decide (cmplOf v k + 500 ≤ 1000 * v .OL_CFG_CYC k)

/-- The frame of the present cycle (R239). -/
def Dev.olBuild (d : Dev) (k : Nat) : List Nat :=
  let snap := natGet [] k d.olSnap
  let head := [0x01, d.get .OL_CFG_SAFE k, k, d.get .OL_CFG_WD k] ++ leBytes 4 (d.olTc k) ++ leBytes 4 (d.get .PAIR_EPOCH 0) ++
    leBytes 2 (d.get .OL_CFG_CYC k) ++ leBytes 2 (d.get .OL_TIME_TXD k) ++ leBytes 4 (if d.on .x_OL_RTTOK k then d.get .OL_RTT k else 0) ++
    ((List.range 8).map (fun s => [d.get .STN_LEN_OLEN (8 * k + s), d.get .STN_LEN_ILEN (8 * k + s)])).flatten ++
    [d.get .OL_SEL_PRESENT k, 0, 0, 0]
  let block := fun s =>
    let out := snap.getD s []
    let inb := List.replicate (d.get .STN_LEN_ILEN (8 * k + s) + 8) 0
    out ++ leBytes 4 (crc32 out) ++ inb ++ leBytes 4 (2 ^ 32 - 1 - crc32 inb)
  head ++ leBytes 4 (crc32 head) ++ ((d.stations k).map block).flatten

/-! The cycle (R236 to R238). -/

/-- A link port that sends frames. -/
def Dev.olSends (d : Dev) (k : Nat) : Bool := d.fieldActs && !d.on .x_RET_LNK k && d.on .OL_CFG_EN k

/-- Whether the receive queue is attached. -/
def Dev.olUsesQ (d : Dev) (k : Nat) : Bool := d.on .OL_CFG_EN k && d.on .OL_SEL_RXSEL k

/-- A configuration takes effect; the receive queue attaches or detaches (R128, R237, R249). -/
def Dev.olApply (d : Dev) (k : Nat) (l : List (F × Nat × Nat)) : Dev :=
  let had := d.olUsesQ k
  let q0 := d.get .OL_SEL_RXQ k
  let d := l.foldl (fun d x => d.put x.1 x.2.1 x.2.2) d
  let d := d.put .OL_CMPL k (cmplOf d.get k)
  let d := if had then d.qdetach q0 else d
  if d.olUsesQ k then d.qattach (d.get .OL_SEL_RXQ k) 2 else d

/-- A field of link k, with what waits for a cycle start. -/
def olWith (d : Dev) (l : List (F × Nat × Nat)) (f : F) (i : Nat) : Nat :=
  match l.find? (fun x => decide (x.1 = f) && decide (x.2.1 = i)) with
  | some x => x.2.2
  | none => d.get f i

/-- A commit of link k's fields at its tick: checked, then it waits for a cycle start; a link that stays disabled takes it at once
(R237). -/
def Dev.olCommit (d : Dev) (k : Nat) (l : List (F × Nat × Nat)) : Dev :=
  let merged := l ++ (natGet [] k d.olPend).filter (fun x => !l.any (fun y => decide (y.1 = x.1) && decide (y.2.1 = x.2.1)))
  let v := olWith d merged
  if !olCfgOk v k then d.put .OL_SEL_REJ k 1
  else if !d.on .OL_CFG_EN k && decide (v .OL_CFG_EN k = 0) then Dev.olApply { d with olPend := mapErase k d.olPend } k merged
  else Dev.put { d with olPend := natSet [] k merged d.olPend } .x_OL_PT k d.tick

/-- LINK_CYCLE_START: at Tc a waiting configuration takes effect and the cycle starts (R236, R237). -/
def Dev.linkStart (d : Dev) (k : Nat) : Dev :=
  let pend := natGet [] k d.olPend
  let on_ := d.on .OL_CFG_EN k
  let v := if on_ then d.get else olWith d pend
  if d.fieldActs && !d.on .x_RET_LNK k && decide (v .OL_CFG_EN k = 1) then
    match dueTick d.now (v .OL_CFG_CYC k) (v .OL_CFG_COFF k) 0 with
    | none => d
    | some n =>
      let pt := d.get .x_OL_PT k
      if d.get .x_OL_DONE k ≤ n ∧ (on_ ∨ pt < n) then
        let d := if !pend.isEmpty && decide (pt ≤ n) then Dev.olApply { d with olPend := mapErase k d.olPend } k pend else d
        let d := (d.put .x_OL_DONE k (n + 1)).put .x_OL_PH k (if d.on .OL_CFG_EN k then 1 else 0)
        { d with olRx := d.olRx.filter (fun x => !decide (x.1 / 8 = k)) }
      else d
  else d

/-- OUTPUT_IMAGE_SNAPSHOT (R236). -/
def Dev.imageSnapshot (d : Dev) (k : Nat) : Dev :=
  if d.olSends k && decide (d.get .x_OL_PH k = 1) && decide (d.olTc k * 1000 + 100 ≤ d.now) then
    let snap := (List.range 8).map (fun s => (List.range (d.get .STN_LEN_OLEN (8 * k + s))).map (fun i => (d.byte (outImage k s i)).toNat))
    Dev.put { d with olSnap := natSet [] k snap d.olSnap } .x_OL_PH k 2
  else d

/-- FRAME_TRANSMIT (R236, R239). -/
def Dev.frameTransmit (d : Dev) (k : Nat) : Dev :=
  if d.olSends k && decide (d.get .x_OL_PH k = 2) && decide (d.olTc k * 1000 + 4 * d.get .OL_TIME_TXD k ≤ d.now) then
    let f := d.olBuild k
    (Dev.put { d with olFrame := natSet [] k f d.olFrame } .x_OL_PH k 3).bump .OL_FRAMES k 1
  else d

/-! The returned frame (R247 to R250). -/

/-- The items of a block's packet (R249). -/
def Dev.rxItems (d : Dev) (k s : Nat) (x : StnRx) : List Nat :=
  let ilen := d.get .STN_LEN_ILEN (8 * k + s)
  [d.olTc k % 2 ^ 32 * 2 ^ 32 + s * 2 ^ 24 + ilen * 2 ^ 16 + x.status * 2 ^ 8 + x.missed] ++
  (List.range ((ilen + 7) / 8)).map (fun j => leNat ((x.inb.drop (8 * j)).take 8)) ++ [x.epoch]

/-- The engine writes a block's packet and commits it, or rewinds it: a bad block always, a good one for want of room (R249). -/
def Dev.rxPacket (d : Dev) (k : Nat) (good : Bool) (items : List Nat) : Dev :=
  let q := d.get .OL_SEL_RXQ k
  if good then
    let r := d.qputPacket q items
    if r.1 then r.2 else r.2.bump .OL_RXLOST k 1
  else
    let room := d.qcap q - ((d.queue q).level + (d.queue q).unc)
    ((items.take room).foldl (fun d i => d.qstore q i) d).qrewind q

/-- STATION_BLOCK_RECEIVED: the bytes IN, TRAILER and ICRC of station s return, with the round trip of the frame in 0.25 ns. -/
def Dev.blockReceived (d : Dev) (k s : Nat) (bytes : List Nat) (rtt : Nat) : Dev :=
  if d.olSends k && decide (s ∈ d.stations k) then
    if d.get .x_OL_PH k = 4 then d.put .OL_STAT_LATESEEN k 1
    else if d.get .x_OL_PH k = 3 then
      let ilen := d.get .STN_LEN_ILEN (8 * k + s)
      let tr := bytes.drop ilen
      let good := decide (bytes.length = ilen + 12) && decide (crc32 (bytes.take (ilen + 8)) = leNat (tr.drop 8)) && decide (tr.getD 0 0 = s)
      let x : StnRx := { good := good, inb := bytes.take ilen, status := tr.getD 1 0 % 256, missed := tr.getD 2 0 % 256, epoch := leNat ((tr.drop 4).take 4) }
      let d : Dev := { d with olRx := d.olRx.filter (fun y => !decide (y.1 = 8 * k + s)) ++ [(8 * k + s, x)] }
      let d := (d.put .OL_RTT k rtt)
      let d := if 16 * d.get .OL_TIME_RTTMAX k < rtt then d.put .OL_STAT_RTTOVR k 1 else d
      let d := if d.olUsesQ k && decide (d.get .OL_SEL_RXSEL k / 2 ^ s % 2 = 1) then d.rxPacket k good (d.rxItems k s x) else d
      if good && decide (d.get .PAIR_EPOCH 0 < x.epoch) then
        let d := d.put .OL_STAT_EPOCHHI k 1
        if d.get .x_EPHI 0 < x.epoch + 1 then (d.put .x_EPHI 0 (x.epoch + 1)).put .x_EPL 0 (k + 1) else d
      else d
    else d
  else d

/-- One present station at the completion instant (R247). -/
def Dev.judgeStation (d : Dev) (k s : Nat) : Dev :=
  let i := 8 * k + s
  let d := d.bump .STN_CYCLES i 1
  match d.olRx.find? (fun y => decide (y.1 = i) && y.2.good) with
  | some y =>
    let x := y.2
    let d := forN (d.get .STN_LEN_ILEN i) (fun d j => d.setByte (inImage k s j) (BitVec.ofNat 8 (x.inb.getD j 0))) d
    let d := ((d.bump .STN_IN_OK i 1).put .STN_STAT_REPLIED i 1).put .STN_STAT_CONSEC i 0
    let d := ((d.put .STN_STAT_TSTAT i x.status).put .STN_EPOCH i x.epoch).bump .x_STNRX i 1
    if x.status % 2 = 1 ∧ x.status / 4 % 2 = 0 then d.bump .STN_OUT_ACK i 1 else d.bump .STN_OUT_NACK i 1
  | none =>
    (((d.bump .STN_IN_MISS i 1).put .STN_STAT_REPLIED i 0).bumpSat .STN_STAT_CONSEC i).bump .STN_OUT_NACK i 1

/-- COMPLETION_INSTANT (R238, R247). -/
def Dev.completion (d : Dev) (k : Nat) : Dev :=
  let t := d.olTc k * 1000 + d.get .OL_CMPL k
  if d.olSends k && decide (d.get .x_OL_PH k = 3) && decide (t ≤ d.now) then
    let ss := d.stations k
    let back := ss.all (fun s => d.olRx.any (fun y => decide (y.1 = 8 * k + s)))
    let d := if back then d else d.bump .OL_LATE k 1
    let d := d.bump .x_OL_NCY k 1
    let d := ss.foldl (fun d s => d.judgeStation k s) (d.flag .x_OL_RTTOK k (back && !ss.isEmpty))
    let got := (ss.filter (fun s => d.on .STN_STAT_REPLIED (8 * k + s))).length
    (d.put .x_OL_PH k 4).tapEvent (0x100 + k) (got + 256 * ss.length) (t / 1000) (t % 1000 / 4)
  else d

/-- The field of map m: WIDTH bytes of the input image, sign-extended with SGN; bytes beyond ILEN read 0 (R248). -/
def Dev.mapValue (d : Dev) (k m : Nat) : Nat :=
  let i := 32 * k + m
  let s := d.get .MAP_CFG_STATION i
  let off := d.get .MAP_CFG_OFFSET i
  let w := 2 ^ d.get .MAP_CFG_WIDTH i
  let v := sumBelow w (fun j => if off + j < d.get .STN_LEN_ILEN (8 * k + s) then (d.byte (inImage k s (off + j))).toNat * 256 ^ j else 0)
  if d.on .MAP_CFG_SGN i then uInt 32 (sNat (8 * w) v) else v

/-- INPUT_TOKEN_MAP: at Tc + CMPL + 4 m ns (R248). -/
def Dev.inputMap (d : Dev) (k m : Nat) : Dev :=
  let i := 32 * k + m
  let tc := d.olTc k
  if d.olSends k && decide (d.get .x_OL_PH k = 4) && d.on .MAP_CFG_EN i && decide (d.get .x_MAP_DONE i ≤ tc) &&
     decide (tc * 1000 + d.get .OL_CMPL k + 4 * m ≤ d.now) then
    let s := d.get .MAP_CFG_STATION i
    let ok := decide (s ∈ d.stations k) && d.on .STN_STAT_REPLIED (8 * k + s)
    let v := if d.on .x_STNRX (8 * k + s) then d.mapValue k m else 0
    (d.put .x_MAP_DONE i (tc + 1)).fieldToken (.link k) (d.get .MAP_DEST i) (tyCode (d.get .MAP_CFG_TY i)) (if ok then 0 else 1) v tc
  else d

/-- SYMBOL_LOCK_CHANGE (R235). -/
def Dev.symbolLock (d : Dev) (k : Nat) (x : Bool) : Dev := if d.held 2 then d else d.flag .OL_STAT_LINKUP k x

/-- FRAME_PASS_THROUGH: a port that sends no frames returns a received one (R246). -/
def Dev.passFrame (d : Dev) (k : Nat) (bytes : List Nat) : Dev :=
  if d.held 2 || d.olSends k then d else { d with olFrame := natSet [] k bytes d.olFrame }

/-- A read of Ss_CYCLES (R251). -/
def Dev.cyclesRead (d : Dev) (k s : Nat) : Dev :=
  let i := 8 * k + s
  d.capture [(.STN_IN_OK, i, d.get .STN_IN_OK i), (.STN_IN_MISS, i, d.get .STN_IN_MISS i), (.STN_OUT_ACK, i, d.get .STN_OUT_ACK i),
    (.STN_OUT_NACK, i, d.get .STN_OUT_NACK i)]

/-! The commands. -/

/-- LINK_CYCLE_START (R236). -/
def execLinkCycleStart (k : Fin 20) (s : State) := act s (fun d => d.linkStart k)
/-- OUTPUT_IMAGE_SNAPSHOT (R236). -/
def execOutputImageSnapshot (k : Fin 20) (s : State) := act s (fun d => d.imageSnapshot k)
/-- FRAME_TRANSMIT (R239). -/
def execFrameTransmit (k : Fin 20) (s : State) := act s (fun d => d.frameTransmit k)
/-- STATION_BLOCK_RECEIVED (R249). -/
def execStationBlockReceived (k : Fin 20) (st : Fin 8) (bytes : List (BitVec 8)) (rtt : BitVec 32) (s : State) :=
  act s (fun d => d.blockReceived k st (bytes.map BitVec.toNat) rtt.toNat)
/-- COMPLETION_INSTANT (R247). -/
def execCompletionInstant (k : Fin 20) (s : State) := act s (fun d => d.completion k)
/-- INPUT_TOKEN_MAP (R248). -/
def execInputTokenMap (k : Fin 20) (m : Fin 32) (s : State) := act s (fun d => d.inputMap k m)
/-- SYMBOL_LOCK_CHANGE (R235). -/
def execSymbolLockChange (k : Fin 20) (x : Bool) (s : State) := act s (fun d => d.symbolLock k x)
/-- FRAME_PASS_THROUGH (R246). -/
def execFramePassThrough (k : Fin 20) (bytes : List (BitVec 8)) (s : State) := act s (fun d => d.passFrame k (bytes.map BitVec.toNat))
/-- CYCLES_READ (R251). -/
def execCyclesRead (k : Fin 20) (st : Fin 8) (s : State) := act s (fun d => d.cyclesRead k st)

end Sys2Proof.Machine
end

