-- ==== Sys2Proof/Machine/Eth.lean ====
section
/-!
DEFINITION. The Ethernet ports (R255 to R263): reception, transmission, time stamps and gate control lists.
-/

namespace Sys2Proof.Machine

/-! Frames and times. -/

/-- Nanoseconds of one bit at a SPEED code (R255). -/
def ethBit (speed : Nat) : Nat := if speed = 0 then 100 else if speed = 1 then 10 else 1

/-- Nanoseconds of one byte at the present speed of port p. -/
def Dev.ethByte (d : Dev) (p : Nat) : Nat := 8 * ethBit (d.get .ETH_CFG_SPEED p)

/-- Bytes of a frame on the medium, padding and FCS included (R257). -/
def ethWire (len : Nat) : Nat := max len 60 + 4

/-- Time a frame takes, preamble and inter-frame gap included (R261). -/
def Dev.ethTime (d : Dev) (p len : Nat) : Nat := (8 + ethWire len + 12) * d.ethByte p

/-- The bytes of a packet's items, eight per item (R256). -/
def itemBytes (items : List Nat) : List Nat := (items.map (leBytes 8)).flatten

/-- Bytes as items, the last one padded with zeros (R256). -/
def bytesToItems (l : List Nat) : List Nat := (List.range ((l.length + 7) / 8)).map (fun j => leNat ((l.drop (8 * j)).take 8))

/-- The queue mapped to TQt, if its map byte has EN = 1 (R257, R263). -/
def Dev.tqMap (d : Dev) (p t : Nat) : Option Nat :=
  let m := (if t < 4 then d.get .ETH_TQMAP0 p / 256 ^ t else d.get .ETH_TQMAP1 p / 256 ^ (t - 4)) % 256
  if m / 128 = 1 then some (m % 64) else none

/-! Gate control lists (R261, R262). -/

/-- Time base of a port, ns. -/
def Dev.ethNow (d : Dev) (p : Nat) : Nat := d.tbNs (d.get .ETH_CFG_TBSEL p)

/-- First instant base + j × cyc, for whole j, that is not earlier than a given one. -/
def listStart (base cyc from_ : Nat) : Nat := if from_ ≤ base then base else base + ceilDiv (from_ - base) cyc * cyc

/-- NBASE in nanoseconds; its upper seconds are those of the time base (R263). -/
def Dev.nbase (d : Dev) (p : Nat) : Nat :=
  (d.ethNow p / 10 ^ 9 / 2 ^ 32 * 2 ^ 32 + d.get .ETH_NBASE_S p) * 10 ^ 9 + d.get .ETH_NBASE_NS p

/-- The cycle of the next SWAP; a cycle of 0 counts as 1 ns. -/
def Dev.ncyc (d : Dev) (p : Nat) : Nat := max 1 (d.get .ETH_NCYC p)

/-- Instant at which the waiting change of lists takes effect (R262). -/
def Dev.swapAt (d : Dev) (p : Nat) : Nat := listStart (d.nbase p) (d.ncyc p) (d.get .x_ETH_SWF p)

/-- A list: gates and length of each entry, first start and cycle. -/
structure Gcl where
  ents : List (Nat × Nat)
  base : Nat
  cyc : Nat
  deriving DecidableEq, Repr

/-- The first `n` entries of bank b of port p. -/
def Dev.gclEnts (d : Dev) (p b n : Nat) : List (Nat × Nat) :=
  (List.range n).map (fun e => (d.get .ETH_GCLE_GATES (128 * p + 64 * b + e), d.get .ETH_GCLE_INTERVAL (128 * p + 64 * b + e)))

/-- The list in effect. -/
def Dev.gclNow (d : Dev) (p : Nat) : Option Gcl :=
  if d.on .x_ETH_LON p then
    some { ents := d.gclEnts p (d.get .ETH_GCL_LSEL p) (d.get .x_ETH_LNENT p + 1), base := d.get .x_ETH_BASE p, cyc := max 1 (d.get .ETH_CYC p) }
  else none

/-- The list that a waiting change brings, from its first start. -/
def Dev.gclNext (d : Dev) (p : Nat) : Option Gcl :=
  if d.on .ETH_GCL_PEND p then
    some { ents := d.gclEnts p (1 - d.get .ETH_GCL_LSEL p) (d.get .ETH_GCL_NENT p + 1), base := d.swapAt p, cyc := d.ncyc p }
  else none

/-- The entry in force `x` ns after a list start: its gates and its end; the last entry holds to the end of the cycle. -/
def gclEntry (cyc : Nat) : List (Nat × Nat) → Nat → Nat → Nat × Nat
  | [], _, _ => (255, cyc)
  | [e], _, _ => (e.1, cyc)
  | e :: t, from_, x => if x < from_ + e.2 then (e.1, min cyc (from_ + e.2)) else gclEntry cyc t (from_ + e.2) x

/-- Gates at an instant of a list, and the instant up to which they hold; all are open before its first start. -/
def Gcl.seg (g : Gcl) (x : Nat) : Nat × Nat :=
  if x < g.base then (255, g.base)
  else
    let o := (x - g.base) % g.cyc
    let e := gclEntry g.cyc g.ents 0 o
    (e.1, x - o + e.2)

/-- Gates of port p at an instant, and how long they hold, over a waiting change of lists. -/
def Dev.gateSeg (d : Dev) (p x : Nat) : Nat × Nat :=
  let old := match d.gclNow p with
    | some g => g.seg x
    | none => (255, x + 10 ^ 10)
  match d.gclNext p with
  | some g => if x < g.base then (old.1, min old.2 g.base) else g.seg x
  | none => old

/-- Whether gate t stays open from x for `need` ns; every segment lasts at least 1 ns. -/
def Dev.gateHolds (d : Dev) (p t : Nat) : Nat → Nat → Nat → Bool
  | 0, _, need => decide (need = 0)
  | fuel + 1, x, need =>
    let s := d.gateSeg p x
    if s.1 / 2 ^ t % 2 = 1 then (if x + need ≤ s.2 then true else d.gateHolds p t fuel s.2 (need - (s.2 - x))) else false

/-- Pieces of one cycle of a list, cut at its end; the last entry is stretched to it. -/
def gclPieces (cyc : Nat) : List (Nat × Nat) → Nat → List (Nat × Nat)
  | [], _ => []
  | [e], from_ => if from_ < cyc then [(e.1, cyc - from_)] else []
  | e :: t, from_ => if from_ < cyc then (e.1, min e.2 (cyc - from_)) :: gclPieces cyc t (from_ + e.2) else []

/-- Longest run of pieces with gate t open, given the run before. -/
def longestRun (t : Nat) : List (Nat × Nat) → Nat → Nat → Nat
  | [], run, best => max run best
  | e :: l, run, best => if e.1 / 2 ^ t % 2 = 1 then longestRun t l (run + e.2) best else longestRun t l 0 (max run best)

/-- Whether some open window of gate t lasts `need` ns: the whole cycle open, or a run over two cycles in a row. -/
def Gcl.fits (g : Gcl) (t need : Nat) : Bool :=
  let ps := gclPieces g.cyc g.ents 0
  ps.all (fun e => decide (e.1 / 2 ^ t % 2 = 1)) || decide (need ≤ longestRun t (ps ++ ps) 0 0)

/-- Whether a frame fits some window of its queue under the list in effect or the waiting one. -/
def Dev.fitsWindow (d : Dev) (p t need : Nat) : Bool :=
  (match d.gclNow p with
   | some g => g.fits t need
   | none => true) ||
  (match d.gclNext p with
   | some g => g.fits t need
   | none => false)

/-- Opens the gates of the entry in force now. -/
def Dev.openGates (d : Dev) (p : Nat) : Dev := d.put .x_ETH_GATE p (d.gateSeg p (d.ethNow p)).1

/-- GATE_CONTROL_ENTRY. -/
def Dev.gateEntry (d : Dev) (p : Nat) : Dev := if d.fieldOn then d.openGates p else d

/-- SWAP: a write of 1, ignored while a change waits (R262). -/
def Dev.gclSwap (d : Dev) (p : Nat) : Dev :=
  if d.held 2 || d.on .ETH_GCL_PEND p then d
  else
    let x := d.ethNow p
    let f := if d.on .x_ETH_LON p then listStart (d.get .x_ETH_BASE p) (max 1 (d.get .ETH_CYC p)) x else x
    ((d.put .ETH_GCL_SWAP p 1).put .ETH_GCL_PEND p 1).put .x_ETH_SWF p f

/-- GCL_SWAP_TAKES_EFFECT (R262). -/
def Dev.gclSwapActs (d : Dev) (p : Nat) : Dev :=
  if d.fieldOn && d.on .ETH_GCL_PEND p && decide (d.swapAt p ≤ d.ethNow p) then
    let base := d.swapAt p
    let d := ((d.put .ETH_GCL_LSEL p (1 - d.get .ETH_GCL_LSEL p)).put .ETH_CYC p (d.get .ETH_NCYC p)).put .x_ETH_LNENT p (d.get .ETH_GCL_NENT p)
    let d := ((d.put .x_ETH_BASE p base).put .x_ETH_LON p 1).put .ETH_GCL_SWAP p 0
    (d.put .ETH_GCL_PEND p 0).openGates p
  else d

/-- The lists that follow time base k start again at their first list start on the new time (R286). -/
def Dev.gclRestart (d : Dev) (k : Nat) : Dev :=
  forN 4 (fun d p =>
    if d.get .ETH_CFG_TBSEL p = k then
      let x := d.ethNow p
      let d := if d.on .x_ETH_LON p then d.put .x_ETH_BASE p (listStart (d.get .x_ETH_BASE p) (max 1 (d.get .ETH_CYC p)) x) else d
      let d := if d.on .ETH_GCL_PEND p then d.put .x_ETH_SWF p x else d
      d.openGates p
    else d) d

/-! Reception (R256, R258). -/

/-- Whether port p accepts a frame: PROMISC, its own address, or a group address. -/
def Dev.ethAccepts (d : Dev) (p : Nat) (bytes : List Nat) : Bool :=
  let mac := [d.get .ETH_MACHI p / 256, d.get .ETH_MACHI p % 256] ++
    (leBytes 4 (d.get .ETH_MACLO p)).reverse
  d.on .ETH_CFG_PROMISC p || decide (bytes.take 6 = mac) || decide (bytes.getD 0 0 % 2 = 1)

/-- A packet written while it arrives and then rewound (R130, R256). -/
def Dev.writeAndRewind (d : Dev) (q : Nat) (items : List Nat) : Dev :=
  let room := d.qcap q - ((d.queue q).level + (d.queue q).unc)
  ((items.take room).foldl (fun d i => d.qstore q i) d).qrewind q

/-- The items of a received frame (R256). -/
def ethItems (stamp : Nat) (bytes : List Nat) : List Nat :=
  [stamp / 10 ^ 9 % 2 ^ 48, stamp % 10 ^ 9 * 2 ^ 32 + bytes.length % 2 ^ 11] ++ bytesToItems bytes

/-- ETH_FRAME_RECEIVED: the frame without its FCS, whether the FCS is good, and the TIME_CLK cycles since its time-stamp point. -/
def Dev.ethReceived (d : Dev) (p : Nat) (bytes : List Nat) (fcs : Bool) (age : Nat) : Dev :=
  if d.fieldOn && d.on .ETH_CFG_EN p then
    let stamp := d.stampAt (d.get .ETH_CFG_TBSEL p) (-(age : Int)) (d.sget .ETH_LAT_RXLAT p)
    let items := ethItems stamp bytes
    let q := d.get .ETH_CFG_RXQ p
    let good := fcs && decide (64 ≤ bytes.length + 4) && decide (bytes.length + 4 ≤ 1522)
    let acc := d.ethAccepts p bytes
    if !good then (if acc then d.writeAndRewind q items else d).bump .ETH_RXERR p 1
    else if !acc then d.bump .ETH_RXFILT p 1
    else
      let r := d.qputPacket q items
      let d := if r.1 then r.2.bump .ETH_RXOK p 1 else r.2.bump .ETH_RXLOST p 1
      let t := d.tbAt 0 (-(age : Int)) / tbUnit
      d.tapEvent (0x200 + p) bytes.length (t / 1000) (t % 1000 / 4)
  else d

/-! Transmission (R257 to R260). -/

/-- A bad packet (R257). -/
def ethBad (items : List Nat) : Bool :=
  let w := items.headD 0
  let len := w % 2 ^ 11
  let ofs := w / 2 ^ 32 % 2 ^ 11
  decide (items.length ≠ 1 + (len + 7) / 8) || decide (len < 14) || decide (1518 < len) ||
  (decide (w / 2 ^ 46 % 2 = 1) && decide (len < ofs + 10))

/-- What port p may do with the head of TQt: 0 nothing waits, 1 a bad packet, 2 a frame that may start, 3 a frame that waits for its
gate, 4 a frame that fits no window. -/
def Dev.tqHead (d : Dev) (p t : Nat) : Nat :=
  match d.tqMap p t with
  | none => 0
  | some q =>
    let items := d.qpeek q
    if items.isEmpty then 0
    else if ethBad items then 1
    else
      let need := d.ethTime p (items.headD 0 % 2 ^ 11)
      if !d.on .ETH_CFG_GEN p then 2
      else if !d.fitsWindow p t need then 4
      else if decide (d.get .x_ETH_GATE p / 2 ^ t % 2 = 1) && d.gateHolds p t (need + 1) (d.ethNow p) need then 2
      else 3

/-- The frame of a packet as it is sent: padded, stamped in one step where ONESTEP asks, with its FCS (R257, R259). The padding's
content is a free value. -/
def ethFrame (items : List Nat) (stamp pad : Nat) : List Nat :=
  let w := items.headD 0
  let len := w % 2 ^ 11
  let ofs := w / 2 ^ 32 % 2 ^ 11
  let raw := (itemBytes (items.drop 1)).take len
  let ts := (leBytes 6 (stamp / 10 ^ 9)).reverse ++ (leBytes 4 (stamp % 10 ^ 9)).reverse
  let body := if w / 2 ^ 46 % 2 = 1 then raw.take ofs ++ ts ++ raw.drop (ofs + 10) else raw
  let full := body ++ leBytes (60 - len) pad
  full ++ leBytes 4 (crc32 full)

/-- The frame at the head of TQt starts. -/
def Dev.ethStart (d : Dev) (p q : Nat) : Dev :=
  let items := d.qpeek q
  let w := items.headD 0
  let byte := d.ethByte p
  let cyc : Int := ((8 * byte / 4 : Nat) : Int)
  let stamp := d.stampAt (d.get .ETH_CFG_TBSEL p) cyc (d.sget .ETH_LAT_TXLAT p)
  let (pad, d) := d.fresh
  let wire := ethWire (w % 2 ^ 11)
  let tsreq := decide (w / 2 ^ 47 % 2 = 1)
  let x : EthTx := { bytes := ethFrame items stamp pad, stamp := stamp, point := d.tbAt 0 cyc / tbUnit, fin := d.now + (8 + wire) * byte,
                     tsid := w / 2 ^ 48 % 2 ^ 16, tsreq := tsreq, stamped := tsreq || decide (w / 2 ^ 46 % 2 = 1) }
  let d := d.qtakePacket q
  let d : Dev := { d with ethTx := mapSet ltNat p (some x) d.ethTx }
  (d.put .x_ETH_BUSY p 1).put .x_ETH_TXI p (d.now + (20 + wire) * byte)

/-- ETH_FRAME_TRANSMIT: the lowest-numbered queue whose head may go is served (R257, R261). -/
def Dev.ethTransmit (d : Dev) (p : Nat) : Dev :=
  if d.fieldOn && d.on .ETH_CFG_EN p && !d.on .x_ETH_BUSY p && decide (d.get .x_ETH_TXI p ≤ d.now) then
    let stuck := sumBelow 8 (fun t => if d.tqHead p t = 4 then 2 ^ t else 0)
    let d := d.put .ETH_GCL_STUCK p (d.get .ETH_GCL_STUCK p ||| stuck)
    match firstBelow 8 (fun t => decide (d.tqHead p t = 1) || decide (d.tqHead p t = 2)) with
    | none => d
    | some t =>
      let q := (d.tqMap p t).getD 0
      if d.tqHead p t = 1 then (d.qtakePacket q).bump .ETH_TXBAD p 1 else d.ethStart p q
  else d

/-- The transmit time-stamp queue of a port. -/
def Dev.tsq (d : Dev) (p : Nat) : List (Nat × Nat) := natGet [] p d.ethTsq

/-- Writes the transmit time-stamp queue. -/
def Dev.setTsq (d : Dev) (p : Nat) (l : List (Nat × Nat)) : Dev := { d with ethTsq := natSet [] p l d.ethTsq }

/-- A stamp enters the queue, or is lost (R260). -/
def Dev.tsqPut (d : Dev) (p tsid stamp : Nat) : Dev :=
  if (d.tsq p).length < 16 then d.setTsq p (d.tsq p ++ [(tsid, stamp)])
  else (d.bump .ETH_TSSTAT_TSLOST p 1).put .ETH_TSSTAT_TSOVF p 1

/-- ETH_FRAME_TRANSMIT_END: the FCS has left. -/
def Dev.ethTransmitEnd (d : Dev) (p : Nat) : Dev :=
  match mapFind p d.ethTx with
  | none => d
  | some x =>
    if d.fieldOn && d.on .x_ETH_BUSY p && decide (x.fin ≤ d.now) then
      let d := (d.put .x_ETH_BUSY p 0).bump .ETH_TXOK p 1
      let d := if x.tsreq then d.tsqPut p x.tsid x.stamp else d
      if x.stamped then d.tapEvent (0x210 + p) x.tsid (x.point / 1000) (x.point % 1000 / 4) else d
    else d

/-- A read of ETHp_TSQ_ID (R260). The TSID that a read of an empty queue gives is a free value. -/
def Dev.tsqRead (d : Dev) (p : Nat) : Dev :=
  if d.held 2 then d
  else match d.tsq p with
    | [] =>
      let (v, d) := d.fresh
      ((d.put .ETH_TSQ_ID_VALID p 0).put .ETH_TSQ_ID_LEVEL p 0).put .ETH_TSQ_ID_TSID p v
    | e :: t =>
      let d := ((d.put .ETH_TSQ_ID_VALID p 1).put .ETH_TSQ_ID_LEVEL p (t.length + 1)).put .ETH_TSQ_ID_TSID p e.1
      let d := (d.put .ETH_TSQ_NS p (e.2 % 10 ^ 9)).put .ETH_TSQ_SLO p (e.2 / 10 ^ 9)
      (d.put .ETH_TSQ_SHI p (e.2 / 10 ^ 9 / 2 ^ 32)).setTsq p t

/-- A read of ETHp_TXOK (R263). -/
def Dev.txokRead (d : Dev) (p : Nat) : Dev :=
  d.capture [(.ETH_TXBAD, p, d.get .ETH_TXBAD p), (.ETH_RXOK, p, d.get .ETH_RXOK p), (.ETH_RXERR, p, d.get .ETH_RXERR p),
    (.ETH_RXFILT, p, d.get .ETH_RXFILT p), (.ETH_RXLOST, p, d.get .ETH_RXLOST p)]

/-- SGMII_LINK_CHANGE: auto-negotiation ends with a speed, or the link drops (R255). -/
def Dev.sgmii (d : Dev) (p : Nat) (up : Bool) (speed : Nat) : Dev :=
  if d.held 2 then d
  else if up then (d.put .ETH_CFG_LINKUP p 1).put .ETH_CFG_SPEED p speed
  else d.put .ETH_CFG_LINKUP p 0

/-! The commands. -/

/-- ETH_FRAME_RECEIVED (R256). -/
def execEthFrameReceived (p : Fin 4) (bytes : List (BitVec 8)) (fcs : Bool) (age : BitVec 32) (s : State) :=
  act s (fun d => d.ethReceived p (bytes.map BitVec.toNat) fcs age.toNat)
/-- ETH_FRAME_TRANSMIT (R257). -/
def execEthFrameTransmit (p : Fin 4) (s : State) := act s (fun d => d.ethTransmit p)
/-- ETH_FRAME_TRANSMIT_END (R260). -/
def execEthFrameTransmitEnd (p : Fin 4) (s : State) := act s (fun d => d.ethTransmitEnd p)
/-- TSQ_ID_READ (R260). -/
def execTsqIdRead (p : Fin 4) (s : State) := act s (fun d => d.tsqRead p)
/-- TXOK_READ (R263). -/
def execTxokRead (p : Fin 4) (s : State) := act s (fun d => d.txokRead p)
/-- GATE_CONTROL_ENTRY (R261). -/
def execGateControlEntry (p : Fin 4) (s : State) := act s (fun d => d.gateEntry p)
/-- SWAP (R262). -/
def execSwap (p : Fin 4) (s : State) := act s (fun d => d.gclSwap p)
/-- GCL_SWAP_TAKES_EFFECT (R262). -/
def execGclSwapTakesEffect (p : Fin 4) (s : State) := act s (fun d => d.gclSwapActs p)
/-- SGMII_LINK_CHANGE (R255). -/
def execSgmiiLinkChange (p : Fin 4) (up : Bool) (speed : Fin 3) (s : State) := act s (fun d => d.sgmii p up speed)

end Sys2Proof.Machine
end

