-- ==== Sys2Proof/Machine/Can.lean ====
section
/-!
DEFINITION. The CAN FD controllers (R264 to R274). Counter rules, frame lengths and arbitration order that R264 and R272 leave to
ISO 11898-1 are the family's (PRESUMED, in the assumption log).
-/

namespace Sys2Proof.Machine

/-! Configuration (R265). -/

/-- Quanta of CAN_CLK in a nominal bit. -/
def canNq (v : F → Nat → Nat) (c : Nat) : Nat := (v .CAN_NBT_NBRP c + 1) * (3 + v .CAN_NBT_NTSEG1 c + v .CAN_NBT_NTSEG2 c)

/-- Quanta of CAN_CLK in a data bit. -/
def canDq (v : F → Nat → Nat) (c : Nat) : Nat := (v .CAN_DBT_DBRP c + 1) * (3 + v .CAN_DBT_DTSEG1 c + v .CAN_DBT_DTSEG2 c)

/-- Whether a number is a power of two below 128. -/
def isPow2 (n : Nat) : Bool := (List.range 7).any (fun k => decide (n = 2 ^ k))

/-- Whether a committed configuration is applied: no clause of R265 holds. -/
def canCfgOk (v : F → Nat → Nat) (c : Nat) : Bool :=
  decide (80 ≤ canNq v c) && decide (10 ≤ canDq v c) && decide (canDq v c ≤ canNq v c) &&
  decide (v .CAN_NBT_NSJW c ≤ v .CAN_NBT_NTSEG2 c) && decide (v .CAN_DBT_DSJW c ≤ v .CAN_DBT_DTSEG2 c) &&
  !(decide (v .CAN_CFG_LISTEN c = 1) && decide (v .CAN_CFG_LOOPB c = 1)) &&
  !(decide (v .CAN_DBT_TDCEN c = 1) && decide (2 < v .CAN_DBT_DBRP c + 1)) &&
  !(decide (v .CAN_CFG_TTEN c = 1) && !isPow2 (v .CAN_TT_NCYC c + 1))

/-! Message memory and matrix (R267, R273, R274). -/

/-- Base of controller c. -/
def canBase (c : Nat) : Nat := 0x21500000 + 0x4000 * c

/-- Address of TXBn of controller c. -/
def canBuf (c n : Nat) : Nat := canBase c + 0x2000 + 0x50 * n

/-- Word 0 of a buffer. -/
def Dev.canW0 (d : Dev) (c n : Nat) : Nat := d.rd (canBuf c n) 4

/-- Word 1 of a buffer. -/
def Dev.canW1 (d : Dev) (c n : Nat) : Nat := d.rd (canBuf c n + 4) 4

/-- Matrix byte (b, column). -/
def Dev.canCell (d : Dev) (c b col : Nat) : Nat := (d.byte (canBase c + 0x1000 + 32 * b + col)).toNat

/-- A buffer named in an EXCL or ARB cell of the matrix while TTEN = 1. -/
def Dev.canNamed (d : Dev) (c n : Nat) : Bool :=
  d.on .CAN_CFG_TTEN c && (List.range (d.get .CAN_TT_NCYC c + 1)).any (fun b => (List.range 32).any (fun col =>
    let x := d.canCell c b col
    (decide (x / 64 = 1) || decide (x / 64 = 2)) && decide (x % 32 = n)))

/-- COLOFS of a column. -/
def Dev.colOfs (d : Dev) (c col : Nat) : Nat :=
  if col % 2 = 0 then d.get .CAN_COL_OFSL (16 * c + col / 2) else d.get .CAN_COL_OFSH (16 * c + col / 2)

/-- Bytes of data for a DLC. -/
def dlcBytes (fdf : Bool) (dlc : Nat) : Nat :=
  if dlc ≤ 8 then dlc
  else if !fdf then 8
  else [12, 16, 20, 24, 32, 48, 64].getD (dlc - 9) 64

/-- Data bytes of a buffer's frame. -/
def Dev.canLen (d : Dev) (c n : Nat) : Nat :=
  let fdf := decide (d.canW1 c n / 2 ^ 31 = 1)
  if !fdf && decide (d.canW0 c n / 2 ^ 30 % 2 = 1) then 0 else dlcBytes fdf (d.canW1 c n / 2 ^ 24 % 16)

/-- A buffer's place in arbitration: the bits of its arbitration field in order, dominant below recessive. -/
def Dev.canKey (d : Dev) (c n : Nat) : Nat :=
  let w := d.canW0 c n
  let rtr := if d.canW1 c n / 2 ^ 31 = 1 then 0 else w / 2 ^ 30 % 2
  let base := w / 2 ^ 18 % 2 ^ 11
  if w / 2 ^ 31 = 1 then base * 2 ^ 21 + 2 ^ 20 + 2 ^ 19 + w % 2 ^ 18 * 2 + rtr
  else base * 2 ^ 21 + rtr * 2 ^ 20

/-- Whether the frame of a buffer switches its bit rate: FDF and BRS in a controller with both allowed. -/
def Dev.canBrs (d : Dev) (c n : Nat) : Bool :=
  decide (d.canW1 c n / 2 ^ 30 = 3) && d.on .CAN_CFG_FDEN c && d.on .CAN_CFG_BRSEN c

/-- The longest a buffer's frame can take with worst-case stuffing and the interframe space, in quanta of 12.5 ns. -/
def Dev.canLongest (d : Dev) (c n : Nat) : Nat :=
  let nq := canNq d.get c
  let bits := 8 * d.canLen c n
  let ext := decide (d.canW0 c n / 2 ^ 31 = 1)
  if d.canW1 c n / 2 ^ 31 = 1 then
    let head := if ext then 36 else 17
    let stuffHead := (head - 1) / 4
    let stuff := (head + 5 + bits - 1) / 4
    let crc := if bits ≤ 128 then 4 + 17 + 6 else 4 + 21 + 7
    let dq := if d.canBrs c n then canDq d.get c else nq
    (head + stuffHead + 12) * nq + (5 + bits + (stuff - stuffHead) + crc + 1) * dq
  else
    let head := if ext then 54 else 34
    (head + bits + (head + bits - 1) / 4 + 13) * nq

/-! The end of a request (R267 to R270). -/

/-- A request or scheduled attempt of TXBn ends with a RESULT. -/
def Dev.canEnd (d : Dev) (c n result : Nat) : Dev :=
  let s := d.get .x_CAN_SOF (32 * c + n)
  let at_ := if s = 0 then d.now else d.get .x_CAN_SOFT (32 * c + n)
  let (v, d) := if s = 0 then d.fresh else (s - 1, d)
  let d := (d.wr (canBuf c n + 8) 4 (result * 2 ^ 29)).wr (canBuf c n + 12) 4 v
  let d := (d.put .CAN_TXREQ c (d.get .CAN_TXREQ c &&& (2 ^ 32 - 1 - 2 ^ n))).put .CAN_TXCAN c (d.get .CAN_TXCAN c &&& (2 ^ 32 - 1 - 2 ^ n))
  let d := if result = 1 ∨ result = 2 then d.put .CAN_TXOK c (d.get .CAN_TXOK c ||| 2 ^ n) else d.put .CAN_TXFAIL c (d.get .CAN_TXFAIL c ||| 2 ^ n)
  let d := if result = 2 then d.put .CAN_TXSDC c (d.get .CAN_TXSDC c ||| 2 ^ n) else d
  let d := d.put .x_CAN_SOF (32 * c + n) 0
  let d := if d.on .CAN_NOTE_NOTE c then d.setFlags (d.get .CAN_NOTE_TASK c) (2 ^ d.get .CAN_NOTE_FLAG c) else d
  d.tapEvent (0x310 + c) (n + 256 * result) (at_ / 1000) (at_ % 1000 / 4)

/-- TXBn is requested. -/
def Dev.canReq (d : Dev) (c n : Nat) : Bool := decide (d.get .CAN_TXREQ c / 2 ^ n % 2 = 1)

/-- A cancel of TXBn waits for the end of its frame. -/
def Dev.canCancelled (d : Dev) (c n : Nat) : Bool := decide (d.get .CAN_TXCAN c / 2 ^ n % 2 = 1)

/-- TXREQ bit n (R267, R270, R273). -/
def Dev.txreq1 (d : Dev) (c n : Nat) : Dev :=
  if d.canReq c n || d.canNamed c n then d
  else if d.on .CAN_CFG_LISTEN c then d.canEnd c n 6
  else (d.put .CAN_TXREQ c (d.get .CAN_TXREQ c ||| 2 ^ n)).put .x_CAN_SOF (32 * c + n) 0

/-- TXCAN bit n (R268); `both` says that the same write requests the buffer. -/
def Dev.txcan1 (d : Dev) (c n : Nat) (both : Bool) : Dev :=
  if !d.canReq c n then (if both && !d.canNamed c n then d.canEnd c n 3 else d)
  else if d.get .x_CAN_CUR c = n + 1 then d.put .CAN_TXCAN c (d.get .CAN_TXCAN c ||| 2 ^ n)
  else d.canEnd c n 3

/-- TXREQ: a write of request bits. -/
def Dev.txreq (d : Dev) (c bits : Nat) : Dev :=
  if d.held 2 then d else forN 32 (fun d n => if bits / 2 ^ n % 2 = 1 then d.txreq1 c n else d) d

/-- TXCAN: a write of cancel bits, with the request bits of the same write. -/
def Dev.txcan (d : Dev) (c req bits : Nat) : Dev :=
  if d.held 2 then d
  else forN 32 (fun d n =>
    if bits / 2 ^ n % 2 = 1 then d.txcan1 c n (decide (req / 2 ^ n % 2 = 1))
    else if req / 2 ^ n % 2 = 1 then d.txreq1 c n else d) d

/-! Error counters (R272). -/

/-- STATE from the counters. -/
def Dev.canState (d : Dev) (c : Nat) : Dev :=
  if d.get .CAN_ERR_STATE c = 2 then d
  else d.put .CAN_ERR_STATE c (if 127 < d.get .CAN_ERR_TEC c ∨ 127 < d.get .CAN_ERR_REC c then 1 else 0)

/-- Bus-off: every requested buffer ends with RESULT 0b101; a scheduled attempt that waits is dropped. -/
def Dev.canBusOff (d : Dev) (c : Nat) : Dev :=
  let d := ((d.put .CAN_ERR_STATE c 2).put .x_CAN_CUR c 0).put .x_CAN_TTB c 0
  forN 32 (fun d n => if d.canReq c n then d.canEnd c n 5 else d) d

/-- Raises TEC; above 255 the controller is bus-off. -/
def Dev.tecUp (d : Dev) (c n : Nat) : Dev :=
  if 255 < d.get .CAN_ERR_TEC c + n then (d.put .CAN_ERR_TEC c 255).canBusOff c
  else (d.put .CAN_ERR_TEC c (d.get .CAN_ERR_TEC c + n)).canState c

/-- Raises REC, which stays at 255 at most. -/
def Dev.recUp (d : Dev) (c n : Nat) : Dev := (d.put .CAN_ERR_REC c (min 255 (d.get .CAN_ERR_REC c + n))).canState c

/-- A frame was sent: TEC falls by 1. -/
def Dev.tecDown (d : Dev) (c : Nat) : Dev := (d.put .CAN_ERR_TEC c (d.get .CAN_ERR_TEC c - 1)).canState c

/-- A frame was received: REC falls by 1, or from above 127 to a free value of 119 to 127. -/
def Dev.recDown (d : Dev) (c : Nat) : Dev :=
  let r := d.get .CAN_ERR_REC c
  if r ≤ 127 then (d.put .CAN_ERR_REC c (r - 1)).canState c
  else
    let (v, d) := d.fresh
    (d.put .CAN_ERR_REC c (119 + v % 9)).canState c

/-- The controller takes part in bus traffic. -/
def Dev.canOn (d : Dev) (c : Nat) : Bool := d.fieldOn && d.on .CAN_CFG_EN c && decide (d.get .CAN_ERR_STATE c ≠ 2)

/-- The attempt in progress ends in an error (R268 to R270). -/
def Dev.canAttemptFails (d : Dev) (c : Nat) : Dev :=
  let cur := d.get .x_CAN_CUR c
  if cur = 0 then d
  else
    let n := cur - 1
    let tt := d.on .x_CAN_CURT c
    let d := (d.put .x_CAN_CUR c 0).put .x_CAN_CURT c 0
    if d.canCancelled c n then d.canEnd c n 3
    else if d.on .CAN_CFG_ONESHOT c || tt then d.canEnd c n 5
    else d

/-- An error while the controller sends: the attempt ends; TEC rises by 8 unless ISO 11898-1 exempts the error. -/
def Dev.canTxError (d : Dev) (c lec : Nat) (exempt : Bool) : Dev :=
  let d := (d.put .CAN_ERR_LEC c lec).canAttemptFails c
  if exempt then d else d.tecUp c 8

/-- CAN_BUS_ERROR: the error's code; `dom`, in a receiver, that a dominant bit followed its error flag, and in a transmitter that the
error is exempt from counting. -/
def Dev.canBusError (d : Dev) (c lec : Nat) (dom : Bool) : Dev :=
  if d.canOn c then
    if d.on .CAN_CFG_LISTEN c then d.put .CAN_ERR_LEC c lec
    else if d.get .x_CAN_CUR c ≠ 0 then d.canTxError c lec dom
    else (d.put .CAN_ERR_LEC c lec).recUp c (if dom then 9 else 1)
  else d

/-- RECOV: a write of 1, ignored outside bus-off. -/
def Dev.canRecov (d : Dev) (c : Nat) : Dev :=
  if !d.held 2 && decide (d.get .CAN_ERR_STATE c = 2) then d.put .CAN_ERR_RECOV c 1 else d

/-- BUS_OFF_RECOVERY_COMPLETE. -/
def Dev.canRecovered (d : Dev) (c : Nat) : Dev :=
  if d.fieldOn && decide (d.get .CAN_ERR_STATE c = 2) && d.on .CAN_ERR_RECOV c then
    ((d.put .CAN_ERR_STATE c 0).put .CAN_ERR_RECOV c 0).put .CAN_ERR_TEC c 0 |>.put .CAN_ERR_REC c 0
  else d

/-! Transmission (R266, R267, R273). -/

/-- Kind of the column in force: 0 FREE, 1 EXCL, 2 ARB; none outside the columns. -/
def Dev.canColKind (d : Dev) (c : Nat) : Option Nat :=
  let col := d.get .x_CAN_COLN c
  if d.on .x_CAN_BCA c && decide (0 < col) then
    let k := d.canCell c (d.get .CAN_TTSTAT_CYCLE c) (col - 1) / 64
    some (if k = 3 then 0 else k)
  else none

/-- Start of the next column, or of the next basic cycle after the last one, ns. -/
def Dev.canColEnd (d : Dev) (c : Nat) : Nat :=
  let col := d.get .x_CAN_COLN c
  let more := decide (col < 32) && decide (d.colOfs c col ≠ 0xFFFF)
  d.get .x_CAN_BCT c + 1000 * (if more then d.colOfs c col else d.get .CAN_TT_BCYC c)

/-- Buffers that may start now. -/
def Dev.canCandidates (d : Dev) (c : Nat) : List Nat :=
  let reqs := (List.range 32).filter (fun n => d.canReq c n)
  if !d.on .CAN_CFG_TTEN c then reqs
  else
    let w := d.get .x_CAN_TTB c
    let k := d.get .x_CAN_TTK c
    if w ≠ 0 ∧ k ≠ 2 then [w - 1]
    else match d.canColKind c with
      | none => []
      | some kind =>
        if kind = 1 then []
        else
          let ev := reqs.filter (fun n => decide (2 * d.now + 25 * d.canLongest c n ≤ 2 * d.canColEnd c))
          if w = 0 then ev else ev ++ [w - 1]

/-- The buffer that would win arbitration; ties go to the lower number. -/
def Dev.canWinner (d : Dev) (c : Nat) : Option Nat :=
  (d.canCandidates c).foldl (fun best n => match best with
    | none => some n
    | some m =>
      if d.canKey c n < d.canKey c m ∨ (d.canKey c n = d.canKey c m ∧ n < m) then some n else some m) none

/-- CAN_TRANSMIT_START: the SOF of the winning buffer; `tdcv` is the delay that the controller measures in the frame's data phase. A
frame in CAN FD format ends refused while FDEN = 0. -/
def Dev.canStart (d : Dev) (c tdcv : Nat) : Dev :=
  if d.canOn c && !d.on .CAN_CFG_LISTEN c && decide (d.get .x_CAN_CUR c = 0) then
    match d.canWinner c with
    | none => d
    | some n =>
      let tt := decide (d.get .x_CAN_TTB c = n + 1)
      let d := if tt then (d.put .x_CAN_TTB c 0).put .x_CAN_TTK c 0 else d
      if decide (d.canW1 c n / 2 ^ 31 = 1) && !d.on .CAN_CFG_FDEN c then d.canEnd c n 6
      else
        let d := (d.put .x_CAN_CUR c (n + 1)).flag .x_CAN_CURT c tt
        let d := (d.put .x_CAN_SOF (32 * c + n) (d.tbNs (d.get .CAN_CFG_TBSEL c) % 10 ^ 9 + 1)).put .x_CAN_SOFT (32 * c + n) d.now
        if d.on .CAN_DBT_TDCEN c && d.canBrs c n then
          let d := d.put .CAN_ERR_TDCV c tdcv
          if 255 < tdcv + d.get .CAN_DBT_TDCO c then
            let (v, d) := d.fresh
            (d.put .CAN_ERR_TDCFAIL c 1).canTxError c (4 + v % 2) false
          else d
        else d
  else d

/-! Reception (R271). -/

/-- A received frame. -/
structure CanFrame where
  xtd : Bool
  rtr : Bool
  id : Nat
  fdf : Bool
  brs : Bool
  esi : Bool
  loop : Bool
  dlc : Nat
  data : List Nat
  deriving DecidableEq, Repr

/-- One bit as a number. -/
def bit (b : Bool) (i : Nat) : Nat := if b then 2 ^ i else 0

/-- The items of a received frame (R271). -/
def CanFrame.items (f : CanFrame) (stamp : Nat) : List Nat :=
  let len := if f.rtr && !f.fdf then 0 else dlcBytes f.fdf f.dlc
  let bytes := (List.range len).map (fun i => f.data.getD i 0)
  [stamp % 10 ^ 9 * 2 ^ 32 + bit f.xtd 31 + bit f.rtr 30 + f.id % 2 ^ 29,
   stamp / 10 ^ 9 % 2 ^ 32 * 2 ^ 32 + bit f.fdf 31 + bit f.brs 30 + bit f.esi 29 + bit f.loop 28 + f.dlc % 16 * 2 ^ 24] ++ bytesToItems bytes

/-- Whether the filters of controller c accept a frame. -/
def Dev.canAccepts (d : Dev) (c : Nat) (f : CanFrame) : Bool :=
  let ens := (List.range 16).filter (fun k => d.on .CAN_FID_EN (16 * c + k))
  ens.isEmpty || ens.any (fun k =>
    decide (d.get .CAN_FID_XTD (16 * c + k) = (if f.xtd then 1 else 0)) &&
    decide ((f.id % 2 ^ 29 ^^^ d.get .CAN_FID_FID (16 * c + k)) &&& d.get .CAN_FMSK (16 * c + k) = 0))

/-- A valid frame is filtered and written to RXQ, or counted; its SOF sample lies `age` TIME_CLK cycles back. -/
def Dev.canTake (d : Dev) (c : Nat) (f : CanFrame) (age : Nat) : Dev :=
  if d.canAccepts c f then
    let stamp := d.stampAt (d.get .CAN_CFG_TBSEL c) (-(age : Int)) 0
    let r := d.qputPacket (d.get .CAN_CFG_RXQ c) (f.items stamp)
    let d := if r.1 then r.2.bump .CAN_RXOK c 1 else r.2.bump .CAN_RXLOST c 1
    let t := d.tbAt 0 (-(age : Int)) / tbUnit
    d.tapEvent (0x300 + c) (f.id % 2 ^ 29 + bit f.xtd 31) (t / 1000) (t % 1000 / 4)
  else d.bump .CAN_RXFILT c 1

/-- CAN_FRAME_RECEIVED: a valid frame from the bus; under LOOPB the receive pin is ignored. -/
def Dev.canReceived (d : Dev) (c : Nat) (f : CanFrame) (age : Nat) : Dev :=
  if d.canOn c && !d.on .CAN_CFG_LOOPB c && (!f.fdf || d.on .CAN_CFG_FDEN c) then
    let d := if d.on .CAN_CFG_LISTEN c then d else d.recDown c
    d.canTake c f age
  else d

/-- The frame of a buffer, as the controller receives it under LOOPB. -/
def Dev.canOwnFrame (d : Dev) (c n : Nat) : CanFrame :=
  { xtd := decide (d.canW0 c n / 2 ^ 31 = 1), rtr := decide (d.canW0 c n / 2 ^ 30 % 2 = 1), id := d.canW0 c n % 2 ^ 29,
    fdf := decide (d.canW1 c n / 2 ^ 31 = 1), brs := d.canBrs c n, esi := decide (d.get .CAN_ERR_STATE c = 1), loop := true,
    dlc := d.canW1 c n / 2 ^ 24 % 16, data := (List.range 64).map (fun i => (d.byte (canBuf c n + 16 + i)).toNat) }

/-- CAN_TRANSMIT_END: the frame in progress completes, or has lost arbitration (R267 to R270). -/
def Dev.canFinish (d : Dev) (c : Nat) (lost : Bool) : Dev :=
  let cur := d.get .x_CAN_CUR c
  if d.canOn c && decide (cur ≠ 0) then
    let n := cur - 1
    let tt := d.on .x_CAN_CURT c
    let loopb := d.on .CAN_CFG_LOOPB c
    if lost then
      if loopb then d
      else
        let d := (d.put .x_CAN_CUR c 0).put .x_CAN_CURT c 0
        if d.canCancelled c n then d.canEnd c n 3
        else if d.on .CAN_CFG_ONESHOT c || tt then d.canEnd c n 4
        else d
    else
      let f := d.canOwnFrame c n
      let age := (d.now - d.get .x_CAN_SOFT (32 * c + n)) / 4
      let d := ((d.put .x_CAN_CUR c 0).put .x_CAN_CURT c 0).tecDown c
      let d := d.canEnd c n (if d.canCancelled c n then 2 else 1)
      if loopb then d.canTake c f age else d
  else d

/-! Time-triggered transmission (R273). -/

/-- A scheduled attempt that has not started ends with its column: EXCL with RESULT 0b101. -/
def Dev.canColClose (d : Dev) (c : Nat) : Dev :=
  let w := d.get .x_CAN_TTB c
  let k := d.get .x_CAN_TTK c
  if w = 0 ∨ k = 3 then d
  else
    let d := (d.put .x_CAN_TTB c 0).put .x_CAN_TTK c 0
    if k = 1 then d.canEnd c (w - 1) 5 else d

/-- A basic cycle starts. -/
def Dev.canCycle (d : Dev) (c b start : Nat) : Dev :=
  let d := d.canColClose c
  ((d.put .CAN_TTSTAT_CYCLE c b).put .x_CAN_BCA c 1).put .x_CAN_BCT c start |>.put .x_CAN_COLN c 0

/-- BASIC_CYCLE_START: at a master's tick, or at a received reference that carries b, whose SOF lies `age` cycles back. -/
def Dev.basicCycle (d : Dev) (c b age : Nat) : Dev :=
  if d.canOn c && d.on .CAN_CFG_TTEN c then
    if d.on .CAN_CFG_TTMASTER c then
      match dueTick d.now (max 1 (d.get .CAN_TT_BCYC c)) 0 0 with
      | none => d
      | some n =>
        if d.get .x_CAN_BCD c ≤ n then
          let b := d.get .x_CAN_NB c
          let rb := d.get .CAN_TT_REFBUF c
          let d := (d.canCycle c b (n * 1000)).put .x_CAN_BCD c (n + 1)
          let d := d.setByte (canBuf c rb + 16) (BitVec.ofNat 8 ((d.byte (canBuf c rb + 16)).toNat / 64 * 64 + b))
          let d := (d.put .x_CAN_TTB c (rb + 1)).put .x_CAN_TTK c 3
          d.put .x_CAN_NB c ((b + 1) % (d.get .CAN_TT_NCYC c + 1))
        else d
    else
      let t := d.tbAt 0 (-(age : Int)) / tbUnit
      ((d.canCycle c b t).put .CAN_TTSTAT_SYNC c 1).put .x_CAN_REFT c t
  else d

/-- COLUMN_START: the next column of the row starts and its cell is served. -/
def Dev.columnStart (d : Dev) (c : Nat) : Dev :=
  let col := d.get .x_CAN_COLN c
  if d.canOn c && d.on .CAN_CFG_TTEN c && d.on .x_CAN_BCA c && decide (col < 32) && decide (d.colOfs c col ≠ 0xFFFF) &&
     decide (d.get .x_CAN_BCT c + 1000 * d.colOfs c col ≤ d.now) then
    let d := (d.canColClose c).put .x_CAN_COLN c (col + 1)
    let x := d.canCell c (d.get .CAN_TTSTAT_CYCLE c) col
    if decide (x / 64 = 1) || decide (x / 64 = 2) then (d.put .x_CAN_TTB c (x % 32 + 1)).put .x_CAN_TTK c (x / 64) else d
  else d

/-- MISSREF: no reference for 1.1 × BCYC ticks; the matrix sends nothing until the next one. -/
def Dev.missRef (d : Dev) (c : Nat) : Dev :=
  if d.canOn c && d.on .CAN_CFG_TTEN c && !d.on .CAN_CFG_TTMASTER c && decide (d.get .x_CAN_REFT c + 1100 * d.get .CAN_TT_BCYC c ≤ d.now) then
    (((d.canColClose c).put .CAN_TTSTAT_MISSREF c 1).put .CAN_TTSTAT_SYNC c 0).put .x_CAN_BCA c 0
  else d

/-- A configuration of controller c takes effect with EN or TTEN newly 1: the wait for a reference begins (R273). -/
def Dev.canRestart (d : Dev) (c : Nat) : Dev :=
  (((d.put .x_CAN_REFT c d.now).put .x_CAN_BCA c 0).put .x_CAN_NB c 0).put .x_CAN_TTB c 0

/-- A read of CANc_RXOK (R274). -/
def Dev.canRxokRead (d : Dev) (c : Nat) : Dev :=
  d.capture [(.CAN_RXFILT, c, d.get .CAN_RXFILT c), (.CAN_RXLOST, c, d.get .CAN_RXLOST c)]

/-! The commands. -/

/-- TXREQ (R267). -/
def execTxreq (c : Fin 4) (bits : Word) (s : State) := act s (fun d => d.txreq c bits.toNat)
/-- TXCAN (R268). -/
def execTxcan (c : Fin 4) (req bits : Word) (s : State) := act s (fun d => d.txcan c req.toNat bits.toNat)
/-- CAN_TRANSMIT_START (R267). -/
def execCanTransmitStart (c : Fin 4) (tdcv : BitVec 12) (s : State) := act s (fun d => d.canStart c tdcv.toNat)
/-- CAN_TRANSMIT_END (R267). -/
def execCanTransmitEnd (c : Fin 4) (lost : Bool) (s : State) := act s (fun d => d.canFinish c lost)
/-- CAN_FRAME_RECEIVED (R271). -/
def execCanFrameReceived (c : Fin 4) (xtd rtr : Bool) (id : BitVec 29) (fdf brs esi : Bool) (dlc : BitVec 4) (data : List (BitVec 8)) (age : BitVec 32)
    (s : State) :=
  act s (fun d => d.canReceived c { xtd := xtd, rtr := rtr, id := id.toNat, fdf := fdf, brs := brs, esi := esi, loop := false,
                                    dlc := dlc.toNat, data := data.map BitVec.toNat } age.toNat)
/-- CAN_BUS_ERROR (R272). -/
def execCanBusError (c : Fin 4) (lec : Fin 6) (dom : Bool) (s : State) := act s (fun d => d.canBusError c (lec.val + 1) dom)
/-- RECOV (R272). -/
def execRecov (c : Fin 4) (s : State) := act s (fun d => d.canRecov c)
/-- BUS_OFF_RECOVERY_COMPLETE (R272). -/
def execBusOffRecoveryComplete (c : Fin 4) (s : State) := act s (fun d => d.canRecovered c)
/-- BASIC_CYCLE_START (R273). -/
def execBasicCycleStart (c : Fin 4) (b : BitVec 6) (age : BitVec 32) (s : State) := act s (fun d => d.basicCycle c b.toNat age.toNat)
/-- COLUMN_START (R273). -/
def execColumnStart (c : Fin 4) (s : State) := act s (fun d => d.columnStart c)
/-- MISSREF (R273). -/
def execMissref (c : Fin 4) (s : State) := act s (fun d => d.missRef c)
/-- CAN_RXOK_READ (R274). -/
def execCanRxokRead (c : Fin 4) (s : State) := act s (fun d => d.canRxokRead c)

end Sys2Proof.Machine
end

