-- ==== Sys2Proof/Machine/Pcie.lean ====
section
/-!
DEFINITION. The PCIe endpoint (R275 to R280): the link, host queues and MSI-X vectors.
-/

namespace Sys2Proof.Machine

/-- A write posted to the host. -/
def Dev.postHost (d : Dev) (addr len v : Nat) : Dev := { d with hostOut := d.hostOut ++ [(addr % 2 ^ 64, len, v)] }

/-- Ring base of host queue h. -/
def Dev.hqRing (d : Dev) (h : Nat) : Nat := d.get .HQ_RING_LO h + 2 ^ 32 * d.get .HQ_RING_HI h

/-- DEV − HOST modulo 2^32, the items a ring holds towards the host. -/
def Dev.hqAhead (d : Dev) (h : Nat) : Nat := (d.get .HQ_DEV h + 2 ^ 32 - d.get .HQ_HOST h) % 2 ^ 32

/-- HOST_WRITE: ignored with HOSTERR where the ring would overrun (R277). -/
def Dev.hostWrite (d : Dev) (h v : Nat) : Dev :=
  let dev := d.get .HQ_DEV h
  let n := if d.on .HQ_CFG_DIR h then (v + 2 ^ 32 - dev) % 2 ^ 32 else (dev + 2 ^ 32 - v % 2 ^ 32) % 2 ^ 32
  if d.held 2 then d
  else if 2 ^ d.get .HQ_CFG_RSZ h < n then d.put .HQ_CFG_HOSTERR h 1
  else d.put .HQ_HOST h v

/-- DEV advances; it is posted to the count word and its vector falls due (R277, R278). -/
def Dev.hqAdvance (d : Dev) (h : Nat) : Dev :=
  let d := d.bump .HQ_DEV h 1
  (d.postHost (d.hqRing h + 8 * 2 ^ d.get .HQ_CFG_RSZ h) 4 (d.get .HQ_DEV h)).put .x_MSI_PEND h 1

/-- HOST_QUEUE_TRANSFER: one item; `item` is what the ring place holds in host memory (R277). -/
def Dev.hqTransfer (d : Dev) (h item : Nat) : Dev :=
  let q := d.get .HQ_CFG_QUEUE h
  if d.fieldOn && d.on .PCIE_STAT_LINKUP 0 && d.on .HQ_CFG_EN h then
    if d.on .HQ_CFG_DIR h then
      if decide (d.get .HQ_DEV h ≠ d.get .HQ_HOST h) && decide ((d.queue q).level + (d.queue q).unc < d.qcap q) then
        (d.qstore q item).hqAdvance h
      else d
    else
      if decide (d.hqAhead h < 2 ^ d.get .HQ_CFG_RSZ h) && decide (0 < (d.queue q).level) then
        let r := d.qtake q
        let d : Dev := r.2.2
        (d.postHost (d.hqRing h + 8 * (d.get .HQ_DEV h % 2 ^ d.get .HQ_CFG_RSZ h)) 8 r.1).hqAdvance h
      else d
  else d

/-- A write of HQh_CFG (R280): ignored while EN = 1; EN itself is ignored where QUEUE is in packet mode. The queue attaches with EN
(R128). -/
def Dev.hqCfg (d : Dev) (h : Nat) (en dir hosterr : Bool) (rsz queue : Nat) : Dev :=
  if d.held 2 || d.on .HQ_CFG_EN h then d
  else
    let d := if hosterr then d.put .HQ_CFG_HOSTERR h 0 else d
    let d := ((d.flag .HQ_CFG_DIR h dir).put .HQ_CFG_QUEUE h queue)
    let d := if 4 ≤ rsz ∧ rsz ≤ 16 then d.put .HQ_CFG_RSZ h rsz else d
    if en && !d.on .Q_CFG_PKT queue then (d.put .HQ_CFG_EN h 1).qattach queue (if dir then 2 else 1) else d

/-- MSIX_VECTOR: sent after its write-back, a queue's or the stream's vector at most once per tick (R278). -/
def Dev.msix (d : Dev) (v : Nat) : Dev :=
  if d.fieldOn && d.on .PCIE_STAT_LINKUP 0 && d.on .x_MSI_PEND v && (decide (v = 33) || decide (d.get .x_MSI_T v ≠ d.tick + 1)) then
    ((d.put .x_MSI_PEND v 0).put .x_MSI_T v (d.tick + 1)).bump .x_MSI_SENT v 1
  else d

/-- PERST_N, or loss of the link (R279, R300). -/
def Dev.perst (d : Dev) : Dev :=
  if d.held 2 then d
  else
    let d := forN 32 (fun d h => if d.on .HQ_CFG_EN h then (d.put .HQ_CFG_EN h 0).qdetach (d.get .HQ_CFG_QUEUE h) else d) d
    let d := if d.on .DCS_CFG_DST 0 then d else d.put .DCS_CFG_EN 0 0
    (forN 34 (fun d v => d.put .x_MSI_PEND v 0) d).put .PCIE_STAT_LINKUP 0 0

/-- PCIE_LINK_TRAINED (R275): generation 1 to 3, width 1, 2 or 4. -/
def Dev.linkTrained (d : Dev) (gen width : Nat) : Dev :=
  if d.held 2 then d else ((d.put .PCIE_STAT_LINKUP 0 1).put .PCIE_STAT_GEN 0 gen).put .PCIE_STAT_WIDTH 0 width

/-! The commands. -/

/-- HOST_WRITE (R277). -/
def execHostWrite (h : Fin 32) (v : Word) (s : State) := act s (fun d => d.hostWrite h v.toNat)
/-- HOST_QUEUE_TRANSFER (R277). -/
def execHostQueueTransfer (h : Fin 32) (item : DWord) (s : State) := act s (fun d => d.hqTransfer h item.toNat)
/-- MSIX_VECTOR (R278). -/
def execMsixVector (v : Fin 34) (s : State) := act s (fun d => d.msix v)
/-- PERST_N (R279). -/
def execPerstN (s : State) := act s Dev.perst
/-- PCIE_LINK_TRAINED (R275). -/
def execPcieLinkTrained (gen width : Fin 3) (s : State) := act s (fun d => d.linkTrained (gen.val + 1) (2 ^ width.val))

end Sys2Proof.Machine
end

