-- ==== Sys2Proof/Machine/Time.lean ====
section
/-!
DEFINITION. The time unit (R284 to R290).
-/

namespace Sys2Proof.Machine

/-- Largest magnitude of RATE (R285). -/
def rateMax : Int := 17179869

/-- RATE_WRITE (R285): ignored outside the range, and for TB0 in the STANDBY and SYNCING roles. -/
def Dev.rateWrite (d : Dev) (k : Nat) (v : Word) : Dev :=
  if d.held 2 || decide (v.toInt < -rateMax) || decide (rateMax < v.toInt) ||
     (decide (k = 0) && (decide (d.role = roleStandby) || decide (d.role = roleSyncing))) then d
  else d.put .TB_RATE k v.toNat

/-- 2^64 seconds, in units of the time bases. -/
def tbModulus : Nat := 2 ^ 64 * 10 ^ 9 * 2 ^ 32

/-- A time base after SET or STEP, from its value before (R286); negative before the epoch. -/
def stepped (step : Bool) (tb s ns : Nat) : Int :=
  if step then (tb : Int) + (sNat 64 s * 10 ^ 9 + sNat 32 ns) * 2 ^ 32
  else ((s * 10 ^ 9 + ns) * 2 ^ 32 : Nat)

/-- Whether NEW_NS is in range for the request. -/
def newNsOk (step : Bool) (ns : Nat) : Bool :=
  if step then decide (-999999999 ≤ sNat 32 ns) && decide (sNat 32 ns ≤ 999999999) else decide (ns ≤ 999999999)

/-- SET or STEP: a write of 1, refused with REJ in the cases of R286. -/
def Dev.tbRequest (d : Dev) (k : Nat) (step : Bool) : Dev :=
  let s := d.get .TB_NEW_SLO k + 2 ^ 32 * d.get .TB_NEW_SHI k
  let ns := d.get .TB_NEW_NS k
  if d.held 2 then d
  else if d.on .TB_CTL_SET k || d.on .TB_CTL_STEP k || (decide (k = 0) && !d.held 0) || !newNsOk step ns ||
     decide (stepped step (d.tbAt k 2) s ns < 0) then d.put .TB_CTL_REJ k 1
  else
    let d := (((d.put .x_TB_ACT k (d.get .x_CYC 0 + 2)).put .x_TB_S k s).put .x_TB_N k ns)
    if step then d.put .TB_CTL_STEP k 1 else d.put .TB_CTL_SET k 1

/-- SET_STEP_ACTS: at the second cycle after the write. -/
def Dev.tbActs (d : Dev) (k : Nat) : Dev :=
  let step := d.on .TB_CTL_STEP k
  if !d.held 2 && (step || d.on .TB_CTL_SET k) && decide (d.get .x_TB_ACT k ≤ d.get .x_CYC 0) then
    let v := (stepped step (d.get .x_TBV k) (d.get .x_TB_S k) (d.get .x_TB_N k)).toNat % tbModulus
    (((d.put .x_TBV k v).put .TB_CTL_SET k 0).put .TB_CTL_STEP k 0).gclRestart k
  else d

/-- NS, FRAC and SEC of a time base (R284). -/
def Dev.tbFields (d : Dev) (k : Nat) : Nat × Nat × Nat :=
  (d.tbNs k % 10 ^ 9, d.get .x_TBV k % 2 ^ 32 / 2 ^ 16, d.tbNs k / 10 ^ 9)

/-- SNAP (R287); SNAP clears with the copy. -/
def Dev.timeSnap (d : Dev) : Dev :=
  if d.held 2 then d
  else forN 4 (fun d k =>
    let x := d.tbFields k
    (((d.put .SN_NS k x.1).put .SN_FRAC k x.2.1).put .SN_SEC_LO k x.2.2).put .SN_SEC_HI k (x.2.2 / 2 ^ 32)) d

/-- A read of TBk_NS shows the time base and captures FRAC and SEC (R287). -/
def Dev.tbRead (d : Dev) (k : Nat) : Dev :=
  let x := d.tbFields k
  let d := d.put .TB_NS k x.1
  d.capture [(.TB_FRAC, k, x.2.1), (.TB_SEC_LO, k, x.2.2 % 2 ^ 32), (.TB_SEC_HI, k, x.2.2 / 2 ^ 32 % 2 ^ 32)]

/-- One TIME_CLK cycle: every time base advances by 4 ns + RATE × 2^-32 ns (R284); in DEEP the clock is off. -/
def Dev.timeCycle (d : Dev) : Dev :=
  if d.on .x_DEEP 0 then d
  else forN 4 (fun d k => d.put .x_TBV k (d.tbAt k 1 % tbModulus)) (d.bump .x_CYC 0 1)

/-! The commands. -/

/-- RATE_WRITE (R285). -/
def execRateWrite (k : Fin 4) (v : Word) (s : State) := act s (fun d => d.rateWrite k v)
/-- SET (R286). -/
def execSet_ (k : Fin 4) (s : State) := act s (fun d => d.tbRequest k false)
/-- STEP (R286). -/
def execStep (k : Fin 4) (s : State) := act s (fun d => d.tbRequest k true)
/-- SET_STEP_ACTS (R286). -/
def execSetStepActs (k : Fin 4) (s : State) := act s (fun d => d.tbActs k)
/-- SNAP (R287). -/
def execSnap (s : State) := act s Dev.timeSnap
/-- TB_NS_READ (R287). -/
def execTbNsRead (k : Fin 4) (s : State) := act s (fun d => d.tbRead k)

end Sys2Proof.Machine
end

