-- ==== Sys2Proof/Machine/Capture.lean ====
section
/-!
DEFINITION. Delta capture (R291 to R303): judging copies, records and marks, arming and firing, the nets between units and parts, and
the stream.
-/

namespace Sys2Proof.Machine

/-! States and areas (R295, R302). -/

/-- STATE codes. -/
def dcIdle : Nat := 0
/-- ARMED. -/
def dcArmed : Nat := 1
/-- POST. -/
def dcPost : Nat := 2
/-- DONE. -/
def dcDone : Nat := 3
/-- CONT. -/
def dcCont : Nat := 4

/-- STATE of a unit. -/
def Dev.dcState (d : Dev) (u : Nat) : Nat := d.get .DC_STAT_STATE u

/-- Records of a unit's area. -/
def Dev.dcR (d : Dev) (u : Nat) : Nat := 256 * (d.get .DC_MEM_SIZE u + 1)

/-- Records of a segment; the whole area outside SEG mode. -/
def Dev.dcRs (d : Dev) (u : Nat) : Nat := if d.get .DC_CFG_MODE u = 1 then d.dcR u / (d.get .DC_CFG_NSEG u + 1) else d.dcR u

/-- Address of record i of a unit's area (R294). -/
def Dev.dcAddr (d : Dev) (u i : Nat) : Nat := 0x20000000 + 4096 * d.get .DC_MEM_BASE u + 16 * i

/-- Whether a kind is one of TOKEN, EVENT and KEEP, which REC counts. -/
def isCopyKind (k : Nat) : Bool := decide (k ≤ 2)

/-- Records of copies in the unit's FIFO. -/
def Dev.fifoLen (d : Dev) (u : Nat) : Nat := (d.capFifo.filter (fun r => decide (r.unit = u) && isCopyKind r.kind)).length

/-! Putting records into the FIFO. -/

/-- Adds a record. -/
def Dev.putRec (d : Dev) (r : CapRec) : Dev :=
  let d : Dev := { d with capFifo := d.capFifo ++ [r] }
  (d.bump .x_DC_SEQ r.unit 1).bump .x_DC_NPUT r.unit 1

/-- A mark of a unit, tagged with an instant in ns of TB0. -/
def Dev.putMark (d : Dev) (u kind tap val t : Nat) : Dev :=
  d.putRec { unit := u, kind := kind, tap := tap, ty := 0, qual := 0, val := val, tick := t / 1000, phase := t % 1000 / 4 }

/-- A TIME mark (R294). -/
def Dev.putTime (d : Dev) (u t : Nat) : Dev :=
  let d := if d.get .x_DC_NPUT u % 256 = 0 then d.put .x_DC_BT u d.tick else d
  (d.putMark u 4 u (t / 1000 / 2 ^ 32) t).put .x_DC_THI u (t / 1000 / 2 ^ 32 + 1)

/-- A TIME mark where one is due: at the start of a stream block, and where the upper half of the tick number has changed. -/
def Dev.timeIfDue (d : Dev) (u t : Nat) : Dev :=
  if decide (d.dcState u = dcCont) && decide (d.get .x_DC_NPUT u % 256 = 0) then d.putTime u t
  else if d.get .x_DC_THI u ≠ t / 1000 / 2 ^ 32 + 1 then d.putTime u t
  else d

/-- Free places of a stream area. -/
def Dev.dcRoom (d : Dev) (u : Nat) : Nat := 256 * d.get .x_DC_SENT u + d.dcR u - d.get .x_DC_NPUT u

/-- Whether a TIME mark is due before a record at the present place of the area. -/
def Dev.timeDue (d : Dev) (u : Nat) : Bool :=
  (decide (d.dcState u = dcCont) && decide (d.get .x_DC_NPUT u % 256 = 0)) || decide (d.get .x_DC_THI u ≠ d.tick / 2 ^ 32 + 1)

/-- Places that a copy's record takes in a stream area, with the OVERFLOW record and the TIME marks before it. -/
def Dev.dcNeed (d : Dev) (u : Nat) : Nat :=
  let t := if d.timeDue u then 1 else 0
  if d.on .x_DC_LOSTN u then t + 2 + (if (d.get .x_DC_NPUT u + t + 1) % 256 = 0 then 1 else 0) else t + 1

/-! Firing (R297, R298). -/

/-- A fire of a unit: source bit 0 software, 1 tap, 2 FIRE net, 3 Sediment log; tagged with an instant. Sources of one cycle share a
mark. -/
def Dev.dcFire (d : Dev) (u src tap t : Nat) : Dev :=
  let v := 2 ^ src + (if src = 1 then 256 * tap else 0)
  if d.get .x_DC_FT u = d.now + 1 then
    { d with capFifo := d.capFifo.map (fun r =>
        if decide (r.unit = u) && decide (r.kind = 3) && decide (r.tick = d.tick) then { r with val := r.val ||| v } else r) }
  else if d.dcState u = dcArmed ∨ (d.dcState u = dcCont ∧ 4 ≤ d.dcRoom u) then
    let d := if d.dcState u = dcCont then d.timeIfDue u t else d
    let d := ((d.put .x_DC_FT u (d.now + 1)).putMark u 3 0 v t).putTime u t
    let d := if d.on .DC_CFG_LINK u && decide (src ≠ 2) then d.put .x_DC_FDRV u (d.now + 1000) else d
    if d.dcState u = dcCont then d
    else if d.get .DC_POST u = 0 then
      if d.get .DC_CFG_MODE u = 1 ∧ d.get .DC_STAT_SEG u < d.get .DC_CFG_NSEG u then (d.put .DC_STAT_STATE u dcPost).put .x_DC_GAP u 1
      else d.put .DC_STAT_STATE u dcDone
    else (d.put .DC_STAT_STATE u dcPost).put .x_DC_LEFT u (d.get .DC_POST u)
  else d

/-- A record counts towards the records after the fire; the last one closes the unit. -/
def Dev.postCount (d : Dev) (u : Nat) : Dev :=
  if d.dcState u = dcPost then
    let n := d.get .x_DC_LEFT u - 1
    (d.put .x_DC_LEFT u n).flag .x_DC_CLOSE u (decide (n = 0))
  else d

/-! Judging copies (R292, R296, R297). -/

/-- Whether a token copy differs from the tap's last record by more than the dead band. -/
def Dev.tapChanged (d : Dev) (i : Nat) (c : TapCopy) : Bool :=
  let lv := d.get .x_TAP_LV i
  let db := d.get .TAP_DB i
  if !d.on .x_TAP_HAS i || decide (c.qual ≠ d.get .x_TAP_LQ i) || decide (c.ty ≠ d.get .x_TAP_LTY i) then true
  else if c.ty = 2 then
    let r := (f32.sub c.val lv).1 % 2 ^ 31
    let x := (f32.cmp r db).1
    !(x.1 || x.2.1)
  else if c.ty = 4 then decide ((db : Int) < (sNat 32 (c.val + 2 ^ 32 - lv)).natAbs)
  else decide ((db : Int) < (sNat 32 c.val - sNat 32 lv).natAbs)

/-- Whether a copy meets the tap's TMODE (R297). -/
def Dev.tapMeets (d : Dev) (i : Nat) (c : TapCopy) : Bool :=
  let m := d.get .TAP_CFG_TMODE i
  let lv := d.get .TAP_LEVEL i
  if m = 0 then true
  else if m = 3 then decide (c.qual &&& lv % 256 ≠ 0)
  else if c.event then (if m = 1 then decide (lv < c.val) else decide (c.val < lv))
  else if c.ty = 2 then (if m = 1 then (f32.cmp lv c.val).1.2.1 else (f32.cmp c.val lv).1.2.1)
  else
    let x : Int := if c.ty = 4 then sNat 32 (c.val + 2 ^ 32 - lv) else sNat 32 c.val - sNat 32 lv
    if m = 1 then decide (0 < x) else decide (x < 0)

/-- A copy is lost (R291, R299). -/
def Dev.copyLost (d : Dev) (u : Nat) : Dev :=
  ((d.bump .DC_LOST u 1).put .DC_STAT_OVF u 1).put .x_DC_LOSTN u (min (2 ^ 32 - 1) (d.get .x_DC_LOSTN u + 1))

/-- Records a copy as a kind: the FIFO and, in CONT, the area must have a place; an OVERFLOW record comes first after a loss. -/
def Dev.recordCopy (d : Dev) (c : TapCopy) (kind : Nat) : Dev :=
  let u := c.unit
  let i := 32 * u + c.tap
  let t := d.now
  if 64 ≤ d.fifoLen u ∨ (d.dcState u = dcCont ∧ d.dcRoom u < d.dcNeed u) then d.copyLost u
  else
    let d := if d.on .x_DC_LOSTN u then
        (((d.timeIfDue u t).putMark u 6 0 (d.get .x_DC_LOSTN u) t).put .x_DC_LOSTN u 0).postCount u
      else d
    if d.on .x_DC_CLOSE u then d.bump .DC_IDLE u 1
    else
      let d := (d.timeIfDue u t).putRec { unit := u, kind := kind, tap := c.tap, ty := c.ty, qual := c.qual, val := c.val, tick := c.tick, phase := c.phase }
      let d := if kind = 1 then d else
        ((((d.put .x_TAP_LV i c.val).put .x_TAP_LQ i c.qual).put .x_TAP_LTY i c.ty).put .x_TAP_LT i c.tick).put .x_TAP_HAS i 1
      (d.bump .DC_REC u 1).postCount u

/-- A unit that takes copies: ARMED, in POST or in CONT, not between segments and not closed. -/
def Dev.dcTakes (d : Dev) (u : Nat) : Bool :=
  (decide (d.dcState u = dcArmed) || decide (d.dcState u = dcPost) || decide (d.dcState u = dcCont)) && !d.on .x_DC_GAP u && !d.on .x_DC_CLOSE u

/-- One matched copy is judged. -/
def Dev.judgeCopy (d : Dev) (c : TapCopy) : Dev :=
  let u := c.unit
  let i := 32 * u + c.tap
  let d := d.bump .DC_SEEN u 1
  if !d.dcTakes u then d.bump .DC_IDLE u 1
  else
    let trig := (decide (d.dcState u = dcArmed) || decide (d.dcState u = dcCont)) && d.on .TAP_CFG_TRIG i && d.tapMeets i c
    let d :=
      if c.event then d.recordCopy c 1
      else if d.tapChanged i c || trig then d.recordCopy c 0
      else if d.on .TAP_KEEP i && decide (d.get .x_TAP_LT i + d.get .TAP_KEEP i ≤ c.tick) then d.recordCopy c 2
      else d.bump .DC_SKIP u 1
    if trig then d.dcFire u 1 c.tap d.now else d

/-- TAP_COPY: the oldest matched copy. -/
def Dev.tapCopy (d : Dev) : Dev :=
  if d.held 2 then d
  else match d.copies with
    | [] => d
    | c :: t => Dev.judgeCopy { d with copies := t } c

/-! Writing the area (R294, R295). -/

/-- The two words of a record (R294). -/
def CapRec.words (r : CapRec) (seq : Nat) : Nat × Nat :=
  if r.kind = 7 then (7 * 2 ^ 53, 0)
  else (r.kind * 2 ^ 53 + r.tap % 32 * 2 ^ 48 + r.ty % 256 * 2 ^ 40 + r.qual % 256 * 2 ^ 32 + r.val % 2 ^ 32,
        seq % 2 ^ 24 * 2 ^ 40 + r.phase % 256 * 2 ^ 32 + r.tick % 2 ^ 32)

/-- A block of the stream area is complete: it is ready (R299). -/
def Dev.blockReady (d : Dev) (u : Nat) : Dev :=
  let n := d.get .x_DC_NWR u
  if d.on .x_DC_STREAM u && decide (n % 256 = 0) then
    { d with dcReady := d.dcReady ++ [(u, d.dcAddr u ((n - 256) % d.dcR u), d.now)] }
  else d

/-- A unit whose last record is written: the next segment follows, or DONE. -/
def Dev.segDone (d : Dev) (u : Nat) : Dev :=
  if d.on .x_DC_CLOSE u && !d.capFifo.any (fun r => decide (r.unit = u)) then
    let d := d.put .x_DC_CLOSE u 0
    if d.dcState u = dcPost then
      if d.get .DC_CFG_MODE u = 1 ∧ d.get .DC_STAT_SEG u < d.get .DC_CFG_NSEG u then d.put .x_DC_GAP u 1 else d.put .DC_STAT_STATE u dcDone
    else d
  else d

/-- Writes one record of a unit to its area. -/
def Dev.writeRec (d : Dev) (u seq : Nat) (r : CapRec) : Dev :=
  let rs := d.dcRs u
  let base := if d.get .DC_CFG_MODE u = 1 then (if r.kind = 5 then r.val else d.get .DC_WPTR u / rs) * rs else 0
  let d := if r.kind = 5 then ((d.put .DC_WPTR u base).put .x_DC_NWR u 0).put .x_DC_FW u 0 else d
  let i := d.get .DC_WPTR u
  let a := d.dcAddr u i
  let disc := decide (rs ≤ d.get .x_DC_NWR u) && !d.on .x_DC_FW u && !d.on .x_DC_STREAM u && isCopyKind (d.rd a 8 / 2 ^ 53 % 8)
  let d := if disc then d.bump .DC_DISC u 1 else d
  let w := r.words seq
  let d := (d.wr a 8 w.1).wr (a + 8) 8 w.2
  let d := (d.bump .x_DC_NWR u 1).put .DC_WPTR u (base + (i + 1 - base) % rs)
  (if r.kind = 3 then d.put .x_DC_FW u 1 else d).blockReady u

/-- CAPTURE_FIFO_WRITE: the oldest record of a unit. -/
def Dev.fifoWrite (d : Dev) (u : Nat) : Dev :=
  if d.held 2 then d
  else
    let mine := d.capFifo.filter (fun r => decide (r.unit = u))
    match mine with
    | [] => d
    | r :: _ =>
      let seq := d.get .x_DC_SEQ u - mine.length
      (Dev.writeRec { d with capFifo := d.capFifo.erase r } u seq r).segDone u

/-- Writes every record that a unit still holds. -/
def Dev.drainUnit (d : Dev) (u : Nat) : Dev :=
  timesN (d.capFifo.filter (fun r => decide (r.unit = u))).length (fun d => d.fifoWrite u) d

/-! Arming and stopping (R295, R296). -/

/-- Forgets the taps' last records. -/
def Dev.tapsFresh (d : Dev) (u : Nat) : Dev := forN 32 (fun d t => d.put .x_TAP_HAS (32 * u + t) 0) d

/-- Fills the present stream block (R299). -/
def Dev.fillBlock (d : Dev) (u : Nat) : Dev :=
  let n := d.get .x_DC_NPUT u
  timesN ((256 - n % 256) % 256) (fun d => d.putMark u 7 0 0 0) d

/-- The unit is armed. -/
def Dev.armNow (d : Dev) (u : Nat) : Dev :=
  let mode := d.get .DC_CFG_MODE u
  let d := (d.drainUnit u).tapsFresh u
  let d := ((((d.put .x_DC_GAP u 0).put .x_DC_CLOSE u 0).put .x_DC_FT u 0).put .x_DC_LOSTN u 0).put .DC_STAT_SEG u 0
  if mode = 2 then
    let d := if d.on .x_DC_STREAM u then (d.fillBlock u).drainUnit u
      else (((d.put .DC_WPTR u 0).put .x_DC_NWR u 0).put .x_DC_NPUT u 0).put .x_DC_SENT u 0
    let d := ((d.put .x_DC_STREAM u 1).put .x_DC_SEQ u 0).put .DC_STAT_STATE u dcCont
    if d.dcRoom u = 0 then d.put .x_DC_THI u 0 else d.putTime u d.now
  else
    let d : Dev := { d with dcReady := d.dcReady.filter (fun x => !decide (x.1 = u)) }
    let d := (((d.put .DC_WPTR u 0).put .x_DC_NWR u 0).put .x_DC_NPUT u 0).put .x_DC_SENT u 0
    let d := (((d.put .x_DC_STREAM u 0).put .x_DC_SEQ u 0).put .x_DC_FW u 0).put .DC_STAT_STATE u dcArmed
    (if mode = 1 then d.putMark u 5 0 0 d.now else d).putTime u d.now

/-- ARM: ignored outside IDLE and DONE, refused with REJ in the cases of R296. -/
def Dev.arm (d : Dev) (u : Nat) : Dev :=
  let rs := d.dcRs u
  if d.held 2 then d
  else if !d.on .DC_CFG_EN u || (decide (d.get .DC_CFG_MODE u ≠ 2) && (decide (rs < d.get .DC_POST u + 3) || decide (rs < 4))) then d.put .DC_STAT_REJ u 1
  else if d.dcState u = dcIdle ∨ d.dcState u = dcDone then d.armNow u
  else d

/-- FIRE: a write of 1. -/
def Dev.fireWrite (d : Dev) (u : Nat) : Dev := if d.held 2 then d else d.dcFire u 0 0 d.now

/-- STOP: the unit moves to DONE at once. -/
def Dev.captureStop (d : Dev) (u : Nat) : Dev :=
  if d.held 2 then d else ((d.put .DC_STAT_STATE u dcDone).put .x_DC_GAP u 0).put .x_DC_CLOSE u 0

/-- SEGMENT_REARM. -/
def Dev.segmentRearm (d : Dev) (u : Nat) : Dev :=
  if !d.held 2 && d.on .x_DC_GAP u then
    let s := d.get .DC_STAT_SEG u + 1
    let d := ((d.tapsFresh u).put .x_DC_GAP u 0).put .DC_STAT_SEG u s
    ((d.put .DC_STAT_STATE u dcArmed).putMark u 5 0 s d.now).putTime u d.now
  else d

/-! The nets (R298). -/

/-- Whether a MASTER unit drives the ARM net. -/
def Dev.armDriven (d : Dev) : Bool :=
  (List.range 8).any (fun u => d.on .DC_CFG_MASTER u && !decide (d.dcState u = dcIdle) && !decide (d.dcState u = dcDone))

/-- ARM_NET_CHANGE: the pin as driven from outside; following units see the net. -/
def Dev.armNet (d : Dev) (pin : Bool) : Dev :=
  if d.held 2 then d
  else
    let was := d.on .x_CAP_ARM 0
    let net := pin || d.armDriven
    let d := (d.flag .x_CAP_APIN 0 pin).flag .x_CAP_ARM 0 net
    if net && !was then
      forN 8 (fun d u =>
        if d.on .DC_CFG_LINK u && !d.on .DC_CFG_MASTER u && (decide (d.dcState u = dcIdle) || decide (d.dcState u = dcDone)) then d.arm u else d) d
    else if was && !net then
      forN 8 (fun d u =>
        if d.on .DC_CFG_LINK u && !d.on .DC_CFG_MASTER u && (decide (d.dcState u = dcArmed) || decide (d.dcState u = dcPost)) then d.captureStop u
        else d) d
    else d

/-- Whether a unit drives the FIRE net. -/
def Dev.fireDriven (d : Dev) : Bool := (List.range 8).any (fun u => d.on .x_DC_FDRV u)

/-- FIRE_NET_ASSERTION: by a unit, or at the pin, whose fires are tagged at acceptance less 12 ns. -/
def Dev.fireNet (d : Dev) (pin : Bool) : Dev :=
  if d.held 2 then d
  else
    let d := if pin then d.put .x_CAP_FPIN 0 1 else d
    if !d.on .x_CAP_FIRE 0 && (pin || d.fireDriven) then
      let t := if d.fireDriven then d.now else d.now - 12
      let d := d.put .x_CAP_FIRE 0 1
      forN 8 (fun d u =>
        if d.on .DC_CFG_LINK u && !d.on .x_DC_FDRV u && decide (d.dcState u = dcArmed) then d.dcFire u 2 0 t else d) d
    else d

/-- FIRE_NET_RELEASE: a unit has driven the net for 1 µs, or the pin is released. -/
def Dev.fireRelease (d : Dev) (pin : Bool) : Dev :=
  if d.held 2 then d
  else
    let d := if pin then d.put .x_CAP_FPIN 0 0 else d
    let d := forN 8 (fun d u => if d.get .x_DC_FDRV u ≤ d.now then d.put .x_DC_FDRV u 0 else d) d
    if d.fireDriven || d.on .x_CAP_FPIN 0 then d else d.put .x_CAP_FIRE 0 0

/-! The stream (R299, R300). -/

/-- STREAM_FLUSH: FLUSH ticks after a block's first record it is filled. -/
def Dev.streamFlush (d : Dev) (u : Nat) : Dev :=
  if !d.held 2 && d.on .x_DC_STREAM u && decide (d.get .x_DC_NPUT u % 256 ≠ 0) && decide (d.get .x_DC_BT u + d.get .DCS_CFG_FLUSH 0 ≤ d.tick) then
    (d.fillBlock u).drainUnit u
  else d

/-- The oldest ready block, ties to the lower unit. -/
def Dev.oldestBlock (d : Dev) : Option (Nat × Nat × Nat) :=
  d.dcReady.foldl (fun best b => match best with
    | none => some b
    | some x => if b.2.2 < x.2.2 ∨ (b.2.2 = x.2.2 ∧ b.1 < x.1) then some b else some x) none

/-- Ring base of the stream. -/
def Dev.dcsRing (d : Dev) : Nat := d.get .DCS_RING_LO 0 + 2 ^ 32 * d.get .DCS_RING_HI 0

/-- Whether a range lies in the LPDDR4X (R28). -/
def inLpddr (a n : Nat) : Bool := decide (0x200000000 ≤ a) && decide (a + n ≤ 0x200000000 + min Config.lpddrSize (8 * 2 ^ 30))

/-- A write of the stream: to the host, or to LPDDR4X memory. -/
def Dev.dcsWrite (d : Dev) (off len v : Nat) : Dev :=
  let a := d.dcsRing + off
  if d.on .DCS_CFG_DST 0 then (if inLpddr a len then d.wr a len v else d) else d.postHost a len v

/-- STREAM_BLOCK_SEND: with credit, at most one block per 2,560 ns. -/
def Dev.streamSend (d : Dev) : Dev :=
  if d.fieldOn && d.on .DCS_CFG_EN 0 && (d.on .DCS_CFG_DST 0 || d.on .PCIE_STAT_LINKUP 0) && decide (d.get .x_DCS_T 0 ≤ d.now) &&
     decide ((d.get .DCS_DEV 0 + 2 ^ 32 - d.get .DCS_HOST 0) % 2 ^ 32 < 2 ^ d.get .DCS_CFG_RSZ 0) then
    match d.oldestBlock with
    | none => d
    | some b =>
      let rsz := d.get .DCS_CFG_RSZ 0
      let d := d.dcsWrite (4096 * (d.get .DCS_DEV 0 % 2 ^ rsz)) 4096 (d.rd b.2.1 4096)
      let d : Dev := { d with dcReady := d.dcReady.erase b }
      let d := ((d.bump .x_DC_SENT b.1 1).put .x_DCS_T 0 (d.now + 2560)).bump .DCS_DEV 0 1
      (d.dcsWrite (4096 * 2 ^ rsz) 4 (d.get .DCS_DEV 0)).put .x_MSI_PEND 32 1
  else d

/-- DCS_HOST_WRITE (R277, R300). -/
def Dev.dcsHostWrite (d : Dev) (v : Nat) : Dev :=
  if d.held 2 then d
  else if 2 ^ d.get .DCS_CFG_RSZ 0 < (d.get .DCS_DEV 0 + 2 ^ 32 - v % 2 ^ 32) % 2 ^ 32 then d.put .DCS_CFG_HOSTERR 0 1
  else d.put .DCS_HOST 0 v

/-- A read of DCu_SEEN (R301). -/
def Dev.seenRead (d : Dev) (u : Nat) : Dev :=
  d.capture [(.DC_REC, u, d.get .DC_REC u), (.DC_SKIP, u, d.get .DC_SKIP u), (.DC_LOST, u, d.get .DC_LOST u), (.DC_IDLE, u, d.get .DC_IDLE u),
    (.DC_DISC, u, d.get .DC_DISC u)]

/-! The commands. -/

/-- TAP_COPY (R292). -/
def execTapCopy (s : State) := act s Dev.tapCopy
/-- CAPTURE_FIFO_WRITE (R291). -/
def execCaptureFifoWrite (u : Fin 8) (s : State) := act s (fun d => d.fifoWrite u)
/-- ARM (R295). -/
def execArm (u : Fin 8) (s : State) := act s (fun d => d.arm u)
/-- FIRE (R297). -/
def execFire (u : Fin 8) (s : State) := act s (fun d => d.fireWrite u)
/-- CAPTURE_STOP (R296). -/
def execCaptureStop (u : Fin 8) (s : State) := act s (fun d => d.captureStop u)
/-- ARM_NET_CHANGE (R298). -/
def execArmNetChange (pin : Bool) (s : State) := act s (fun d => d.armNet pin)
/-- FIRE_NET_ASSERTION (R298). -/
def execFireNetAssertion (pin : Bool) (s : State) := act s (fun d => d.fireNet pin)
/-- FIRE_NET_RELEASE (R298). -/
def execFireNetRelease (pin : Bool) (s : State) := act s (fun d => d.fireRelease pin)
/-- SEGMENT_REARM (R295). -/
def execSegmentRearm (u : Fin 8) (s : State) := act s (fun d => d.segmentRearm u)
/-- STREAM_FLUSH (R299). -/
def execStreamFlush (u : Fin 8) (s : State) := act s (fun d => d.streamFlush u)
/-- STREAM_BLOCK_SEND (R299). -/
def execStreamBlockSend (s : State) := act s Dev.streamSend
/-- DCS_HOST_WRITE (R300). -/
def execDcsHostWrite (v : Word) (s : State) := act s (fun d => d.dcsHostWrite v.toNat)
/-- SEEN_READ (R301). -/
def execSeenRead (u : Fin 8) (s : State) := act s (fun d => d.seenRead u)

end Sys2Proof.Machine
end

