-- ==== Sys2Proof/Machine/Cyclic.lean ====
section
/-!
DEFINITION. Cyclic tasks, I/O images, the watchdog and on-line change (R136 to R154).
-/

namespace Sys2Proof.Machine

/-! Latching the input image (R140, R141). -/

/-- A valid input descriptor (R140). -/
def inDescOk (x : Nat) : Bool :=
  let k := dfld x 63 60
  if k = 1 then decide (dfld x 59 55 ≤ 19) && decide (dfld x 43 42 ≠ 3) && decide (dfld x 40 40 = 0) && tyValid (dfld x 39 32) && decide (dfld x 31 0 = 0)
  else if k = 2 then decide (dfld x 59 53 = 0) && decide (dfld x 43 0 = 0)
  else if k = 3 then decide (dfld x 59 55 ≤ 19) && decide (dfld x 51 0 = 0)
  else false

/-- Nothing latched before. -/
def Latched.none : Latched := { val := 0, qual := 0, age := 0, stamp := 0 }

/-- Adds one up to 0xFFFF. -/
def sat16 (n : Nat) : Nat := min (n + 1) 0xFFFF

/-- A station's field as the latest completed input area gives it: little-endian, 0 beyond the area, sign-extended by SGN. -/
def Dev.stationField (d : Dev) (x : Nat) : Nat :=
  let k := dfld x 59 55
  let s := dfld x 54 52
  let off := dfld x 51 44
  let w := 2 ^ dfld x 43 42
  let v := sumBelow w (fun i => if off + i < d.get .STN_LEN_ILEN (8 * k + s) then (d.byte (inImage k s (off + i))).toNat * 256 ^ i else 0)
  if dfld x 41 41 = 1 then uInt 32 (sNat (8 * w) v) else v

/-- The item of one entry and what it was latched against (R141): VALUE, QUAL, TYPE, AGE. -/
def Dev.latchItem (d : Dev) (x : Nat) (l : Latched) : Nat × Latched :=
  let item := fun (v q ty age : Nat) => v + q * 2 ^ 32 + ty * 2 ^ 40 + age * 2 ^ 48
  match dfld x 63 60 with
  | 1 =>
    let n := d.get .x_STNRX (8 * dfld x 59 55 + dfld x 54 52)
    let ty := dfld x 39 32
    if 1 ≤ n ∧ (l.stamp = 0 ∨ l.stamp < n + 1) then
      let v := d.stationField x
      (item v 0 ty 0, { val := v, qual := 0, age := 0, stamp := n + 1 })
    else
      let a := sat16 l.age
      (item l.val 1 ty a, { l with qual := 1, age := a, stamp := n + 1 })
  | 2 =>
    let r := dfld x 52 44
    let n := d.get .TR_CNT r
    let v := d.get .TR_VAL r
    let q := d.get .TR_INFO_QUAL r
    let ty := d.get .TR_INFO_TYPE r
    if (l.stamp = 0 ∧ n ≠ 0) ∨ (l.stamp ≠ 0 ∧ l.stamp ≠ n + 1) then (item v q ty 0, { val := v, qual := q, age := 0, stamp := n + 1 })
    else
      let a := sat16 l.age
      (item v (q ||| 1) ty a, { val := v, qual := q ||| 1, age := a, stamp := n + 1 })
  | _ =>
    let i := 8 * dfld x 59 55 + dfld x 54 52
    (item (d.get .STN_STAT_REPLIED i + 256 * d.get .STN_STAT_CONSEC i) 0 3 0, Latched.none)

/-- Address of entry e of the input image of task n. -/
def Dev.iimg (d : Dev) (n e : Nat) : Nat := 8 * d.get .CYC_IIMG_ADDR n + 16 * e

/-- Latches the input image of a task. -/
def Dev.latchImage (d : Dev) (n : Nat) : Dev :=
  forN (d.get .CYC_IIMG_CNT n) (fun d e =>
    let x := d.rd (d.iimg n e) 8
    if inDescOk x then
      let r := d.latchItem x (natGet Latched.none (256 * n + e) d.latches)
      Dev.wr { d with latches := natSet Latched.none (256 * n + e) r.2 d.latches } (d.iimg n e + 8) 8 r.1
    else d.bumpSat .CYC_STAT_BADDESC n) d

/-- Forgets what the entries of a task were latched against (R141). -/
def Dev.forgetLatches (d : Dev) (n : Nat) : Dev := { d with latches := d.latches.filter (fun e => !decide (e.1 / 256 = n)) }

/-! Publishing the output image (R142, R146). -/

/-- A token from an output image item (R142, R133). -/
def Dev.imageToken (d : Dev) (x item qual : Nat) : Token :=
  { dest := BitVec.ofNat 16 (dfld x 59 44), ty := BitVec.ofNat 8 (dfld x 43 36), qual := BitVec.ofNat 8 qual, val := BitVec.ofNat 32 item,
    ftag := BitVec.ofNat 16 (d.tick + 1) }

/-- Publishes the output image of a task. -/
def Dev.publish (d : Dev) (n : Nat) : Dev :=
  forN (d.get .CYC_OIMG_CNT n) (fun d e =>
    let x := d.rd (d.oimg n e) 8
    let item := d.rd (d.oimg n e + 8) 8
    if !outDescOk x then d.bumpSat .CYC_STAT_BADDESC n
    else if dfld x 63 60 = 1 then d.imageWrite n x (item % 2 ^ 32)
    else
      let d := d.portLaunch (d.get .TASK_CTL_CORE n) (d.imageToken x item (dfld item 39 32))
      { d with published := natSet 0 (256 * n + e) (item % 2 ^ 40) d.published }) d

/-- At a cycle start during a stop: SAFE again, and each token entry's last published value with STALE added (R146). -/
def Dev.stoppedCycle (d : Dev) (n : Nat) : Dev :=
  forN (d.get .CYC_OIMG_CNT n) (fun d e =>
    let x := d.rd (d.oimg n e) 8
    let item := natGet 0 (256 * n + e) d.published
    if !outDescOk x then d
    else if dfld x 63 60 = 1 then d.imageWrite n x (x % 2 ^ 32)
    else d.portLaunch (d.get .TASK_CTL_CORE n) (d.imageToken x item (dfld item 39 32 ||| 1))) d

/-! On-line change (R150 to R153). -/

/-- Fields of a change-record entry (R150): KIND, TASK, X, A, B, C. -/
structure ChgEntry where
  kind : Nat
  task : Nat
  x : Nat
  a : Nat
  b : Nat
  c : Nat
  deriving DecidableEq, Repr

/-- Entry i of the record at an address. -/
def Dev.chgEntry (d : Dev) (rec_ i : Nat) : ChgEntry :=
  let a := rec_ + 16 * i
  { kind := d.rd a 1, task := d.rd (a + 1) 1, x := d.rd (a + 2) 2, a := d.rd (a + 4) 4, b := d.rd (a + 8) 4, c := d.rd (a + 12) 4 }

/-- The entries of a record. -/
def Dev.chgEntries (d : Dev) (rec_ cnt : Nat) : List ChgEntry := (List.range cnt).map (d.chgEntry rec_)

/-- A range wholly within the shared program SRAM or one tightly coupled memory (R139). -/
def inOneMem (a len : Nat) : Bool :=
  decide (a + len ≤ 0x600000) || (decide (0x800000 ≤ a) && decide (a + len ≤ 0x900000) && decide (a / 0x40000 = (a + (len - 1)) / 0x40000))

/-- An image register value that would pass R139. -/
def imageOk (v : Nat) : Bool := decide (v % 8 = 0) && inOneMem (v % 2 ^ 24) (16 * (v / 2 ^ 24))

/-- Instances in use: TYPE other than FREE. -/
def Dev.timLive (d : Dev) (i : Nat) : Bool := d.on .TIM_CFG_TYPE i

/-- The live instance that a TIMER entry moves: the same ID, TYPE and UNIT (R152). -/
def Dev.movedFrom (d : Dev) (e : ChgEntry) : Option Nat :=
  firstBelow 1024 (fun i => d.timLive i && decide (d.get .TIM_ID i = e.a) && decide (d.get .TIM_CFG_TYPE i = e.b % 8) &&
    decide (d.get .TIM_CFG_UNIT i = e.b / 8 % 2))

/-- The check of entry i (R151); 0 passes. -/
def Dev.chgCheck (d : Dev) (es : List ChgEntry) (i : Nat) (e : ChgEntry) : Nat :=
  let earlier := es.take i
  let unused := match e.kind with
    | 1 => decide (e.x = 0)
    | 2 => decide (e.x < 1024) && decide (dfld e.b 31 29 = 0) && decide (dfld e.b 16 4 = 0)
    | 3 => decide (e.x = 0)
    | 4 => decide (e.x < 8192) && decide (e.b = 0) && decide (e.c = 0)
    | 5 => decide (e.x = 0) && decide (e.b = 0) && decide (e.c = 0)
    | _ => false
  if !unused then 1
  else if e.kind = 1 ∧ (e.task ≥ 64 ∨ !d.on .CYC_CTL_EN e.task ∨ earlier.any (fun f => decide (f.kind = 1) && decide (f.task = e.task))) then 2
  else if e.kind = 1 ∧ !(inProgMem e.a && imageOk e.b && imageOk e.c) then 3
  else if e.kind = 3 ∧ !(decide (e.c % 8 = 0) && decide (8 ≤ e.c) && decide (e.c ≤ 4096) && inOneMem e.a e.c && inOneMem e.b e.c) then 3
  else if e.kind = 4 ∧ !inProgMem e.a then 3
  else if e.kind = 2 ∧ (e.a = 0 ∨ earlier.any (fun f => decide (f.kind = 2) && (decide (f.x = e.x) || decide (f.a = e.a))) ∨
      (d.timLive e.x ∧ !es.any (fun f => (decide (f.kind = 5) && decide (f.a = d.get .TIM_ID e.x)) ||
        (decide (f.kind = 2) && decide (d.movedFrom f = some e.x))))) then 4
  else if !es.any (fun f => decide (f.kind = 1) && decide (f.task = e.task)) then 5
  else 0

/-- A write of 1 to CHG_CTL.GO: ignored while BUSY (R151). -/
def Dev.chgGo (d : Dev) : Dev := if d.on .CHG_STAT_BUSY 0 || d.on .CHG_CTL_GO 0 then d else (d.put .CHG_CTL_GO 0 1).put .x_CHGAT 0 d.tick

/-- A write of 1 to ABORT (R153). -/
def Dev.chgAbort (d : Dev) : Dev := d.abandonChange

/-- The check of the record ends (R151). -/
def Dev.chgCheckEnd (d : Dev) : Dev :=
  if !d.on .CHG_CTL_GO 0 then d
  else
    let r := 8 * d.get .CHG_REC 0
    let es := d.chgEntries r (d.get .CHG_CTL_CNT 0)
    let codes := (List.range es.length).map (fun i => (i, (es[i]?).elim 0 (d.chgCheck es i)))
    let d := d.put .CHG_CTL_GO 0 0
    match codes.find? (fun p => decide (p.2 ≠ 0)) with
    | some p => (d.put .CHG_STAT_REFUSE 0 p.2).put .CHG_STAT_REF_ENTRY 0 p.1
    | none =>
      let ts := (es.filter (fun e => decide (e.kind = 1))).map ChgEntry.task
      let d := ((d.put .CHG_STAT_REFUSE 0 0).put .CHG_STAT_REF_ENTRY 0 0).put .x_CHGCNT 0 es.length
      let d := ts.foldl (fun d t => if t < 32 then d.put .CHG_WAIT_LO 0 (d.get .CHG_WAIT_LO 0 ||| 2 ^ t)
                                    else d.put .CHG_WAIT_HI 0 (d.get .CHG_WAIT_HI 0 ||| 2 ^ (t - 32))) d
      if ts.isEmpty then d
      else Dev.put { d with changes := ts.map (fun t => (t, r)) } .CHG_STAT_BUSY 0 1

/-- Sets every field of a timer instance to 0 (R152). -/
def Dev.timClear (d : Dev) (i : Nat) : Dev :=
  [F.TIM_ID, .TIM_CFG_IN_LAST, .TIM_CFG_Q, .TIM_CFG_RUN, .TIM_CFG_NOTE, .TIM_CFG_NTASK, .TIM_CFG_NFLAG, .TIM_CFG_UNIT, .TIM_CFG_TYPE,
   .TIM_PT, .TIM_ET, .x_TIMST, .x_TIMNT].foldl (fun d f => d.put f i 0) d

/-- TIMER entries taken together: moved instances keep RUN, Q, IN_LAST, ET and their start tick (R152). -/
def Dev.timMoves (d : Dev) (es : List ChgEntry) : Dev :=
  let moves := es.map (fun e => (e, d.movedFrom e))
  let cleared := moves.foldl (fun d' m => match m.2 with
    | some i => d'.timClear i
    | none => d') d
  moves.foldl (fun d' m =>
    let e := m.1
    let i := e.x
    let d1 := d'.timClear i
    let d1 := ((d1.put .TIM_ID i e.a).put .TIM_CFG_NOTE i (dfld e.b 28 28)).put .TIM_CFG_NTASK i (dfld e.b 27 22)
    let d1 := ((d1.put .TIM_CFG_NFLAG i (dfld e.b 21 17)).put .TIM_CFG_UNIT i (dfld e.b 3 3)).put .TIM_CFG_TYPE i (dfld e.b 2 0)
    let d1 := d1.put .TIM_PT i e.c
    match m.2 with
    | none => d1
    | some j =>
      let d1 := ((d1.put .TIM_CFG_RUN i (d.get .TIM_CFG_RUN j)).put .TIM_CFG_Q i (d.get .TIM_CFG_Q j)).put .TIM_CFG_IN_LAST i (d.get .TIM_CFG_IN_LAST j)
      ((d1.put .TIM_ET i (d.get .TIM_ET j)).put .x_TIMST i (d.get .x_TIMST j)).put .x_TIMNT i (d.get .x_TIMNT j)) cleared

/-- The switch of a task, up to the latch (R152 steps 1 to 6). -/
def Dev.taskSwitch (d : Dev) (n rec_ : Nat) : Dev :=
  let es := (d.chgEntries rec_ (d.get .x_CHGCNT 0)).filter (fun e => decide (e.task = n))
  let kind := fun k => es.filter (fun e => decide (e.kind = k))
  let d := (kind 5).foldl (fun d e => forN 1024 (fun d i => if d.timLive i && decide (d.get .TIM_ID i = e.a) then d.timClear i else d) d) d
  let d := d.timMoves (kind 2)
  let d := (kind 3).foldl (fun d e => d.wr e.b e.c (d.rd e.a e.c)) d
  let d := (kind 1).foldl (fun d e =>
    let d := (d.put .TASK_ENTRY n (e.a / 4)).put .CYC_IIMG_CNT n (e.b / 2 ^ 24)
    ((d.put .CYC_IIMG_ADDR n (e.b / 8)).put .CYC_OIMG_CNT n (e.c / 2 ^ 24)).put .CYC_OIMG_ADDR n (e.c / 8)) d
  let d := (d.forgetLatches n).latchImage n
  let d := (kind 4).foldl (fun d e => d.wr e.a 1 (d.rd (d.iimg n (e.x % 256) + 8) 4 / 2 ^ (e.x / 256) % 2)) d
  let d := if n < 32 then d.put .CHG_WAIT_LO 0 (d.get .CHG_WAIT_LO 0 &&& (2 ^ 32 - 1 - 2 ^ n))
           else d.put .CHG_WAIT_HI 0 (d.get .CHG_WAIT_HI 0 &&& (2 ^ 32 - 1 - 2 ^ (n - 32)))
  let rest := d.changes.filter (fun c => !decide (c.1 = n))
  let d : Dev := { d with changes := rest }
  if rest.isEmpty then (d.put .CHG_STAT_BUSY 0 0).put .CHG_STAT_DONE 0 1 else d

/-! The cycle (R136 to R138, R145, R146). -/

/-- Cycle period of a task in ticks. -/
def Dev.cperiod (d : Dev) (n : Nat) : Nat := d.get .CYC_PER n + 1

/-- The tick at which a task's watchdog acts (R145). -/
def Dev.wdogTick (d : Dev) (n : Nat) : Nat :=
  d.get .x_CYCST n + (if d.get .CYC_WDOG n = 0 then d.cperiod n else d.get .CYC_WDOG n)

/-- A cyclic task's watchdog has expired: its cycle is not complete at its watchdog tick. -/
def Dev.wdogExpired (d : Dev) (n : Nat) : Bool :=
  d.on .CYC_CTL_EN n && decide (d.tstate n ≠ tsDormant) && decide (d.wdogTick n ≤ d.tick)

/-- WATCHDOG_EXPIRY (R145). -/
def Dev.watchdog (d : Dev) (n : Nat) : Dev := if d.progRuns && d.wdogExpired n then d.stopProgram 0x01 n else d

/-- CYCLE_START of task n at the present tick (R136, R138, R146, R152, R334). -/
def Dev.cycleStart (d : Dev) (n : Nat) : Dev :=
  if d.progRuns && !d.on .x_HB_DRAIN 0 && d.on .CYC_CTL_EN n && decide (d.tick % d.cperiod n = d.get .CYC_OFF n % d.cperiod n) && decide (d.get .x_CYCD n ≤ d.tick) then
    let d := d.put .x_CYCD n (d.tick + 1)
    if d.stopped then d.stoppedCycle n
    else if d.wdogExpired n then d.stopProgram 0x01 n
    else if d.tstate n ≠ tsDormant then d.bumpSat .CYC_STAT_OVR n
    else
      let d := if d.on .CYC_CTL_OMODE n then d.publish n else d
      let d := match d.changes.find? (fun c => decide (c.1 = n)) with
        | some c => d.taskSwitch n c.2
        | none => d.latchImage n
      (d.put .x_CYCST n d.tick).start n
  else d

/-- LOOP_REGION_STOP_SIGNAL: the tick after the stop (R95, R146). The axis cells take it where WDSTOP says so (`Axis`). -/
def Dev.stopSignalDue (d : Dev) : Bool := d.stopped && decide (d.get .x_STOPT 0 < d.tick) && !d.on .x_LSPSIG 0

/-- CYCLE_START (R136). -/
def execCycleStart (n : Fin 64) (s : State) := act s (fun d => d.cycleStart n)
/-- WATCHDOG_EXPIRY (R145). -/
def execWatchdogExpiry (n : Fin 64) (s : State) := act s (fun d => d.watchdog n)
/-- CHANGE_GO (R151). -/
def execChangeGo (s : State) := act s (fun d => d.chgGo)
/-- CHANGE_CHECK_END (R151). -/
def execChangeCheckEnd (s : State) := act s (fun d => d.chgCheckEnd)
/-- CHANGE_ABORT (R153). -/
def execChangeAbort (s : State) := act s (fun d => d.chgAbort)

end Sys2Proof.Machine
end

