-- ==== Sys2Proof/Machine/Axis.lean ====
section
/-!
DEFINITION. Axis cells: plans, moves, stops, gears and cams (R175 to R183, R188, R189), and interpolation groups (R184 to R187). The
planner's result is open inside a plan (`Config.moveAt`, `Config.pathAt`); start, end, state and flags are the spec's.
-/

namespace Sys2Proof.Machine

/-! Plans (R176). -/

/-- At rest: velocity and acceleration are 0. -/
def atRest (m : Motion) : Bool := decide (m.vel.toNat % 2 ^ 63 = 0) && decide (m.acc.toNat % 2 ^ 63 = 0)

/-- At rest at a position. -/
def restAt (p : DWord) : Motion := { pos := p, vel := 0#64, acc := 0#64 }

/-- The magnitudes of three finite numbers at one common exponent. -/
def commonScale (a b c : FVal) : Option (Nat × Nat × Nat × Int) :=
  match a, b, c with
  | .num _ m e, .num _ n f, .num _ k g =>
    let e0 := min e (min f g)
    some (m * 2 ^ (e - e0).toNat, n * 2 ^ (f - e0).toNat, k * 2 ^ (g - e0).toNat, e0)
  | _, _, _ => none

/-- A stop from constant velocity whose three pieces are whole ticks as they stand: ticks and distance in 1/65536 counts (R176, R177). -/
def exactStop (r : MoveReq) : Option (Nat × Nat) :=
  match commonScale (f64.unpack r.start.vel.toNat) (f32.unpack r.amax.toNat) (f32.unpack r.jmax.toNat) with
  | none => none
  | some (v, a, j, e0) =>
    if r.start.acc.toNat % 2 ^ 63 = 0 ∧ 0 < v ∧ 0 < a ∧ 0 < j ∧ a * a ≤ v * j ∧ 1000000 * a % j = 0 ∧ 1000000 * v % a = 0 then
      let t := 1000000 * v / a + 1000000 * a / j
      let num := v * t * 65536 * 2 ^ e0.toNat
      some (t, (rne num (2000000 * 2 ^ (-e0).toNat)).toNat)
    else none

/-- Ticks and rest position of a stop. -/
def stopOf (r : MoveReq) : Nat × DWord :=
  if atRest r.start then (0, r.start.pos)
  else match exactStop r with
    | some (t, dist) => (t, if r.start.vel.msb then r.start.pos - BitVec.ofNat 64 dist else r.start.pos + BitVec.ofNat 64 dist)
    | none => (Config.moveTicks r, Config.stopPos r)

/-- Ticks of a move to the target of a request. -/
def moveDur (r : MoveReq) (tgt : DWord) : Nat := if atRest r.start && decide (r.start.pos = tgt) then 0 else Config.moveTicks r

/-- The stop part of a plan as a request. -/
def Plan.stopReq (p : Plan) (ramp : Word × Word) : MoveReq :=
  { start := p.start, target := none, vmax := p.vmax, amax := ramp.1, jmax := ramp.2 }

/-- Where and when the move part of a plan begins: state and tick. -/
def Plan.moveStart (p : Plan) : Motion × Nat :=
  match p.stop with
  | none => (p.start, p.t0)
  | some ramp => let s := stopOf (p.stopReq ramp); (restAt s.2, p.t0 + s.1)

/-- The tick at which the plan is at rest for good. -/
def Plan.endTick (p : Plan) : Nat :=
  let s := p.moveStart
  match p.target with
  | none => s.2
  | some tgt => s.2 + moveDur { start := s.1, target := some tgt, vmax := p.vmax, amax := p.amax, jmax := p.jmax } tgt

/-- The position at which the plan ends. -/
def Plan.endPos (p : Plan) : DWord := p.target.getD p.moveStart.1.pos

/-- The set-point of a plan at a time in nanoseconds: a function of tool time (R176). -/
def Plan.at (p : Plan) (ns : Nat) : Motion :=
  let s := p.moveStart
  if ns ≤ 1000 * p.t0 then p.start
  else if 1000 * p.endTick ≤ ns then restAt p.endPos
  else if ns < 1000 * s.2 then
    match p.stop with
    | some ramp => Config.moveAt (p.stopReq ramp) (ns - 1000 * p.t0)
    | none => p.start
  else Config.moveAt { start := s.1, target := p.target, vmax := p.vmax, amax := p.amax, jmax := p.jmax } (ns - 1000 * s.2)

/-- No plan: at rest at a position. -/
def Plan.rest (pos : DWord) : Plan :=
  { t0 := 0, start := restAt pos, stop := none, target := none, vmax := 0#32, amax := 0#32, jmax := 0#32 }

/-- The plan of axis a. -/
def Dev.plan (d : Dev) (a : Nat) : Plan := natGet (Plan.rest 0#64) a d.plans

/-- Writes the plan of axis a. -/
def Dev.setPlan (d : Dev) (a : Nat) (p : Plan) : Dev := { d with plans := natSet (Plan.rest 0#64) a p d.plans }

/-! Groups: members and their set-points (R184, R185). -/

/-- Nothing on the path. -/
def Path.idle : Path := { seg := [], starts := [], t0 := 0, key := 0, stopping := false }

/-- The path of group g. -/
def Dev.path (d : Dev) (g : Nat) : Path := natGet Path.idle g d.paths

/-- Writes the path of group g. -/
def Dev.setPath (d : Dev) (g : Nat) (p : Path) : Dev := { d with paths := natSet Path.idle g p d.paths }

/-- MODE of axis a (R175); a retired cell acts as in OFF (R313). -/
def Dev.amode (d : Dev) (a : Nat) : Nat := if d.on .x_RET_AX a then 0 else d.get .AX_CFG_MODE a

/-- The members of group g, in ascending axis number. -/
def Dev.members (d : Dev) (g : Nat) : List Nat :=
  (List.range 32).filter (fun a => decide (d.amode a = 2) && decide (d.get .AX_CFG_GRP a = g))

/-- Place of axis a among the members of its group. -/
def Dev.memberIdx (d : Dev) (a : Nat) : Nat := ((d.members (d.get .AX_CFG_GRP a)).filter (fun b => decide (b < a))).length

/-- KIND of a segment. -/
def segKind (seg : List Nat) : Nat := dfld (seg.headD 0) 63 56

/-- Ticks of the segment or stop of a path; a dwell takes the time it names. -/
def Path.dur (p : Path) : Nat := if !p.stopping && decide (segKind p.seg = 4) then p.seg.headD 0 % 2 ^ 32 else Config.pathTicks p.key

/-- The tick at which the segment or stop ends. -/
def Path.endTick (p : Path) : Nat := p.t0 + p.dur

/-- Something moves or dwells on the path. -/
def Path.busy (p : Path) : Bool := p.stopping || !p.seg.isEmpty

/-- The set-point of member i on the path. -/
def Path.at (p : Path) (i ns : Nat) : Motion :=
  let from_ := p.starts.getD i 0#64
  if !p.stopping && decide (segKind p.seg = 4) then restAt from_
  else if ns ≤ 1000 * p.t0 then { Config.pathAt p.key i 0 with pos := from_ }
  else if ns < 1000 * p.endTick then Config.pathAt p.key i (ns - 1000 * p.t0)
  else if p.stopping then restAt (Config.pathAt p.key i (1000 * p.dur)).pos
  else { Config.pathAt p.key i (1000 * p.dur) with pos := BitVec.ofNat 64 (p.seg.getD (i + 1) 0) }

/-! The present set-point. -/

/-- A 64-bit value in two registers. -/
def Dev.get64 (d : Dev) (lo hi : F) (i : Nat) : DWord := BitVec.ofNat 64 (d.get lo i + 2 ^ 32 * d.get hi i)

/-- Writes a 64-bit value into two registers. -/
def Dev.put64 (d : Dev) (lo hi : F) (i : Nat) (v : DWord) : Dev := (d.put lo i v.toNat).put hi i (v.toNat / 2 ^ 32)

/-- STATE of axis a. -/
def Dev.astate (d : Dev) (a : Nat) : Nat := d.get .AX_STAT_STATE a

/-- The set-point of axis a at a time in nanoseconds. -/
def Dev.axisAt (d : Dev) (a ns : Nat) : Motion :=
  let p := d.path (d.get .AX_CFG_GRP a)
  if d.on .x_AX_ENG a then
    { pos := d.get64 .AX_POS_LO .AX_POS_HI a, vel := BitVec.ofNat 64 (f32.conv f64 (d.get .AX_VEL a)).1,
      acc := BitVec.ofNat 64 (f32.conv f64 (d.get .AX_ACC a)).1 }
  else if decide (d.amode a = 2) && p.busy && decide (d.astate a ≠ 6) then p.at (d.memberIdx a) ns
  else (d.plan a).at ns

/-- Shows a set-point in POS, VEL and ACC. -/
def Dev.showMotion (d : Dev) (a : Nat) (m : Motion) : Dev :=
  ((d.put64 .AX_POS_LO .AX_POS_HI a m.pos).put .AX_VEL a (f64.conv f32 m.vel.toNat).1).put .AX_ACC a (f64.conv f32 m.acc.toNat).1

/-- A position outside the software limits, where they are on (R178). -/
def Dev.outside (d : Dev) (a : Nat) (p : DWord) : Bool :=
  d.on .AX_CFG_SLEN a && (decide (p.toInt < (d.get64 .AX_SLN_LO .AX_SLN_HI a).toInt * 65536) ||
    decide ((d.get64 .AX_SLP_LO .AX_SLP_HI a).toInt * 65536 < p.toInt))

/-! Stop requests (R179). -/

/-- An axis comes to rest after a stop of a rank. -/
def Dev.axisRested (d : Dev) (a rank cause : Nat) (pos : DWord) : Dev :=
  let d := ((d.setPlan a (Plan.rest pos)).showMotion a (restAt pos)).put64 .AX_TGT_LO .AX_TGT_HI a pos
  let d := ((d.put .x_AX_RANK a 0).put .x_AX_ENG a 0).put .x_AX_REST a 1
  let d := if cause = 0 then d else d.put .AX_STAT_CAUSE a cause
  d.put .AX_STAT_STATE a (if rank = 1 ∨ rank = 4 then 6 else 0)

/-- A stop request of an axis that is no group member. -/
def Dev.axisRequest (d : Dev) (a rank cause : Nat) : Dev :=
  let act := d.get .x_AX_RANK a
  let req := d.get .x_AX_REQ a
  let note := if (rank = 1 ∨ rank = 4) ∧ d.get .AX_STAT_CAUSE a = 0 ∧ d.get .x_AX_QCAUSE a = 0 then d.put .AX_STAT_CAUSE a cause else d
  if d.astate a = 6 then note
  else if (act ≠ 0 ∧ act ≤ rank) ∨ (req ≠ 0 ∧ req ≤ rank) then note
  else ((d.put .x_AX_REQ a rank).put .x_AX_QCAUSE a cause).put .x_AX_RTICK a d.tick

/-- A stop request of a group. -/
def Dev.groupRequest (d : Dev) (g rank cause : Nat) : Dev :=
  let act := d.get .x_G_RANK g
  let req := d.get .x_G_REQ g
  if (act ≠ 0 ∧ act ≤ rank) ∨ (req ≠ 0 ∧ req ≤ rank) then
    if rank = 4 ∧ d.get .x_G_QCAUSE g = 0 then
      (d.members g).foldl (fun d a => if d.get .AX_STAT_CAUSE a = 0 then d.put .AX_STAT_CAUSE a cause else d) d
    else d
  else ((d.put .x_G_REQ g rank).put .x_G_QCAUSE g cause).put .x_G_RTICK g d.tick

/-- A stop request of rank 1 to 5 with the CAUSE it leaves; in GROUP mode it acts on the whole group. -/
def Dev.requestStop (d : Dev) (a rank cause : Nat) : Dev :=
  if d.amode a = 2 then d.groupRequest (d.get .AX_CFG_GRP a) rank cause else d.axisRequest a rank cause

/-- A write of 1 to GO (R177 to R179). -/
def Dev.axisGo (d : Dev) (a : Nat) : Dev :=
  if d.held 2 then d
  else if d.astate a = 6 ∨ d.on .x_AX_RANK a ∨ d.on .x_AX_REQ a then d.put .AX_STAT_CMD_REJ a 1
  else if d.amode a = 2 ∨ d.amode a = 0 ∨ d.on .x_AX_ENG a then d
  else
    let tgt := d.get64 .AX_TGT_LO .AX_TGT_HI a
    if d.outside a tgt then d.put .AX_STAT_TGT_REJ a 1
    else ((d.put .x_AX_TGT a tgt.toNat).put .AX_CMD_GO a 1).put .x_AX_RTICK a d.tick

/-- A write of 1 to STOP or QSTOP. -/
def Dev.axisStop (d : Dev) (a rank : Nat) : Dev :=
  if d.held 2 then d
  else
    let d := d.requestStop a rank 0
    if d.amode a ≠ 2 ∧ d.get .x_AX_REQ a = rank then d.put (if rank = 3 then .AX_CMD_QSTOP else .AX_CMD_STOP) a 1 else d

/-- GO, STOP and QSTOP in one write act as QSTOP alone; STOP goes before GO (R179). -/
def Dev.axisCmd (d : Dev) (a : Nat) (go stop qstop : Bool) : Dev :=
  if qstop then d.axisStop a 3
  else
    let d := if stop then d.axisStop a 5 else d
    if go then d.axisGo a else d

/-- A write of 1 to CLR (R179, R354): the group leaves HALTED with its last member. -/
def Dev.axisClr (d : Dev) (a : Nat) : Dev :=
  if d.held 2 || d.on .x_AX_STOP1 a || d.on .x_AX_STOP0 a then d
  else if d.astate a = 6 then
    let d := (d.put .AX_STAT_STATE a 0).put .AX_STAT_CAUSE a 0
    let g := d.get .AX_CFG_GRP a
    if d.amode a = 2 ∧ d.get .G_STAT_STATE g = 4 ∧ (d.members g).all (fun b => decide (d.astate b ≠ 6)) then d.put .G_STAT_STATE g 0 else d
  else d

/-! Plans take effect (R176 to R179). -/

/-- The limits of axis a: AMAX and JMAX, or QAMAX and QJMAX. -/
def Dev.ramp (d : Dev) (a : Nat) (quick : Bool) : Word × Word :=
  if quick then (BitVec.ofNat 32 (d.get .AX_QAMAX a), BitVec.ofNat 32 (d.get .AX_QJMAX a))
  else (BitVec.ofNat 32 (d.get .AX_AMAX a), BitVec.ofNat 32 (d.get .AX_JMAX a))

/-- A plan of axis a with the limits in effect. -/
def Dev.mkPlan (d : Dev) (a t0 : Nat) (m : Motion) (stop : Option (Word × Word)) (tgt : Option DWord) : Plan :=
  { t0 := t0, start := m, stop := stop, target := tgt, vmax := BitVec.ofNat 32 (d.get .AX_VMAX a), amax := (d.ramp a false).1,
    jmax := (d.ramp a false).2 }

/-- The rest position of a stop on a ramp. -/
def Dev.stopPoint (d : Dev) (a t0 : Nat) (m : Motion) (quick : Bool) : DWord := (d.mkPlan a t0 m (some (d.ramp a quick)) none).endPos

/-- The ramp of a stop under R178: a programmed stop that ends outside the limits is replaced by a quick one. -/
def Dev.stopRamp (d : Dev) (a t0 : Nat) (m : Motion) (quick : Bool) : Bool × Dev :=
  let soft := !quick && d.outside a (d.stopPoint a t0 m false)
  let q := quick || soft
  let d := if soft then d.put .AX_STAT_SOFT_LIMIT a 1 else d
  (q, if q && d.outside a (d.stopPoint a t0 m true) then d.put .AX_STAT_LIMIT_OVER a 1 else d)

/-- A stop request takes effect from the set-point m at tick t0. -/
def Dev.takeStop (d : Dev) (a t0 : Nat) (m : Motion) : Dev :=
  let rank := d.get .x_AX_REQ a
  let cause := d.get .x_AX_QCAUSE a
  let d := ((d.put .x_AX_REQ a 0).put .x_AX_QCAUSE a 0).put .AX_CMD_GO a 0
  let d := (d.put .AX_CMD_STOP a 0).put .AX_CMD_QSTOP a 0
  if atRest m then d.axisRested a rank cause m.pos
  else
    let r := d.stopRamp a t0 m (decide (rank ≤ 3))
    let d1 : Dev := r.2
    let d1 := (d1.setPlan a (d1.mkPlan a t0 m (some (d1.ramp a r.1)) none)).put .x_AX_ENG a 0
    let d1 := ((d1.put .x_AX_RANK a rank).put .x_AX_RCAUSE a cause).put .AX_STAT_STATE a (if r.1 then 3 else 2)
    let d1 := d1.put .x_AX_REST a 0
    if cause = 0 then d1 else d1.put .AX_STAT_CAUSE a cause

/-- Whole counts of a distance, rounded up, saturating (R177). -/
def stopDist (p q : DWord) : Nat := min (((q - p).toInt.natAbs + 65535) / 65536) (2 ^ 32 - 1)

/-- A move takes effect from the set-point m at tick t0 (R177, R178). -/
def Dev.takeGo (d : Dev) (a t0 : Nat) (m : Motion) : Dev :=
  let d := (d.put .AX_CMD_GO a 0).put .x_AX_REST a 0
  let tgt := BitVec.ofNat 64 (d.get .x_AX_TGT a)
  let direct := d.mkPlan a t0 m none (some tgt)
  let p := d.plan a
  if d.astate a = 1 ∧ p.target = some tgt ∧ p.vmax = direct.vmax ∧ p.amax = direct.amax ∧ p.jmax = direct.jmax then d
  else
    let sp := d.stopPoint a t0 m false
    let ahead := (sp - m.pos).toInt
    let beyond := (tgt - sp).toInt
    if !atRest m && ((decide (0 < ahead) && decide (beyond < 0)) || (decide (ahead < 0) && decide (0 < beyond)) || d.outside a sp) then
      let r := d.stopRamp a t0 m false
      let d1 : Dev := r.2
      let d1 := d1.put .AX_STOPD a (stopDist m.pos (d1.stopPoint a t0 m r.1))
      let d1 := d1.setPlan a (d1.mkPlan a t0 m (some (d1.ramp a r.1)) (some tgt))
      if r.1 then ((d1.put .x_AX_RANK a 2).put .x_AX_RCAUSE a 0).put .AX_STAT_STATE a 3 else d1.put .AX_STAT_STATE a 1
    else ((d.put .AX_STOPD a 0).setPlan a direct).put .AX_STAT_STATE a 1

/-! Group stops (R186). -/

/-- Discards the remaining segments where FLUSH asked for it (R186). -/
def Dev.flushPath (d : Dev) (g : Nat) : Dev :=
  if d.on .G_CMD_FLUSH g then
    let q := d.get .G_CFG_QUEUE g
    let d := if d.on .G_CFG_EN g then timesN (d.queue q).pkts.length (fun d => (d.qdrop q).2) d else d
    (d.setPath g Path.idle).put .G_CMD_FLUSH g 0
  else d

/-- The members of a group rest where they are; each takes the state of the rank. -/
def Dev.groupRested (d : Dev) (g rank cause ns : Nat) : Dev :=
  let ms := d.members g
  let pts := ms.map (fun a => (a, (d.axisAt a ns).pos))
  let p := d.path g
  let d := pts.foldl (fun d x => if d.astate x.1 = 6 then d else d.axisRested x.1 rank cause x.2) (d.setPath g { p with stopping := false })
  ((d.put .x_G_RANK g 0).put .G_STAT_STATE g (if rank = 1 ∨ rank = 4 then 4 else 0)).flushPath g

/-- A group's stop request takes effect (R186). -/
def Dev.groupTakes (d : Dev) (g : Nat) : Dev :=
  if d.on .x_G_REQ g && decide (d.get .x_G_RTICK g < d.tick) then
    let t0 := d.get .x_G_RTICK g + 1
    let rank := d.get .x_G_REQ g
    let cause := d.get .x_G_QCAUSE g
    let d := ((d.put .x_G_REQ g 0).put .x_G_QCAUSE g 0).put .G_CMD_STOP g 0
    let d := d.put .G_CMD_QSTOP g 0
    let p := d.path g
    if d.get .G_STAT_STATE g = 4 then d.flushPath g
    else if p.busy && !(decide (segKind p.seg = 4) && !p.stopping) then
      let ms := d.members g
      let starts := ms.map (fun a => (d.axisAt a (1000 * t0)).pos)
      let key := d.free
      let d : Dev := { d with free := d.free + 1 }
      let d := d.setPath g { p with starts := starts, t0 := t0, key := key, stopping := true }
      let d := ms.foldl (fun d a => if d.astate a = 6 then d else
        (d.put .AX_STAT_STATE a (if rank ≤ 3 then 3 else 2)).put .AX_STAT_CAUSE a (if cause = 0 then d.get .AX_STAT_CAUSE a else cause)) d
      ((d.put .x_G_RANK g rank).put .x_G_RCAUSE g cause).put .G_STAT_STATE g 3
    else d.groupRested g rank cause d.now
  else d

/-- PLAN_TAKES_EFFECT: the first tick after a move or stop request (R176, R179). -/
def Dev.planTakes (d : Dev) (a : Nat) : Dev :=
  if !d.fieldActs then d
  else if d.amode a = 2 then d.groupTakes (d.get .AX_CFG_GRP a)
  else if (d.on .x_AX_REQ a || d.on .AX_CMD_GO a) && decide (d.get .x_AX_RTICK a < d.tick) then
    let t0 := d.get .x_AX_RTICK a + 1
    let m := d.axisAt a (1000 * t0)
    if d.on .x_AX_REQ a then d.takeStop a t0 m else d.takeGo a t0 m
  else d

/-- AXIS_AT_REST: the plan reaches rest; after a software-limit stop the axis goes on to its target (R178, R179). -/
def Dev.axisAtRest (d : Dev) (a : Nat) : Dev :=
  let g := d.get .AX_CFG_GRP a
  if !d.fieldActs then d
  else if d.amode a = 2 then
    if (d.path g).stopping && decide (1000 * (d.path g).endTick ≤ d.now) then d.groupRested g (d.get .x_G_RANK g) (d.get .x_G_RCAUSE g) d.now else d
  else
    let p := d.plan a
    let rank := d.get .x_AX_RANK a
    if d.astate a = 1 ∧ 1000 * p.endTick ≤ d.now then
      (((d.setPlan a (Plan.rest p.endPos)).showMotion a (restAt p.endPos)).put .AX_STAT_STATE a 0).put .x_AX_REST a 1
    else if d.astate a = 2 ∨ d.astate a = 3 then
      if rank = 2 ∧ p.target.isSome then
        if 1000 * p.moveStart.2 ≤ d.now then (d.put .x_AX_RANK a 0).put .AX_STAT_STATE a 1 else d
      else if 1000 * p.endTick ≤ d.now then d.axisRested a rank (d.get .x_AX_RCAUSE a) p.endPos
      else d
    else d

/-! Gears and cams (R188, R189). -/

/-- The master position at a time: counts of an encoder cell, or the Q48.16 set-point of an axis. -/
def Dev.master (d : Dev) (a ns : Nat) : DWord :=
  let m := d.get .AX_CFG_MSRC a
  if m < 32 then d.count m else (d.axisAt (m - 32) ns).pos

/-- Entry i of the cam table of axis a (R189). -/
def Dev.camEntry (d : Dev) (a i : Nat) : Int :=
  sNat 32 (d.rd (0x21100000 + 0x10000 * (a / 8) + 0x8000 + 4 * (d.get .AX_CAM_CBASE a + i)) 4)

/-- The cam result in 1/65536 counts for m in 1/65536 counts (R189). -/
def Dev.camResult (d : Dev) (a : Nat) (m : Int) : Int :=
  let span : Int := (d.get .AX_CSPAN a * 65536 : Nat)
  let n := 2 ^ d.get .AX_CAM_K a
  let per := d.on .AX_CAM_PERIODIC a
  let u : Int := if per then m % span else if m < 0 then 0 else if span < m then span else m
  let i := (u * (n : Nat) / span).toNat
  let lo := d.camEntry a i
  let hi := if i < n then d.camEntry a (i + 1) else lo
  let rem := u * (n : Nat) - (i : Int) * span
  lo * 65536 + rne ((hi - lo) * rem * 65536) span.toNat + (if per then m / span * (d.camEntry a n - d.camEntry a 0) * 65536 else 0)

/-- Engagement: M0, P0 and the result at engagement are captured (R188). -/
def Dev.engage (d : Dev) (a : Nat) (p0 : DWord) : Dev :=
  let d := ((d.put .x_AX_M0 a (d.master a d.now).toNat).put .x_AX_P0 a p0.toNat).put .x_AX_ENG a 1
  (d.put .x_AX_R0 a (uInt 64 (d.camResult a 0))).showMotion a (restAt p0)

/-- The set-point of an engaged slave at a time (R188, R189). -/
def Dev.followAt (d : Dev) (a ns : Nat) : DWord :=
  let dm := (d.master a ns - BitVec.ofNat 64 (d.get .x_AX_M0 a)).toInt
  let q : Int := if d.get .AX_CFG_MSRC a < 32 then dm * 65536 else dm
  let p0 := BitVec.ofNat 64 (d.get .x_AX_P0 a)
  if d.amode a = 3 then p0 + BitVec.ofInt 64 (sNat 32 (d.get .AX_GNUM a) * q / (d.get .AX_GDEN a : Nat))
  else p0 + BitVec.ofInt 64 (d.camResult a q - sNat 64 (d.get .x_AX_R0 a))

/-- A new MODE takes effect from the set-point m: GEAR and CAM engage, the others rest (R175, R188). -/
def Dev.modeEffect (d : Dev) (a : Nat) (m : Motion) : Dev :=
  let d := (d.setPlan a (Plan.rest m.pos)).showMotion a (restAt m.pos)
  let d := ((d.put .x_AX_RANK a 0).put .x_AX_REQ a 0).put .AX_CMD_GO a 0
  if d.astate a = 6 then d.put .x_AX_ENG a 0
  else if d.amode a ≥ 3 then (d.engage a m.pos).put .AX_STAT_STATE a 5
  else (d.put .x_AX_ENG a 0).put .AX_STAT_STATE a 0

/-! The sample instant (R180, R181). -/

/-- The set-point of a sample: a follower's velocity and acceleration are open, and are free values. -/
def Dev.sampleMotion (d : Dev) (a ts : Nat) : Motion × Dev :=
  if d.on .x_AX_ENG a then
    let (v, d) := d.fresh
    let (c, d) := d.fresh
    let pos := d.followAt a ts
    let d := ((d.put64 .AX_POS_LO .AX_POS_HI a pos).put .AX_VEL a v).put .AX_ACC a c
    let d := if (f32.cmp (d.get .AX_VMAX a) (d.get .AX_VEL a % 2 ^ 31)).1.2.1 then d.put .AX_STAT_VLIM a 1 else d
    (d.axisAt a ts, d)
  else let m := d.axisAt a ts; (m, d.showMotion a m)

/-- The following-error check (R180). -/
def Dev.followingError (d : Dev) (a : Nat) (pos : DWord) : Bool :=
  let e := d.get .AX_CFG_ENC a
  d.on .AX_FEMAX a && decide (d.emode e ≠ emOff) && !d.on .x_AX_STOP0 a &&
    decide (d.get .AX_FEMAX a < (pos.toInt / 65536 - (d.count e).toInt).natAbs)

/-- QUAL of the set-point tokens: a follower of an encoder cell carries that cell's ILLEGAL, STALE and OPEN. -/
def Dev.axisQual (d : Dev) (a : Nat) : Nat :=
  let e := d.get .AX_CFG_MSRC a
  if d.on .x_AX_ENG a && decide (e < 32) then (d.get .x_E_LQ e &&& 0x25) ||| (if d.on .x_E_ILLP e && !d.eserial e then 0x20 else 0) else 0

/-- AXIS_SAMPLE_INSTANT. -/
def Dev.axisSample (d : Dev) (a : Nat) : Dev :=
  let off := 4 * d.get .AX_TOK_SPHASE a
  match dueTick d.now (d.get .AX_TIME_PERIOD a + 1) (d.get .AX_TIME_TOFF a) off with
  | none => d
  | some n =>
    if d.fieldActs && decide (d.get .x_AX_DONE a ≤ n) && decide (d.amode a ≠ 0) then
      let r := (d.put .x_AX_DONE a (n + 1)).sampleMotion a (n * 1000 + off)
      let m := r.1
      let d : Dev := r.2
      let q := d.axisQual a
      let d := if d.on .AX_TOK_PEN a then d.fieldToken (.axis a) (d.get .AX_PVDEST_PDEST a) 4 q ((m.pos.toNat + 0x8000) / 65536) n else d
      let d := if d.on .AX_TOK_VEN a then d.fieldToken (.axis a) (d.get .AX_PVDEST_VDEST a) 2 q (d.get .AX_VEL a) n else d
      let d := if d.on .AX_TOK_AEN a then d.fieldToken (.axis a) (d.get .AX_ADEST a) 2 q (d.get .AX_ACC a) n else d
      let d := if (d.on .x_AX_ENG a || decide (d.astate a = 4)) && d.outside a m.pos then
          (d.put .AX_STAT_SOFT_LIMIT a 1).requestStop a 2 0x6 else d
      if d.followingError a m.pos then d.requestStop a 4 0x1 else d
    else d

/-- A read of AXa_POS_LO shows the present set-point and captures POS_HI, VEL and ACC (R183). -/
def Dev.axisPosRead (d : Dev) (a : Nat) : Dev :=
  let d := d.showMotion a (d.axisAt a d.now)
  d.capture [(.AX_POS_HI, a, d.get .AX_POS_HI a), (.AX_VEL, a, d.get .AX_VEL a), (.AX_ACC, a, d.get .AX_ACC a)]

/-! Safety commands (R352 to R354). -/

/-- The safety region asserts or releases STOP 1 of an axis. -/
def Dev.axisStop1 (d : Dev) (a : Nat) (x : Bool) : Dev :=
  if x then (if d.on .x_AX_STOP1 a then d else (d.put .x_AX_STOP1 a 1).requestStop a 1 0x4) else d.put .x_AX_STOP1 a 0

/-- The safety region asserts or releases STOP 0 of an axis cell: the plan ends at once (R352). -/
def Dev.axisStop0 (d : Dev) (a : Nat) (x : Bool) : Dev :=
  if !x then d.put .x_AX_STOP0 a 0
  else if d.on .x_AX_STOP0 a then d
  else
    let pos := (d.axisAt a d.now).pos
    let d := ((d.put .x_AX_STOP0 a 1).put .x_AX_REQ a 0).put .x_AX_QCAUSE a 0
    let d := ((d.put .AX_CMD_GO a 0).put .AX_CMD_STOP a 0).put .AX_CMD_QSTOP a 0
    let d := d.axisRested a 1 0x4 pos
    if d.amode a = 2 ∧ (d.path (d.get .AX_CFG_GRP a)).busy then d.groupRequest (d.get .AX_CFG_GRP a) 1 0x4 else d

/-- LOOP_REGION_STOP_SIGNAL: the loop region and the axis cells take the program-region stop (R95, R146, R179). -/
def Dev.stopSignal (d : Dev) : Dev :=
  if d.stopSignalDue then
    let d := if d.held 0 then d else d.put .x_LSPSIG 0 1
    if d.held 2 then d else forN 32 (fun d a => if d.on .AX_CFG_WDSTOP a then d.requestStop a 4 0x3 else d) d
  else d

/-! Paths (R185 to R187). -/

/-- Squared radius about a centre. -/
def radius2 (x y cx cy : Nat) : Nat :=
  ((sNat 64 x - sNat 64 cx) ^ 2 + (sNat 64 y - sNat 64 cy) ^ 2).toNat

/-- Radii of an arc that differ by more than 1 count, from their squares in Q48.16. -/
def radiiDiffer (s1 s2 : Nat) : Bool :=
  let far := fun (big small : Nat) =>
    let x : Int := (big : Int) - (small : Int) - 65536 ^ 2
    decide (0 < x) && decide ((4 * 65536 ^ 2 * small : Nat) < x ^ 2)
  far s1 s2 || far s2 s1

/-- A positive finite binary32 number. -/
def posFinite32 (x : Nat) : Bool :=
  match f32.unpack (x % 2 ^ 32) with
  | .num s m _ => !s && decide (0 < m)
  | _ => false

/-- A segment that R185 calls bad. -/
def Dev.badSegment (d : Dev) (g : Nat) (seg : List Nat) : Bool :=
  let kind := segKind seg
  let n := dfld (seg.headD 0) 55 48
  let ms := d.members g
  let ends := seg.tail.take n
  let arc := decide (kind = 2) || decide (kind = 3)
  let len := if kind = 4 then 1 else if arc then n + 3 else n + 1
  let start := fun i : Nat => (d.axisAt (ms.getD i 0) d.now).pos.toNat
  !(decide (1 ≤ kind) && decide (kind ≤ 4)) || decide (seg.length ≠ len) || decide (n ≠ ms.length) ||
  (decide (kind ≠ 4) && !posFinite32 (seg.headD 0)) ||
  (arc && (decide (n < 2) || radiiDiffer (radius2 (start 0) (start 1) (seg.getD (n + 1) 0) (seg.getD (n + 2) 0))
    (radius2 (seg.getD 1 0) (seg.getD 2 0) (seg.getD (n + 1) 0) (seg.getD (n + 2) 0)))) ||
  (decide (kind ≠ 4) && (ms.zip ends).any (fun x => d.outside x.1 (BitVec.ofNat 64 x.2)))

/-- The first tick at or after the present instant. -/
def Dev.tickUp (d : Dev) : Nat := (d.now + 999) / 1000

/-- A write of 1 to START (R186): the path goes on, with what is left of a stopped segment first. -/
def Dev.groupStart (d : Dev) (g : Nat) : Dev :=
  let ms := d.members g
  if d.held 2 then d
  else if ms.isEmpty ∨ ms.length > 8 ∨ d.get .G_STAT_STATE g ≠ 0 ∨ ms.any (fun a => decide (d.astate a = 6)) then d.put .G_STAT_CMD_REJ g 1
  else
    let p := d.path g
    let d :=
      if p.seg.isEmpty then d
      else
        let key := d.free
        let starts := ms.map (fun a => (d.axisAt a d.now).pos)
        Dev.setPath { d with free := d.free + 1 } g { p with starts := starts, t0 := d.tick + 1, key := key, stopping := false }
    (ms.foldl (fun d a => (d.put .AX_STAT_STATE a 4).put .x_AX_REST a 0) d).put .G_STAT_STATE g 1

/-- A write of 1 to STOP, QSTOP or FLUSH of a group. -/
def Dev.groupStop (d : Dev) (g rank : Nat) (flush : Bool) : Dev :=
  if d.held 2 then d
  else
    let d := (if flush then d.put .G_CMD_FLUSH g 1 else d).groupRequest g rank 0
    if !flush && decide (d.get .x_G_REQ g = rank) then d.put (if rank = 3 then .G_CMD_QSTOP else .G_CMD_STOP) g 1 else d

/-- SEGMENT_START (R185). -/
def Dev.segmentStart (d : Dev) (g : Nat) : Dev :=
  let q := d.get .G_CFG_QUEUE g
  let st := d.get .G_STAT_STATE g
  let p := d.path g
  if d.fieldActs && d.on .G_CFG_EN g && (decide (st = 1) || decide (st = 2)) && !p.busy && !d.on .x_G_REQ g && !(d.queue q).pkts.isEmpty then
    let seg := d.qpeek q
    let bad := d.badSegment g seg
    let starts := (d.members g).map (fun a => (d.axisAt a d.now).pos)
    let d := d.qtakePacket q
    if bad then (d.put .G_STAT_BADSEG g 1).groupRequest g 4 0x5
    else
      let key := d.free
      let d := Dev.setPath { d with free := d.free + 1 } g { seg := seg, starts := starts, t0 := d.tickUp, key := key, stopping := false }
      (d.put .G_STAT_ID g (dfld (seg.headD 0) 47 32)).put .G_STAT_STATE g 1
  else d

/-- SEGMENT_COMPLETE (R187). -/
def Dev.segmentComplete (d : Dev) (g : Nat) : Dev :=
  let p := d.path g
  if d.fieldActs && !p.seg.isEmpty && !p.stopping && decide (d.get .G_STAT_STATE g = 1) && decide (1000 * p.endTick ≤ d.now) then
    let pts := (d.members g).map (fun a => (a, (d.axisAt a (1000 * p.endTick)).pos))
    let d := pts.foldl (fun d x => (d.setPlan x.1 (Plan.rest x.2)).showMotion x.1 (restAt x.2)) (d.setPath g Path.idle)
    d.bump .G_DONE g 1
  else d

/-- PATH_STARVED (R186). -/
def Dev.pathStarved (d : Dev) (g : Nat) : Dev :=
  if d.fieldActs && decide (d.get .G_STAT_STATE g = 1) && !(d.path g).busy && (d.queue (d.get .G_CFG_QUEUE g)).pkts.isEmpty then
    (d.put .G_STAT_STATE g 2).bump .G_STARVE g 1
  else d

/-! The commands. -/

/-- AXIS_GO (R177). -/
def execAxisGo (a : Fin 32) (s : State) := act s (fun d => d.axisCmd a true false false)
/-- AXIS_STOP (R179). -/
def execAxisStop (a : Fin 32) (s : State) := act s (fun d => d.axisCmd a false true false)
/-- AXIS_QSTOP (R179). -/
def execAxisQstop (a : Fin 32) (s : State) := act s (fun d => d.axisCmd a false false true)
/-- AXIS_CLR (R179). -/
def execAxisClr (a : Fin 32) (s : State) := act s (fun d => d.axisClr a)
/-- PLAN_TAKES_EFFECT (R176). -/
def execPlanTakesEffect (a : Fin 32) (s : State) := act s (fun d => d.planTakes a)
/-- AXIS_AT_REST (R179). -/
def execAxisAtRest (a : Fin 32) (s : State) := act s (fun d => d.axisAtRest a)
/-- AXIS_SAMPLE_INSTANT (R181). -/
def execAxisSampleInstant (a : Fin 32) (s : State) := act s (fun d => d.axisSample a)
/-- AXIS_POS_READ (R183). -/
def execAxisPosRead (a : Fin 32) (s : State) := act s (fun d => d.axisPosRead a)
/-- LOOP_REGION_STOP_SIGNAL (R95). -/
def execLoopRegionStopSignal (s : State) := act s (fun d => d.stopSignal)
/-- GROUP_START (R186). -/
def execGroupStart (g : Fin 8) (s : State) := act s (fun d => d.groupStart g)
/-- GROUP_STOP (R186). -/
def execGroupStop (g : Fin 8) (s : State) := act s (fun d => d.groupStop g 5 false)
/-- GROUP_QSTOP (R186). -/
def execGroupQstop (g : Fin 8) (s : State) := act s (fun d => d.groupStop g 3 false)
/-- FLUSH (R186). -/
def execFlush (g : Fin 8) (s : State) := act s (fun d => d.groupStop g 5 true)
/-- SEGMENT_START (R185). -/
def execSegmentStart (g : Fin 8) (s : State) := act s (fun d => d.segmentStart g)
/-- SEGMENT_COMPLETE (R187). -/
def execSegmentComplete (g : Fin 8) (s : State) := act s (fun d => d.segmentComplete g)
/-- PATH_STARVED (R186). -/
def execPathStarved (g : Fin 8) (s : State) := act s (fun d => d.pathStarved g)

end Sys2Proof.Machine
end

