-- ==== Sys2Proof/Machine/Pwm.lean ====
section
/-!
DEFINITION. Precision PWM (R190 to R194).
-/

namespace Sys2Proof.Machine

/-- TOP of axis a (R190). -/
def Dev.pwmTop (d : Dev) (a : Nat) : Nat := 1600 * d.get .PWM_CFG_PPER a

/-- The latest valley of axis a that is not later than now, in ns. -/
def Dev.valley (d : Dev) (a : Nat) : Option Nat :=
  (dueTick d.now (d.get .PWM_CFG_PPER a) (d.get .PWM_CFG_POFF a) (4 * d.get .PWM_CFG_PPH a)).map (fun n => n * 1000 + 4 * d.get .PWM_CFG_PPH a)

/-- The latest turning point: valleys, and with DUP = 1 the apexes between them (R191). -/
def Dev.turningPoint (d : Dev) (a : Nat) : Option Nat :=
  match d.valley a with
  | none => none
  | some v =>
    let apex := v + 500 * d.get .PWM_CFG_PPER a
    some (if d.on .PWM_CFG_DUP a && decide (apex ≤ d.now) then apex else v)

/-- CMP of a stage value: Q31 duty or I32, clamped to 0 to TOP; whether it was clamped (R190). -/
def Dev.toCmp (d : Dev) (a st : Nat) : Nat × Bool :=
  let v := sNat 32 (d.stageVal st)
  let top : Int := d.pwmTop a
  let x := if d.get .OS_CFG_TYPE st = 0 then rne (v * top) (2 ^ 31) else v
  if x < 0 then (0, true) else if top < x then (top.toNat, true) else (x.toNat, false)

/-- The compare register of a phase. -/
def cmpReg (ph : Nat) : F := if ph = 0 then .PWM_CMPU else if ph = 1 then .PWM_CMPV else .PWM_CMPW

/-- COMPARE_UPDATE: at a turning point every new stage value becomes CMP; the three phases change together (R191). -/
def Dev.compareUpdate (d : Dev) (a : Nat) : Dev :=
  match d.turningPoint a with
  | none => d
  | some t =>
    if d.fieldActs && decide (d.get .x_PWM_TURN a ≤ t) then
      let last := d.get .x_PWM_TURN a
      let d1 := forN 3 (fun d' ph =>
        let st := 3 * a + ph
        let w := d.get .x_OS_WAT st
        if decide (w ≤ t) && (decide (last ≤ w) || decide (d.get .x_PWM_SRC st ≠ d.stageVal st)) then
          let r := d.toCmp a st
          let d2 := (d'.put (cmpReg ph) a r.1).put .x_PWM_SRC st (d.stageVal st)
          if r.2 then d2.put .PWM_STAT_CLAMP a 1 else d2
        else d') d
      d1.put .x_PWM_TURN a (t + 1)
    else d

/-- A cause that holds the gates inactive (R192). -/
def Dev.gatesHeld (d : Dev) (a : Nat) : Bool :=
  !d.fieldActs || d.on .x_RET_PWM 0 || !d.on .PWM_CFG_EN a || d.on .PWM_TRIP_TRIPPED a || d.on .PWM_STAT_STOP0 a

/-- The gates go inactive at once. -/
def Dev.gatesOff (d : Dev) (a : Nat) : Dev := d.put .x_PWM_ACT a 0

/-- A hold cause ends: the gates wait for the next valley. -/
def Dev.holdEnds (d : Dev) (a : Nat) : Dev := d.put .x_PWM_ENDT a d.now

/-- GATES_RESUME: the first valley after the last hold cause ended (R192, R193). -/
def Dev.gatesResume (d : Dev) (a : Nat) : Dev :=
  match d.valley a with
  | none => d
  | some v => if !d.gatesHeld a && decide (d.get .x_PWM_ENDT a < v) then d.put .x_PWM_ACT a 1 else d

/-- TRIP: the accepted state of TRIPa changes (R193). -/
def Dev.trip (d : Dev) (a : Nat) (asserted : Bool) : Dev :=
  if !d.fieldOn then d
  else
    let d := d.flag .PWM_TRIP_LEVEL a asserted
    if asserted then
      let t := (2 * d.now - 5 * (2 + d.get .PWM_TRIP_TFILT a)) / 2
      let d := ((d.gatesOff a).put .PWM_TRIP_TRIPPED a 1).tapEvent (0x500 + a) 0 (t / 1000) (t % 1000 / 4)
      if d.on .PWM_TRIP_TSTOP a then d.requestStop a 4 0x2 else d
    else d

/-- TRIPPED_CLEAR (R193). -/
def Dev.tripClear (d : Dev) (a : Nat) : Dev :=
  if d.held 2 || d.on .PWM_TRIP_LEVEL a || !d.on .PWM_TRIP_TRIPPED a then d else (d.put .PWM_TRIP_TRIPPED a 0).holdEnds a

/-- The safety region asserts or releases STOP 0 of PWM axis a (R192, R352). -/
def Dev.pwmStop0 (d : Dev) (a : Nat) (x : Bool) : Dev :=
  if x then (d.gatesOff a).put .PWM_STAT_STOP0 a 1
  else if d.on .PWM_STAT_STOP0 a then (d.put .PWM_STAT_STOP0 a 0).holdEnds a
  else d

/-- The counter of axis a in steps of 312.5 ps, and whether it rises (R190). -/
def Dev.pwmCounter (d : Dev) (a : Nat) : Nat × Bool :=
  match d.valley a with
  | none => (0, true)
  | some v =>
    let s := (d.now - v) * 16 / 5
    let top := d.pwmTop a
    if s ≤ top then (s, true) else (2 * top - s, false)

/-- Whether the high-side and low-side gates of a phase are on, with dead time (R190, R192). -/
def Dev.gateOn (d : Dev) (a ph : Nat) : Bool × Bool :=
  let c := d.pwmCounter a
  let cmp := d.get (cmpReg ph) a
  let dt := d.get .PWM_DT a
  let act := d.on .x_PWM_ACT a
  let hi := if c.2 then decide (c.1 < cmp) else decide (c.1 + dt < cmp)
  let lo := if c.2 then decide (cmp + dt ≤ c.1) else decide (cmp ≤ c.1)
  (act && decide (dt ≤ cmp) && hi, act && decide (dt ≤ d.pwmTop a - cmp) && lo)

/-- The levels of the two gate pins of a phase: POLH and POLL give the active level (R192). -/
def Dev.gatePins (d : Dev) (a ph : Nat) : Bool × Bool :=
  ((d.gateOn a ph).1 != d.on .PWM_CFG_POLH a, (d.gateOn a ph).2 != d.on .PWM_CFG_POLL a)

/-- COMPARE_UPDATE (R191). -/
def execCompareUpdate (a : Fin 8) (s : State) := act s (fun d => d.compareUpdate a)
/-- TRIP (R193). -/
def execTrip (a : Fin 8) (asserted : Bool) (s : State) := act s (fun d => d.trip a asserted)
/-- TRIPPED_CLEAR (R193). -/
def execTrippedClear (a : Fin 8) (s : State) := act s (fun d => d.tripClear a)
/-- GATES_RESUME (R192). -/
def execGatesResume (a : Fin 8) (s : State) := act s (fun d => d.gatesResume a)

end Sys2Proof.Machine
end

