-- ==== Sys2Proof/Machine/Stepper.lean ====
section
/-!
DEFINITION. Stepper channels (R195 to R201).
-/

namespace Sys2Proof.Machine

/-! Motion (R196). -/

/-- The target of channel n: stage 0x040 + n when it is enabled, STn_TGT otherwise. -/
def Dev.stepTarget (d : Dev) (n : Nat) : Nat := if d.on .OS_CFG_EN (0x40 + n) then d.stageVal (0x40 + n) else d.get .ST_TGT n

/-- Signed way from POS to the target in effect, the shorter one modulo 2^32. -/
def Dev.stepWay (d : Dev) (n : Nat) : Int := sNat 32 (d.get .x_ST_PT n + 2 ^ 32 - d.get .ST_POS n)

/-- Tick in which the present target arrived. -/
def Dev.stepTargetTick (d : Dev) (n : Nat) : Nat := if d.on .OS_CFG_EN (0x40 + n) then d.get .x_OS_WAT (0x40 + n) / 1000 else d.get .x_ST_TWT n

/-- The channel works. -/
def Dev.stepOn (d : Dev) (n : Nat) : Bool := d.fieldActs && !d.on .x_RET_STP 0 && d.on .ST_CFG_EN n

/-- STEPPER_REPLAN: the first tick after a new target. A target half a turn of the wrapped position away has no shorter way: the
direction from rest is then a free value. -/
def Dev.stepReplan (d : Dev) (n : Nat) : Dev :=
  if d.stepOn n && decide (d.stepTarget n ≠ d.get .x_ST_PT n) && decide (d.stepTargetTick n < d.tick) then
    let d := d.put .x_ST_PT n (d.stepTarget n)
    if d.on .ST_STAT_MOVING n || decide (d.stepWay n = 0) then d
    else
      let r := if d.stepWay n = -(2 ^ 31) then (let f := d.fresh; (decide (f.1 % 2 = 1), f.2)) else (decide (d.stepWay n < 0), d)
      let d1 : Dev := r.2
      let d1 := ((d1.flag .x_ST_DOWN n r.1).put .x_ST_W n 0).put .ST_STAT_MOVING n 1
      (d1.put .ST_LOAD_ICUR n (d1.get .ST_CUR_IMIN n)).put .ST_STAT_HOLD n 0
  else d

/-- MICROSTEP: POS changes by 1 in the direction of motion, and the speed follows the trapezoid: v² gains or loses 2 × SAMAX per
step; a target behind the stopping point is reached after a reversal. -/
def Dev.microstep (d : Dev) (n : Nat) : Dev :=
  if d.stepOn n && d.on .ST_STAT_MOVING n then
    let down := d.on .x_ST_DOWN n
    let ahead : Int := if down then -(d.stepWay n) else d.stepWay n
    let a2 := 2 * d.get .ST_SAMAX n
    let w := d.get .x_ST_W n
    let d := d.put .ST_POS n (d.get .ST_POS n + (if down then 2 ^ 32 - 1 else 1))
    if 0 < ahead ∧ w ≤ a2 * ahead.toNat then
      let left := ahead.toNat - 1
      let d := d.put .x_ST_W n (min (w + a2) (min (d.get .ST_SVMAX n ^ 2) (a2 * left)))
      if left = 0 then (d.put .ST_STAT_MOVING n 0).put .x_ST_RESTT n d.now else d
    else if a2 < w then d.put .x_ST_W n (w - a2)
    else if d.stepWay n = 0 then ((d.put .x_ST_W n 0).put .ST_STAT_MOVING n 0).put .x_ST_RESTT n d.now
    else (d.put .x_ST_W n 0).flag .x_ST_DOWN n (decide (d.stepWay n < 0))
  else d

/-! Phase currents (R196). -/

/-- π / 512 in units of 2^-60. -/
def pi512 : Nat := 7074237752028440

/-- The Taylor series of the sine, one term per unit of fuel, in units of 2^-60. -/
def sinTerms (x2 : Nat) : Nat → Nat → Int → Int
  | 0, _, _ => 0
  | fuel + 1, k, t => t + sinTerms x2 fuel (k + 2) (-(t * x2 / 2 ^ 60) / ((k + 1) * (k + 2) : Nat))

/-- The sine of 2πk / 1,024 for k up to 256, in units of 2^-60. -/
def sinQ (k : Nat) : Nat := (sinTerms (k * pi512 * (k * pi512) / 2 ^ 60) 12 1 (k * pi512 : Nat)).toNat

/-- The magnitude of the sine of 2πk / 1,024 for any k. -/
def absSin (k : Nat) : Nat :=
  let r := k % 512
  sinQ (if r ≤ 256 then r else 512 - r)

/-- The electrical index of channel n. -/
def Dev.elecIdx (d : Dev) (n : Nat) : Nat :=
  let m := 2 ^ (8 - d.get .ST_CFG_MRES n)
  d.get .ST_POS n % 1024 / m * m

/-- ICODE of a phase (0 is A, 1 is B): magnitude, and whether the current is negative. -/
def Dev.icode (d : Dev) (n ph : Nat) : Nat × Bool :=
  let k := d.elecIdx n
  let j := if ph = 0 then k + 256 else k
  let mag := (rne (d.get .ST_LOAD_ICUR n * absSin j) (2 ^ 60)).toNat
  (mag, (decide (512 < j % 1024)) != (decide (ph = 1) && d.on .ST_CFG_INV n))

/-- HYST of a phase. -/
def hystOf (ph : Nat) : F := if ph = 0 then .ST_STAT_HYSTA else .ST_STAT_HYSTB

/-- The comparator threshold of a phase: the upper one while on, the lower one in decay (R197). -/
def Dev.threshold (d : Dev) (n ph : Nat) : Nat :=
  let c := (d.icode n ph).1
  let h := d.get (hystOf ph) n
  if d.on .x_ST_ON (2 * n + ph) then min 255 (c + h) else c - h

/-- The pins of a phase: 10 positive current, 01 negative, 00 decay (R195). -/
def Dev.phasePins (d : Dev) (n ph : Nat) : Bool × Bool :=
  let drive := d.stepOn n && !d.on .ST_STAT_STOP0 n && d.on .x_ST_ON (2 * n + ph) && decide (0 < (d.icode n ph).1)
  (drive && !(d.icode n ph).2, drive && (d.icode n ph).2)

/-! Chopping (R197 to R199). -/

/-- A phase goes to decay: its on-time is counted. -/
def Dev.phaseOff (d : Dev) (i : Nat) : Dev :=
  if d.on .x_ST_ON i then
    ((d.bump .x_ST_ONSUM i (d.now - max (d.get .x_ST_PHT i) (d.get .x_ST_WIN (i / 2)))).put .x_ST_ON i 0).put .x_ST_PHT i d.now
  else d

/-- The channel chops. -/
def Dev.chops (d : Dev) (n : Nat) : Bool := d.stepOn n && !d.on .ST_STAT_STOP0 n

/-- CHOP_COMPARATOR_TRIP (R197). -/
def Dev.chopTrip (d : Dev) (n ph : Nat) : Dev :=
  let i := 2 * n + ph
  if d.chops n && d.on .x_ST_ON i && decide (d.get .x_ST_PHT i + (d.get .ST_CFG_TBL n + 1) * 250 ≤ d.now) then
    (d.phaseOff i).bump .x_ST_CHOPS i 1
  else d

/-- CHOP_DECAY_END: the current has fallen below the lower threshold (R197). -/
def Dev.chopOn (d : Dev) (n ph : Nat) : Dev :=
  let i := 2 * n + ph
  if d.chops n && !d.on .x_ST_ON i && decide (0 < (d.icode n ph).1) && decide (d.get .x_ST_PHT i + (d.get .ST_CFG_TOFFM n + 1) * 500 ≤ d.now) then
    ((d.put .x_ST_ON i 1).put .x_ST_PHT i d.now).put .x_ST_WASON i 1
  else d

/-- HYST of a phase follows the count of the window (R198). -/
def Dev.adjustHyst (d : Dev) (n ph : Nat) : Dev :=
  let i := 2 * n + ph
  let c := d.get .x_ST_CHOPS i
  let h := d.get (hystOf ph) n
  if !d.on .x_ST_WASON i then d
  else if c < 20 then (if 1 < h then d.put (hystOf ph) n (h - 1) else d.put .ST_STAT_HLIM n 1)
  else if 40 < c then (if h < 31 then d.put (hystOf ph) n (h + 1) else d.put .ST_STAT_HLIM n 1)
  else d

/-- The current target of a load (R199). -/
def Dev.currentTarget (d : Dev) (n load : Nat) : Nat :=
  let lo := d.get .ST_LOAD_LLO n
  let hi := d.get .ST_LOAD_LHI n
  let imin := d.get .ST_CUR_IMIN n
  let imax := d.get .ST_CUR_IMAX n
  if hi ≤ lo then imax
  else (rne ((imin * (hi - lo) : Nat) + ((imax : Int) - imin) * (min (load - lo) (hi - lo) : Nat)) (hi - lo)).toNat

/-- HYSTERESIS_WINDOW_END: every 1,000 ticks, at ticks divisible by 1,000 (R198, R199). -/
def Dev.windowEnd (d : Dev) (n : Nat) : Dev :=
  let t := d.now / 1000000 * 1000000
  if d.stepOn n && decide (d.get .x_ST_WIN n < t) then
    let on_ := fun i : Nat => d.get .x_ST_ONSUM i + (if d.on .x_ST_ON i then t - max (d.get .x_ST_PHT i) (d.get .x_ST_WIN n) else 0)
    let load := min 255 (rne (255 * (on_ (2 * n) + on_ (2 * n + 1)) : Nat) (2 * (t - d.get .x_ST_WIN n))).toNat
    let d1 := (d.adjustHyst n 0).adjustHyst n 1
    let d1 := (d1.put .ST_FCHOP_FA n (min 65535 (d.get .x_ST_CHOPS (2 * n)))).put .ST_FCHOP_FB n (min 65535 (d.get .x_ST_CHOPS (2 * n + 1)))
    let d1 :=
      if d.on .ST_STAT_MOVING n then
        let tgt := d.currentTarget n load
        let cur := d.get .ST_LOAD_ICUR n
        (d1.put .ST_LOAD_LOAD n load).put .ST_LOAD_ICUR n (if cur < tgt then tgt else if tgt < cur then cur - 1 else cur)
      else d1
    let d1 := forN 2 (fun d' ph =>
      let i := 2 * n + ph
      (((d'.put .x_ST_CHOPS i 0).put .x_ST_ONSUM i 0).put .x_ST_WASON i (d.get .x_ST_ON i))) d1
    d1.put .x_ST_WIN n t
  else d

/-- HOLD_CURRENT: at rest for THOLD ms (R199). -/
def Dev.holdCurrent (d : Dev) (n : Nat) : Dev :=
  if d.stepOn n && !d.on .ST_STAT_MOVING n && decide (d.get .x_ST_RESTT n + 1000000 * d.get .ST_CFG_THOLD n ≤ d.now) then
    (d.put .ST_LOAD_ICUR n (d.get .ST_CUR_IHOLD n)).put .ST_STAT_HOLD n 1
  else d

/-- EN of a channel takes effect or is cleared (R195): the pins are low while it is 0. -/
def Dev.stepEnable (d : Dev) (n : Nat) : Dev :=
  let d := ((d.phaseOff (2 * n)).phaseOff (2 * n + 1)).put .x_ST_RESTT n d.now
  if d.on .ST_CFG_EN n then (d.put .x_ST_PT n (d.get .ST_POS n)).put .x_ST_WIN n d.now else (d.put .ST_STAT_MOVING n 0).put .x_ST_W n 0

/-- The safety region asserts or releases STOP 0 of channel n (R195, R352). -/
def Dev.stepStop0 (d : Dev) (n : Nat) (x : Bool) : Dev :=
  if x then ((d.phaseOff (2 * n)).phaseOff (2 * n + 1)).put .ST_STAT_STOP0 n 1 else d.put .ST_STAT_STOP0 n 0

/-! The commands. -/

/-- STEPPER_REPLAN (R196). -/
def execStepperReplan (n : Fin 16) (s : State) := act s (fun d => d.stepReplan n)
/-- MICROSTEP (R196). -/
def execMicrostep (n : Fin 16) (s : State) := act s (fun d => d.microstep n)
/-- CHOP_COMPARATOR_TRIP (R197). -/
def execChopComparatorTrip (n : Fin 16) (ph : Fin 2) (s : State) := act s (fun d => d.chopTrip n ph)
/-- CHOP_DECAY_END (R197). -/
def execChopDecayEnd (n : Fin 16) (ph : Fin 2) (s : State) := act s (fun d => d.chopOn n ph)
/-- HYSTERESIS_WINDOW_END (R198). -/
def execHysteresisWindowEnd (n : Fin 16) (s : State) := act s (fun d => d.windowEnd n)
/-- HOLD_CURRENT (R199). -/
def execHoldCurrent (n : Fin 16) (s : State) := act s (fun d => d.holdCurrent n)

end Sys2Proof.Machine
end

