-- ==== Sys2Proof/Machine/SafeUnit.lean ====
section
/-!
DEFINITION. The safety region (R343 to R358): the parameter set and its check, functions, test pulses, read-back, and the stop
command lines.
-/

namespace Sys2Proof.Machine

/-- The number whose bit i, below n, says whether a condition holds of i. -/
def maskOf (n : Nat) (p : Nat → Bool) : Nat := sumBelow n (fun i => if p i then 2 ^ i else 0)

/-! The parameter set (R345, R346). -/

/-- Byte i of a parameter set. -/
def psByte (l : List Nat) (i : Nat) : Nat := l.getD i 0 % 256
/-- A little-endian 16-bit field. -/
def psHalf (l : List Nat) (i : Nat) : Nat := psByte l i + 256 * psByte l (i + 1)
/-- TPSRC of an input; 0 none. -/
def psSrc (l : List Nat) (n : Nat) : Nat := psByte l (16 + 2 * n) % 8
/-- Byte j of the record of function f. -/
def psFn (l : List Nat) (f j : Nat) : Nat := psByte l (96 + 20 * f + j)
/-- TYPE of function f. -/
def psType (l : List Nat) (f : Nat) : Nat := psFn l f 0
/-- Channel input j, 0 to 3, of function f. -/
def psChan (l : List Nat) (f j : Nat) : Nat := psFn l f (1 + j)
/-- MANUAL of function f. -/
def psManual (l : List Nat) (f : Nat) : Bool := (psFn l f 5).testBit 0
/-- STOPCAT of function f. -/
def psStopcat (l : List Nat) (f : Nat) : Bool := (psFn l f 5).testBit 1
/-- AXMASK of function f. -/
def psAxes (l : List Nat) (f : Nat) : Nat := psHalf l (96 + 20 * f + 12) + 65536 * psHalf l (96 + 20 * f + 14)
/-- STMASK of function f. -/
def psSteppers (l : List Nat) (f : Nat) : Nat := psHalf l (96 + 20 * f + 16)

/-- An input field: a number or none. -/
def psInOk (x : Nat) : Bool := decide (x ≤ 23) || decide (x = 0xFF)

/-- Every value is in its range and every reserved byte is 0 (R347, code 0x01). -/
def psRanges (l : List Nat) : Bool :=
  let rng := fun x lo hi : Nat => decide (lo ≤ x) && decide (x ≤ hi)
  decide (l.length = 416) && rng (psByte l 0) 1 10 && decide (psByte l 1 = 0) && rng (psHalf l 2) 10 1000 &&
  (List.range 12).all (fun i => decide (psByte l (4 + i) = 0)) &&
  (List.range 24).all (fun n => decide (psByte l (16 + 2 * n) ≤ 4) && rng (psByte l (17 + 2 * n)) 1 255) &&
  (List.range 8).all (fun m => rng (psByte l (64 + 4 * m)) 1 5 && rng (psByte l (65 + 4 * m)) 1 20 && rng (psHalf l (66 + 4 * m)) 100 10000) &&
  (List.range 16).all (fun f =>
    decide (psType l f ≤ 4) && (List.range 4).all (fun j => psInOk (psChan l f j)) && decide (psFn l f 5 < 4) && psInOk (psFn l f 6) &&
    rng (psHalf l (96 + 20 * f + 8)) 1 2000 && rng (psHalf l (96 + 20 * f + 10)) 1 10000 && decide (psHalf l (96 + 20 * f + 18) = 0))

/-- Inputs that function f names as channels. -/
def psNamed (l : List Nat) (f : Nat) : List Nat := ((List.range 4).map (psChan l f)).filter (fun x => decide (x ≠ 0xFF))

/-- No input is a channel of two functions, or a channel and an RSTIN (code 0x02). -/
def psDistinct (l : List Nat) : Bool :=
  (List.range 24).all (fun n =>
    let c := ((List.range 16).filter (fun f => (psNamed l f).contains n)).length
    decide (c ≤ 1) && (decide (c = 0) || (List.range 16).all (fun f => decide (psFn l f 6 ≠ n))))

/-- The pairs of channels that a type needs. -/
def psPairs (ty : Nat) : List (Nat × Nat) := if ty = 0 then [] else if ty = 3 then [(0, 1), (2, 3)] else [(0, 1)]

/-- Test-pulse sources of the channels of a function (code 0x03). -/
def psSources (l : List Nat) (f : Nat) : Bool :=
  (psPairs (psType l f)).all (fun p =>
    let a := psChan l f p.1
    let b := psChan l f p.2
    if psType l f = 4 then (decide (a = 0xFF) || decide (psSrc l a = 0)) && (decide (b = 0xFF) || decide (psSrc l b = 0))
    else decide (a = 0xFF) || decide (b = 0xFF) ||
      (decide (psSrc l a ≠ 0) && decide (psSrc l b ≠ 0) && decide (psSrc l a ≠ psSrc l b)))

/-- Every needed channel is named, and RSTIN with MANUAL (code 0x04). -/
def psNeeds (l : List Nat) (f : Nat) : Bool :=
  (psPairs (psType l f)).all (fun p => decide (psChan l f p.1 ≠ 0xFF) && decide (psChan l f p.2 ≠ 0xFF)) &&
  (!psManual l f || decide (psFn l f 6 ≠ 0xFF))

/-- The refusal code of a parameter set; 0 none (R347). -/
def psCheck (l : List Nat) (crcEqual : Bool) : Nat :=
  if !psRanges l then 1
  else if !psDistinct l then 2
  else if !(List.range 16).all (psSources l) then 3
  else if !(List.range 16).all (psNeeds l) then 4
  else if !crcEqual then 5
  else 0

/-! Functions (R348, R349). -/

/-- Accepted level of an input. -/
def Dev.sin (d : Dev) (n : Nat) : Bool := (d.get .SAFE_IN 0).testBit n

/-- Level of channel j of function f. -/
def Dev.chan (d : Dev) (f j : Nat) : Bool := d.sin (psChan d.psSet f j)

/-- Functions in use. -/
def Dev.fns (d : Dev) : List Nat := (List.range 16).filter (fun f => decide (psType d.psSet f ≠ 0))

/-- Codes of FNf_STAT.STATE. -/
def fnRun : Nat := 1
/-- STOPPING. -/
def fnStopping : Nat := 2
/-- TRIPPED. -/
def fnTripped : Nat := 3
/-- WAIT_RESET. -/
def fnWait : Nat := 4
/-- FAULT. -/
def fnFault : Nat := 5

/-- State of function f. -/
def Dev.fn (d : Dev) (f : Nat) : Nat := d.get .FN_STAT_STATE f

/-- Button b of a TWOHAND function: NO 1 and NC 0. -/
def Dev.actuated (d : Dev) (f b : Nat) : Bool := d.chan f (2 * b) && !d.chan f (2 * b + 1)

/-- Button b is released: NO 0 and NC 1. -/
def Dev.released (d : Dev) (f b : Nat) : Bool := !d.chan f (2 * b) && d.chan f (2 * b + 1)

/-- The channels that differ, as pair b of function f, where they should not (R348). -/
def Dev.discrepant (d : Dev) (f b : Nat) : Bool :=
  let x := d.chan f (2 * b)
  let y := d.chan f (2 * b + 1)
  match psType d.psSet f with
  | 2 => x == y
  | 3 => x == y
  | _ => x != y

/-- The demand of a function (R348). -/
def Dev.demand (d : Dev) (f : Nat) : Bool :=
  match psType d.psSet f with
  | 2 => !d.chan f 0 || d.chan f 1
  | 3 => !d.actuated f 0 || !d.actuated f 1
  | _ => !d.chan f 0 || !d.chan f 1

/-- The safe condition (R348). -/
def Dev.safeCond (d : Dev) (f : Nat) : Bool :=
  match psType d.psSet f with
  | 3 => d.actuated f 0 && d.actuated f 1 && d.on .x_F_REL f &&
      decide (d.get .x_F_ACT (2 * f) ≤ d.get .x_F_ACT (2 * f + 1) + 5000) && decide (d.get .x_F_ACT (2 * f + 1) ≤ d.get .x_F_ACT (2 * f) + 5000)
  | _ => !d.demand f

/-- Every channel is in its demand level (R349). -/
def Dev.allDemand (d : Dev) (f : Nat) : Bool :=
  match psType d.psSet f with
  | 2 => !d.chan f 0 && d.chan f 1
  | 3 => d.released f 0 && d.released f 1
  | _ => !d.chan f 0 && !d.chan f 1

/-- A test-pulse fault on a channel of the function. -/
def Dev.fnTpf (d : Dev) (f : Nat) : Bool :=
  (psPairs (psType d.psSet f)).any (fun p =>
    (d.get .SAFE_TPF 0).testBit (psChan d.psSet f p.1) || (d.get .SAFE_TPF 0).testBit (psChan d.psSet f p.2))

/-- A function enters FAULT (R349). -/
def Dev.enterFault (d : Dev) (f : Nat) (disc tpf outf : Bool) : Dev :=
  let d := ((d.flag .FN_STAT_DISCF f disc).flag .FN_STAT_TPF f tpf).flag .FN_STAT_OUTF f outf
  ((d.put .FN_STAT_STATE f fnFault).put .x_F_TOG f 0).bumpSat .FN_STAT_TRIPS f

/-- What a function remembers of its channels: discrepancies, the buttons, the demand levels in FAULT. -/
def Dev.fnTrack (d : Dev) (f cyc : Nat) : Dev :=
  let ps := psPairs (psType d.psSet f)
  let d := forN ps.length (fun d b => d.put .x_F_DISC (2 * f + b) (if d.discrepant f b then d.get .x_F_DISC (2 * f + b) + 1 else 0)) d
  let d :=
    if psType d.psSet f = 3 then
      let ended := (List.range 2).any (fun b => d.on .x_F_ACT (2 * f + b) && !d.actuated f b)
      let d := if d.released f 0 && d.released f 1 then d.put .x_F_REL f 1 else if ended then d.put .x_F_REL f 0 else d
      forN 2 (fun d b =>
        if !d.actuated f b then d.put .x_F_ACT (2 * f + b) 0
        else if d.on .x_F_ACT (2 * f + b) then d else d.put .x_F_ACT (2 * f + b) (cyc + 1)) d
    else d
  if d.fn f = fnFault ∧ d.allDemand f then d.put .x_F_TOG f 1 else d

/-- An axis reports rest: a report whose monitoring fails is taken as not at rest (R18). -/
def Dev.reportsRest (d : Dev) (a : Nat) : Bool := d.on .x_AX_REST a && !d.on .x_PM_REST a

/-- A function takes a demand. -/
def Dev.fnDemand (d : Dev) (f cyc : Nat) : Dev :=
  ((d.put .FN_STAT_STATE f (if psStopcat d.psSet f then fnStopping else fnTripped)).put .x_F_DEM f cyc).bumpSat .FN_STAT_TRIPS f

/-- The reset input of a function in WAIT_RESET (R349). -/
def Dev.fnReset (d : Dev) (f : Nat) : Dev :=
  let c := d.get .x_F_RST f
  if d.sin (psFn d.psSet f 6) then (if d.on .x_F_RLOW f then d.put .x_F_RST f (c + 1) else d)
  else if 1000 ≤ c ∧ c ≤ 50000 then d.put .FN_STAT_STATE f fnRun
  else (d.put .x_F_RLOW f 1).put .x_F_RST f 0

/-- One function in one cycle (R349); in a pre-reset every function acts as on a demand (R358). -/
def Dev.fnStep (d : Dev) (f cyc : Nat) : Dev :=
  let d := d.fnTrack f cyc
  let pre := d.on .x_S_PRE 0
  let lim := 10 * psHalf d.psSet (96 + 20 * f + 8)
  let disc := (List.range 2).any (fun b => decide (lim ≤ d.get .x_F_DISC (2 * f + b)))
  let tpf := d.fnTpf f
  let st := d.fn f
  if st = fnFault then (if d.on .x_F_TOG f && !tpf && !disc then d.put .FN_STAT_STATE f fnTripped else d)
  else if disc || tpf then d.enterFault f disc tpf false
  else if st = fnRun then (if d.demand f || pre then d.fnDemand f cyc else d)
  else if st = fnStopping then
    if (List.range 32).all (fun a => !(psAxes d.psSet f).testBit a || d.reportsRest a) then d.put .FN_STAT_STATE f fnTripped else d
  else if st = fnTripped then
    if d.safeCond f && !pre then
      if psManual d.psSet f && decide (psType d.psSet f ≠ 3) then
        ((d.put .FN_STAT_STATE f fnWait).put .x_F_RST f 0).put .x_F_RLOW f 0
      else d.put .FN_STAT_STATE f fnRun
    else d
  else if st = fnWait then
    if d.demand f || pre then (d.put .FN_STAT_STATE f fnTripped).bumpSat .FN_STAT_TRIPS f else d.fnReset f
  else d

/-! The stop command lines (R18, R352 to R355). -/

/-- What the field ends of the lines hold: the axes, gates and steppers follow; a line whose monitoring fails is STOP 0 there. -/
def Dev.fieldLines (d : Dev) : Dev :=
  if d.held 2 then d
  else
    let d := forN 32 (fun d a =>
      let s0 := (d.get .x_L_S0 0).testBit a || d.on .x_PM_AX a
      let s1 := (d.get .x_L_S1 0).testBit a && !s0
      let d := if d.on .x_AX_STOP0 a = s0 then d else d.axisStop0 a s0
      let d := if a < 8 ∧ d.on .PWM_STAT_STOP0 a ≠ s0 then d.pwmStop0 a s0 else d
      if d.on .x_AX_STOP1 a = s1 then d else d.axisStop1 a s1) d
    forN 16 (fun d n =>
      let s0 := (d.get .x_L_ST 0).testBit n || d.on .x_PM_ST n
      if d.on .ST_STAT_STOP0 n = s0 then d else d.stepStop0 n s0) d

/-- SRC of the safety region (R344, R355). -/
def srcSafe : Nat := 0x4800

/-- A command issued on the lines is recorded (R355). -/
def Dev.recordStop (d : Dev) (bits : Nat) : Dev := (d.report 2 srcSafe 0x60 bits).tapEvent 0x600 bits d.tick d.phase

/-- Drives the stop command lines. -/
def Dev.driveLines (d : Dev) (s0 s1 st : Nat) : Dev :=
  let fresh := fun new_ old : Nat => (List.range 32).any (fun i => new_.testBit i && !old.testBit i)
  let n0 := fresh s0 (d.get .x_L_S0 0) || fresh st (d.get .x_L_ST 0)
  let n1 := fresh s1 (d.get .x_L_S1 0)
  let d := ((d.put .SAFE_S0 0 s0).put .SAFE_S1 0 s1).put .SAFE_ST 0 st
  let d := ((d.put .x_L_S0 0 s0).put .x_L_S1 0 s1).put .x_L_ST 0 st
  let d := if n0 then d.recordStop 1 else d
  let d := if n1 then d.recordStop 2 else d
  d.fieldLines

/-- The function applies STOP 0 (R354). -/
def Dev.fnStops (d : Dev) (f : Nat) : Bool := decide (d.fn f = fnTripped) || decide (d.fn f = fnWait) || decide (d.fn f = fnFault)

/-- The lines that the functions ask for: STOP 0 and STOP 1 of the axes, STOP 0 of the steppers (R354). -/
def Dev.wantLines (d : Dev) : Nat × Nat × Nat :=
  let s0 := maskOf 32 (fun a => d.fns.any (fun f => d.fnStops f && (psAxes d.psSet f).testBit a))
  let s1 := maskOf 32 (fun a => d.fns.any (fun f => decide (d.fn f = fnStopping) && (psAxes d.psSet f).testBit a) && !s0.testBit a)
  (s0, s1, maskOf 16 (fun n => d.fns.any (fun f => d.fnStops f && (psSteppers d.psSet f).testBit n)))

/-- The outputs that the functions ask for (R349, R351). -/
def Dev.wantOut (d : Dev) : Nat :=
  maskOf 8 (fun m =>
    let named := d.fns.filter (fun f => (psFn d.psSet f 7).testBit m)
    !named.isEmpty && named.all (fun f => decide (d.fn f = fnRun) || decide (d.fn f = fnStopping)) && !(d.get .SAFE_OUT_OFLT 0).testBit m)

/-- Switches the outputs; every switching is remembered. -/
def Dev.driveOut (d : Dev) (on_ : Nat) : Dev :=
  let old := d.get .SAFE_OUT_ON 0
  let d := forN 8 (fun d m =>
    if on_.testBit m = old.testBit m then d
    else
      let d := d.put .x_S_SWT m (d.get .x_S_CYC 0)
      if on_.testBit m then d.put .x_S_OPT m (d.get .x_S_CYC 0) else d) d
  d.put .SAFE_OUT_ON 0 on_

/-- Outputs and lines follow the functions. -/
def Dev.driveSafe (d : Dev) : Dev :=
  let l := d.wantLines
  (d.driveOut d.wantOut).driveLines l.1 l.2.1 l.2.2

/-- An output fault (R351): the output is held off and its functions enter FAULT. -/
def Dev.outputFault (d : Dev) (m : Nat) : Dev :=
  let d := d.put .SAFE_OUT_OFLT 0 (d.get .SAFE_OUT_OFLT 0 ||| 2 ^ m)
  d.fns.foldl (fun d f => if (psFn d.psSet f 7).testBit m then d.enterFault f false false true else d) d

/-- LOCKOUT (R344): outputs off, STOP 0 on every line, the region fault recorded. -/
def Dev.lockout (d : Dev) (data : Nat) : Dev :=
  let d := ((d.put .SAFE_STAT_STATE 0 2).driveOut 0).report 3 srcSafe 0x04 data
  d.driveLines 0xFFFFFFFF 0 0xFFFF

/-! The cycle (R343). -/

/-- The region works: out of reset and powered. -/
def Dev.safeRuns (d : Dev) : Bool := !d.held 3 && !d.on .x_DEEP 0 && decide (d.get .SAFE_STAT_STATE 0 = 1)

/-- The input stages of one cycle: levels stable for IFILT are accepted, but in a test window of their source (R350). -/
def Dev.safeInputs (d : Dev) (cyc raw stable : Nat) : Dev :=
  forN 24 (fun d n =>
    let src := psSrc d.psSet n
    let lv := raw.testBit n
    let same := d.on .x_S_RAW n == lv
    let window := decide (src ≠ 0) && decide (cyc ≤ d.get .x_S_HOLD (src - 1))
    let cnt := if window || !stable.testBit n then 0 else if same then d.get .x_S_CNT n + 1 else 1
    let d := (d.flag .x_S_RAW n lv).put .x_S_CNT n cnt
    if cnt ≠ 0 ∧ psByte d.psSet (17 + 2 * n) ≤ cnt ∧ d.sin n ≠ lv then d.put .SAFE_IN 0 (Nat.xor (d.get .SAFE_IN 0) (2 ^ n)) else d) d

/-- Read-back (R351): outside FBT after a switching, SFBm equals the commanded state. -/
def Dev.safeFeedback (d : Dev) (cyc fb : Nat) : Dev :=
  let d := d.put .SAFE_OUT_FB 0 fb
  forN 8 (fun d m =>
    if fb.testBit m ≠ (d.get .SAFE_OUT_ON 0).testBit m ∧ !(d.get .SAFE_OUT_OFLT 0).testBit m ∧
       d.get .x_S_SWT m + 10 * psByte d.psSet (65 + 4 * m) ≤ cyc then d.outputFault m else d) d

/-- SAFETY_CYCLE: raw input levels, which of them were stable in the cycle, read-back, whether the cores agree, whether the safety
memory and the clock are good. Where the cores disagree the spec does not say what either commands: free values may switch outputs off
and stop lines on. -/
def Dev.safetyCycle (d : Dev) (raw stable fb : Nat) (agree memOk clkOk : Bool) : Dev :=
  if !d.safeRuns then d
  else if !memOk then ((d.put .SAFE_STAT_MEM 0 1).lockout 0).deviceFault srcSafe
  else if !clkOk then ((d.put .SAFE_STAT_CLK 0 1).lockout 0).deviceFault srcSafe
  else if !agree && decide (2 ≤ d.get .x_S_DIS 0) then ((d.put .SAFE_STAT_CORE 0 1).lockout 0).deviceFault srcSafe
  else
    let cyc := d.get .x_S_CYC 0 + 1
    let d := (d.put .x_S_CYC 0 cyc).put .x_S_DIS 0 (if agree then 0 else d.get .x_S_DIS 0 + 1)
    let d := (d.safeInputs cyc raw stable).safeFeedback cyc fb
    let d := d.fns.foldl (fun d f => d.fnStep f cyc) d
    if agree then d.driveSafe
    else
      let (v, d) := d.fresh
      let (w, d) := d.fresh
      let l := d.wantLines
      (d.driveOut (d.wantOut &&& v)).driveLines (l.1 ||| w % 2 ^ 32) (l.2.1 &&& (2 ^ 32 - 1 - w % 2 ^ 32)) (l.2.2 ||| w / 2 ^ 32 % 2 ^ 16)

/-- STOP1_TIMEOUT (R349, R353). -/
def Dev.stop1Timeout (d : Dev) (f : Nat) : Dev :=
  if d.safeRuns && decide (d.fn f = fnStopping) && decide (d.get .x_F_DEM f + 10 * psHalf d.psSet (96 + 20 * f + 10) ≤ d.get .x_S_CYC 0) then
    (d.put .FN_STAT_STATE f fnTripped).driveSafe
  else d

/-- TEST_PULSE: TPOk pulses and its inputs are checked; `zeros` gives the inputs that read 0 within the window (R350). -/
def Dev.testPulse (d : Dev) (k zeros : Nat) : Dev :=
  let cyc := d.get .x_S_CYC 0
  let per := 10 * psHalf d.psSet 2
  let off := k * per / 4
  if d.safeRuns && decide (off ≤ cyc) && decide (0 < per) && decide (d.get .x_S_TPN k ≤ (cyc - off) / per) then
    let d := (d.put .x_S_TPN k ((cyc - off) / per + 1)).put .x_S_HOLD k (cyc + psByte d.psSet 0 + 1)
    forN 24 (fun d n =>
      if psSrc d.psSet n = k + 1 ∧ d.sin n then
        let t := d.get .SAFE_TPF 0
        if zeros.testBit n then (if t.testBit n then d.put .SAFE_TPF 0 (t - 2 ^ n) else d) else d.put .SAFE_TPF 0 (t ||| 2 ^ n)
      else d) d
  else d

/-- OFF_PULSE: output m is off for OPW; `low` says that SFBm read 0 during it (R351). -/
def Dev.offPulse (d : Dev) (m : Nat) (low : Bool) : Dev :=
  let cyc := d.get .x_S_CYC 0
  if d.safeRuns && (d.get .SAFE_OUT_ON 0).testBit m && decide (d.get .x_S_OPT m + 10 * psHalf d.psSet (66 + 4 * m) ≤ cyc) then
    let d := (d.put .x_S_OPT m cyc).put .x_S_SWT m (cyc + psByte d.psSet (64 + 4 * m))
    if low then d else (d.outputFault m).driveSafe
  else d

/-- SAFETY_INIT_END: the cores have verified the image and check the parameter set; `crcEqual` says that they computed equal CRC-32 values.
A good set takes effect and every function starts in TRIPPED with its stops applied (R347, R349, R358). -/
def Dev.safetyInitEnd (d : Dev) (crcEqual : Bool) : Dev :=
  if d.held 3 || d.on .x_DEEP 0 || decide (d.get .SAFE_STAT_STATE 0 ≠ 0) || d.psSet.isEmpty then d
  else
    let code := psCheck d.psSet crcEqual
    let d := d.put .SAFE_STAT_PSERR 0 code
    if code ≠ 0 then d
    else
      let d := ((d.put .SAFE_STAT_STATE 0 1).put .SAFE_PSID 0 (crc32 d.psSet)).put .x_S_CYC 0 0
      let d := d.fns.foldl (fun d f => d.put .FN_STAT_STATE f fnTripped) d
      d.driveSafe

/-! The commands. -/

/-- SAFETY_CYCLE (R343). -/
def execSafetyCycle (raw stable : BitVec 24) (fb : BitVec 8) (agree memOk clkOk : Bool) (s : State) :=
  act s (fun d => d.safetyCycle raw.toNat stable.toNat fb.toNat agree memOk clkOk)
/-- STOP1_TIMEOUT (R349). -/
def execStop1Timeout (f : Fin 16) (s : State) := act s (fun d => d.stop1Timeout f)
/-- TEST_PULSE (R350). -/
def execTestPulse (k : Fin 4) (zeros : BitVec 24) (s : State) := act s (fun d => d.testPulse k zeros.toNat)
/-- OFF_PULSE (R351). -/
def execOffPulse (m : Fin 8) (low : Bool) (s : State) := act s (fun d => d.offPulse m low)
/-- SAFETY_INIT_END (R358). -/
def execSafetyInitEnd (crcEqual : Bool) (s : State) := act s (fun d => d.safetyInitEnd crcEqual)

end Sys2Proof.Machine
end

