-- ==== Sys2Proof/Machine/Faults.lean ====
section
/-!
DEFINITION. Faults, retirement and spares (R11 to R14, R18, R313 to R318).
-/

namespace Sys2Proof.Machine

/-- Copies bytes of memory in ascending order. -/
def Dev.copyMem (d : Dev) (src dst n : Nat) : Dev := forN n (fun d i => d.setByte (dst + i) (d.byte (src + i))) d

/-- Copies the 32 KiB image at Cc_IMG of a cell into a cell's instruction memory (R314, R318). -/
def Dev.copyImage (d : Dev) (c to_ : Nat) : Dev := d.copyMem (32768 * d.get .C_IMG c) (cellBase to_ + 0x10000) 0x8000

/-- Whether an abort of firings in the banks of a faulted cell leaves the cell empty: both banks are cleared, and their firings count
as not finished (R57, R314). -/
def Dev.dropBanks (d : Dev) (c : Nat) : Dev :=
  (forN 2 (fun d j =>
    if d.loaded c j then
      let b := d.bank c j
      ((d.setFate b.slot b.tick .aborted).setBank c j Bank.empty).setLoaded c j false
    else d) d).put .x_RUNB c 0

/-- Enabled slots that cell c serves. -/
def Dev.servedBy (d : Dev) (c : Nat) : List Nat :=
  ((List.range 64).map (fun l => 64 * (c / 6) + l)).filter (fun g => d.slotEn g && decide (d.servingCell g = c))

/-- Disables a slot whose cell is lost: REFUSE 0x02, and its stages write SAFE at the next output instant (R316). -/
def Dev.loseSlot (d : Dev) (g : Nat) : Dev :=
  (((d.disable g).put .SLOT_CTL_REFUSE g 2).put .SLOT_CTL_REF_SLOT g (g % 64)).put .x_SLOT_SAFE g (d.now + 1)

/-- Spare substitution (R314): C5 takes the mode, the image and the slots of the faulted cell. -/
def Dev.substitute (d : Dev) (c : Nat) : Dev :=
  let b := c / 6
  let d := (d.put .SPARE_MIRROK b 0).put .C_STAT_MODE (6 * b + 5) (d.get .C_STAT_MODE c)
  let d := d.copyImage c (6 * b + 5)
  ((d.put .SPARE_SUBST b 1).put .SPARE_FROM b (c % 6)).put .x_SUB_WIN b 1

/-- A cell fault of a Sihus cell (R57, R313 to R316). -/
def Dev.loopCellFault (d : Dev) (c : Nat) (ded ipar : Bool) : Dev :=
  if d.held 0 || d.on .C_STAT_FAULTED c then d
  else
    let b := c / 6
    let d := d.report 2 (srcOf 1 0 c) 0x02 ((if ded then 1 else 0) + if ipar then 2 else 0)
    let lost := d.servedBy c
    let d := (((d.put .C_STAT_FAULTED c 1).flag .C_STAT_DED c ded).flag .C_STAT_IPAR c ipar).put .x_RETC c 1
    let d := d.dropBanks c
    if c % 6 < 5 ∧ d.on .SPARE_MIRROK b then d.substitute c
    else
      let d := lost.foldl Dev.loseSlot (d.put .SPARE_MIRROK b 0)
      if c % 6 = 5 then d.restoreDone b else d

/-- Retires an encoder cell: it acts as in OFF (R313). -/
def Dev.retireEnc (d : Dev) (e : Nat) : Dev := if d.on .x_RET_E e then d else (d.put .x_RET_E e 1).encRestart e

/-- Retires an axis cell. -/
def Dev.retireAxis (d : Dev) (a : Nat) : Dev :=
  if d.on .x_RET_AX a then d else (d.put .x_RET_AX a 1).modeEffect a (d.axisAt a d.now)

/-- Retires an analogue input. -/
def Dev.retireAin (d : Dev) (n : Nat) : Dev := d.put .x_RET_AIN n 1

/-- Retires a loop output. -/
def Dev.retireAo (d : Dev) (n : Nat) : Dev := d.put .x_RET_AO n 1

/-- A cell fault of a field cell; `unit` is its number in SRC (R305). -/
def Dev.fieldCellFault (d : Dev) (ret : F) (n unit : Nat) (retire : Dev → Nat → Dev) : Dev :=
  if d.held 2 || d.on ret n then d else retire (d.report 2 (srcOf 3 0 unit) 0x02 0) n

/-- CELL_FAULT. -/
def Dev.cellFault (d : Dev) (i : CellId) (ded ipar : Bool) : Dev :=
  match i with
  | .loop c => d.loopCellFault c ded ipar
  | .encoder e => d.fieldCellFault .x_RET_E e e Dev.retireEnc
  | .axis a => d.fieldCellFault .x_RET_AX a (0x100 + a) Dev.retireAxis
  | .ain n => d.fieldCellFault .x_RET_AIN n (0x200 + n) Dev.retireAin
  | .fain n => d.fieldCellFault .x_RET_AIN (64 + n) (0x240 + n) Dev.retireAin
  | .aout n => d.fieldCellFault .x_RET_AO n (0x300 + n) Dev.retireAo

/-- A block fault of a loop block (R313). -/
def Dev.loopBlockFault (d : Dev) (b data : Nat) : Dev :=
  if d.held 0 || d.on .x_RETB b then d
  else
    let d := (d.report 2 (srcOf 1 1 b) 0x03 data).put .x_RETB b 1
    let d := ((d.instOn .OS_CFG_EN).filter (fun st => decide (d.get .OS_CFG_OWNER st / 64 = b))).foldl Dev.stageSafe d
    let d := (d.disableBlock b 0x02).put .SPARE_MIRROK b 0
    forN 6 (fun d i => ((d.put .C_STAT_FAULTED (6 * b + i) 1).put .x_RETC (6 * b + i) 1).dropBanks (6 * b + i)) d

/-- A block fault of a field block; `unit` is its number in SRC. -/
def Dev.fieldBlockFault (d : Dev) (unit data : Nat) (retire : Dev → Dev) : Dev :=
  if d.held 2 then d else retire (d.report 2 (srcOf 3 1 unit) 0x03 data)

/-- Retires the cells of analogue block b. -/
def Dev.retireAnalogue (b : Nat) (d : Dev) : Dev :=
  forN 8 (fun d i => d.retireAo (8 * b + i)) (forN 16 (fun d i => d.retireAin (16 * b + i)) d)

/-- A block fault (R313); DATA of its record is `data`. -/
def Dev.blockFault (d : Dev) (i : BlockId) (data : Nat) : Dev :=
  match i with
  | .loop b => d.loopBlockFault b data
  | .encoder b => d.fieldBlockFault b data (forN 8 (fun d j => d.retireEnc (8 * b + j)))
  | .motion b => d.fieldBlockFault (64 + b) data (forN 8 (fun d j => d.retireAxis (8 * b + j)))
  | .analogue b => d.fieldBlockFault (128 + b) data (Dev.retireAnalogue b)
  | .stepper => d.fieldBlockFault 192 data (fun d => forN 32 Dev.phaseOff (d.put .x_RET_STP 0 1))
  | .pwm => d.fieldBlockFault 256 data (fun d => forN 8 Dev.gatesOff (d.put .x_RET_PWM 0 1))
  | .link k => d.fieldBlockFault (320 + k) data (fun d => d.put .x_RET_LNK k 1)

/-- SRC of a region fault; regions 0 loop, 1 program, 2 field, 3 safety. -/
def srcRegion (r : Nat) : Nat := if r = 1 then srcOf 2 2 0x3FF else srcOf (r + 1) 2 0

/-- A region fault becomes a device fault; the safety region also enters LOCKOUT (R313, R344). -/
def Dev.regionFault (d : Dev) (r data : Nat) : Dev :=
  if d.held r || d.on .x_DEEP 0 then d
  else if r = 3 then (if d.get .SAFE_STAT_STATE 0 = 2 then d else (d.lockout data).deviceFault srcSafe)
  else (d.report 3 (srcRegion r) 0x04 data).deviceFault (srcRegion r)

/-- The monitored paths of the safety region (R18): the stop command line of an axis or of a stepper, the rest report of an axis, the
image load path. -/
def Dev.pathFailure (d : Dev) (p : SafePath) : Dev :=
  match p with
  | .axisLine a => (d.put .x_PM_AX a 1).fieldLines
  | .stepperLine n => (d.put .x_PM_ST n 1).fieldLines
  | .restReport a => d.put .x_PM_REST a 1
  | .load => d.put .x_PM_LOAD 0 1

/-! Mirror and spares. -/

/-- MIRROR_REBUILD (R315): the areas of the enabled slots of C0 to C4 are copied from the cells' memories. The mirror of a block whose C5
is retired or serves a cell is not complete. -/
def Dev.mirrorRebuild (d : Dev) (b : Nat) : Dev :=
  if d.held 0 || !d.clocked || d.on .SPARE_SUBST b || d.on .C_STAT_FAULTED (6 * b + 5) || d.on .SPARE_MIRROK b then d
  else
    let d := forN 64 (fun d l =>
      let g := 64 * b + l
      let c := d.get .SLOT_CTL_CELL g
      if d.slotEn g ∧ c < 5 then
        d.copyMem (cellBase (6 * b + c) + 4 * d.get .SLOT_STATE_SBASE g) (cellBase (6 * b + 5) + 4 * d.mirrorBase g) (4 * d.get .SLOT_STATE_SLEN g)
      else d) d
    d.put .SPARE_MIRROK b 1

/-- A service session is open and the port is not closed (R388). -/
def Dev.session (d : Dev) : Bool := d.on .SVC_STAT_OPEN 0 && !d.on .SVC_STAT_LOCKED 0

/-- A service transfer: the 600 s of R388 begin anew. -/
def Dev.touch (d : Dev) : Dev := d.put .x_SVC_T 0 (d.get .x_CYC 0)

/-- Whether what CELL of SPARE names is retired. -/
def Dev.spareRetired (d : Dev) (b cell : Nat) : Bool :=
  if cell < 6 then d.on .C_STAT_FAULTED (6 * b + cell) else decide (cell = 6) && d.on .x_RETB b

/-- SPARE_READMIT (R318). -/
def Dev.spareReadmit (d : Dev) (b cell : Nat) : Dev :=
  if d.held 0 || !d.session || d.on .SPARE_READMIT b then d
  else
    let d := d.touch.put .SPARE_CELL b cell
    if d.spareRetired b cell then d.put .SPARE_READMIT b 1 else d.put .SPARE_RESULT b 4

/-- SPARE_SELF_TEST_END: the result of R319, 1 pass, 2 data memory failed, 3 instruction memory or data path failed. -/
def Dev.spareSelfTest (d : Dev) (b result : Nat) : Dev :=
  if d.held 0 || !d.on .SPARE_READMIT b then d
  else
    let cell := d.get .SPARE_CELL b
    let c := 6 * b + cell
    let d := (d.put .SPARE_READMIT b 0).put .SPARE_RESULT b result
    if result ≠ 1 then d
    else if cell = 6 then d.put .x_RETB b 0
    else ((((d.put .C_STAT_FAULTED c 0).put .C_STAT_DED c 0).put .C_STAT_IPAR c 0).put .x_RETC c 0).mirrorStale b

/-- RESTORE (R318): the image and the mirror areas are copied; from then on writes of C5 go through to the cell. -/
def Dev.restore (d : Dev) (b cell : Nat) : Dev :=
  if d.held 0 || !d.session || d.on .SPARE_RESTORE b then d
  else
    let d := d.touch.put .SPARE_CELL b cell
    let c := 6 * b + cell
    if d.on .SPARE_SUBST b ∧ cell = d.get .SPARE_FROM b ∧ !d.on .C_STAT_FAULTED c then
      let d := d.copyImage c c
      let d := forN 64 (fun d l =>
        let g := 64 * b + l
        if d.slotEn g ∧ d.get .SLOT_CTL_CELL g = cell then
          d.copyMem (cellBase (6 * b + 5) + 4 * d.mirrorBase g) (cellBase c + 4 * d.get .SLOT_STATE_SBASE g) (4 * d.get .SLOT_STATE_SLEN g)
        else d) d
      ((d.put .SPARE_RESTORE b 1).put .x_RST_COPY b 1).put .x_RST_TICK b d.tick
    else d.put .SPARE_RESULT b 4

/-- RESTORE_SWITCH: the first tick after the copy (R318). -/
def Dev.restoreSwitch (d : Dev) (b : Nat) : Dev :=
  if !d.held 0 && d.clocked && d.on .x_RST_COPY b && !d.on .x_RST_SW b && decide (d.get .x_RST_TICK b < d.tick) then
    (d.put .x_RST_SW b 1).restoreDone b
  else d

/-! The commands. -/

/-- CELL_FAULT (R313). -/
def execCellFault (i : CellId) (ded ipar : Bool) (s : State) := act s (fun d => d.cellFault i ded ipar)
/-- BLOCK_FAULT (R313); `ms` says that a matching-store error is its cause. -/
def execBlockFault (i : BlockId) (ms : Bool) (s : State) := act s (fun d => d.blockFault i (if ms then 1 else 0))
/-- REGION_FAULT (R313): an interconnect error. -/
def execRegionFault (r : Fin 4) (s : State) := act s (fun d => d.regionFault r 1)
/-- SEQUENCER_WATCHDOG_EXPIRY (R13). -/
def execSequencerWatchdogExpiry (i : BlockId) (s : State) := act s (fun d => d.blockFault i 2)
/-- REGION_WATCHDOG_EXPIRY (R13). -/
def execRegionWatchdogExpiry (r : Fin 4) (s : State) := act s (fun d => d.regionFault r 2)
/-- PATH_MONITOR_FAILURE (R18). -/
def execPathMonitorFailure (p : SafePath) (s : State) := act s (fun d => d.pathFailure p)
/-- MIRROR_REBUILD (R315). -/
def execMirrorRebuild (b : Fin 4) (s : State) := act s (fun d => d.mirrorRebuild b)
/-- SPARE_READMIT (R318). -/
def execSpareReadmit (b : Fin 4) (cell : Fin 8) (s : State) := act s (fun d => d.spareReadmit b cell)
/-- SPARE_SELF_TEST_END (R318). -/
def execSpareSelfTestEnd (b : Fin 4) (result : Fin 3) (s : State) := act s (fun d => d.spareSelfTest b (result.val + 1))
/-- RESTORE (R318). -/
def execRestore (b : Fin 4) (cell : Fin 8) (s : State) := act s (fun d => d.restore b cell)
/-- RESTORE_SWITCH (R318). -/
def execRestoreSwitch (b : Fin 4) (s : State) := act s (fun d => d.restoreSwitch b)

end Sys2Proof.Machine
end

