-- ==== Sys2Proof/Machine/Units.lean ====
section
/-!
DEFINITION. What the units of the field region do when they begin to work with the configuration they hold: after a reset of the field or
the program region, and after a takeover (R128, R161, R192, R207, R337).
-/

namespace Sys2Proof.Machine

/-- A unit attaches its queue where its enable is set. -/
def Dev.attachIf (d : Dev) (en : Bool) (q dir : Nat) : Dev := if en then d.qattach q dir else d

/-- Every unit whose enable is set attaches its queues (R128). -/
def Dev.attachUnits (d : Dev) : Dev :=
  if d.held 1 || d.held 2 then d
  else
    let d := forN 8 (fun d g => d.attachIf (d.on .G_CFG_EN g) (d.get .G_CFG_QUEUE g) 1) d
    let d := forN 4 (fun d b => (d.attachIf (d.on .FM_CFG_EN b) (d.get .FM_CFG_TXQ b) 1).attachIf (d.on .FM_CFG_EN b) (d.get .FM_CFG_RXQ b) 2) d
    let d := forN 20 (fun d k => d.attachIf (d.olUsesQ k) (d.get .OL_SEL_RXQ k) 2) d
    let d := forN 4 (fun d p =>
      let d := d.attachIf (d.on .ETH_CFG_EN p) (d.get .ETH_CFG_RXQ p) 2
      forN 8 (fun d t =>
        match d.tqMap p t with
        | some q => d.attachIf (d.on .ETH_CFG_EN p) q 1
        | none => d) d) d
    let d := forN 4 (fun d c => d.attachIf (d.on .CAN_CFG_EN c) (d.get .CAN_CFG_RXQ c) 2) d
    forN 32 (fun d h => d.attachIf (d.on .HQ_CFG_EN h) (d.get .HQ_CFG_QUEUE h) (if d.on .HQ_CFG_DIR h then 2 else 1)) d

/-- Every queue is detached (R128). -/
def Dev.detachAll (d : Dev) : Dev := forN 64 (fun d q => if d.on .Q_CFG_ATT q then d.qdetach q else d) d

/-- The units of the field region begin to work: converters from entry 0, encoder cells from the present levels, gates from the next
valley, stepper channels at rest, and the lines of the safety region act. -/
def Dev.fieldStart (d : Dev) : Dev :=
  let d := forN 16 (fun d k => d.seqStart k 0 d.now) d
  let d := forN 32 (fun d e => if d.emode e = emOff then d else d.encRestart e) d
  let d := forN 8 (fun d k => if d.on .E_PCFG_PEN (24 + k) then d.pulseStart (24 + k) else d) d
  let d := forN 16 (fun d n => if d.on .ST_CFG_EN n then d.stepEnable n else d) d
  let d := forN 8 (fun d a => d.holdEnds a) d
  let d := forN 32 (fun d n => if d.on .AOUT_CFG_EN n then d.put .x_AO_CMT n (d.now + 1) else d) d
  let d := forN 4 (fun d c => if d.on .CAN_CFG_EN c then d.canRestart c else d) d
  d.attachUnits.fieldLines

/-- Whether a field's instance differs between two devices. -/
def Dev.differs (d old : Dev) (f : F) (i : Nat) : Bool := decide (d.get f i ≠ old.get f i)

/-- Encoder cells and converters whose configuration differs from that of an earlier device begin anew (R161, R164, R207). -/
def Dev.followInputs (d old : Dev) : Dev :=
  let d := forN 32 (fun d e =>
    if d.differs old .E_CFG_MODE e || d.differs old .E_CFG_FILT e || d.differs old .E_CFG_INV e then d.encRestart e else d) d
  forN 16 (fun d k =>
    if d.differs old .SD_CFG_EN k || d.differs old .SD_CFG_LP k || d.differs old .SD_CFG_NENT k ||
       (List.range 16).any (fun j =>
         let i := 16 * k + j
         d.differs old .SD_SEQ_OSR i || d.differs old .SD_SEQ_REP i || d.differs old .SD_SEQ_FILT i || d.differs old .SD_SEQ_GAIN i ||
         d.differs old .SD_SEQ_CH i) ||
       (List.range 4).any (fun c => d.differs old .AIN_CFG_OWEN (4 * k + c) || d.differs old .AIN_CFG_OWI (4 * k + c))
    then d.seqRestart k else d) d

end Sys2Proof.Machine
end

