-- ==== Sys2Proof/Machine/Reset.lean ====
section
/-!
DEFINITION. Resets, image checks and boot (R8 to R10, R19, R333, R337 to R340, R358, R366, R382 to R384, R394, R397, R401).
-/

namespace Sys2Proof.Machine

/-! What resets clear. -/

/-- Number of the region of a field, as x_HELD numbers regions: 0 loop, 1 program, 2 field, 3 safety, 4 chip-level units. -/
def rgnIdx : Rgn → Nat
  | .LOOP => 0
  | .PROG => 1
  | .FIELD => 2
  | .SAFE => 3
  | .CHIP => 4

/-- Region of a field's instance: each region has its commit register (R34). -/
def rgnOf (k : F × Nat) : Nat :=
  match k.1 with
  | .CFG_COMMIT_GO => k.2
  | .CFG_COMMIT_PENDING => k.2
  | f => rgnIdx f.desc.rgn

/-- Fields that meet a condition return to their Reset values, and so do the copies of capturing reads (R10, R394). -/
def Dev.dropFields (d : Dev) (p : F × Nat → Bool) : Dev :=
  { d with regs := d.regs.filter (fun e => !p e.1), caps := d.caps.filter (fun e => !p e.1) }

/-- Shadows and snapshots of a region are discarded (R8). -/
def Dev.dropShadows (d : Dev) (r : Nat) : Dev :=
  { d with shadow := d.shadow.filter (fun e => !decide (rgnOf e.1 = r)), snap := d.snap.filter (fun e => !decide (rgnOf e.1 = r)) }

/-- Memory whose address meets a condition returns to its reset contents. -/
def Dev.dropMem (d : Dev) (p : Nat → Bool) : Dev := { d with mem := d.mem.filter (fun c => !p c.1) }

/-- The queue store (R127). -/
def inQueueStore (a : Nat) : Bool := decide (0x1100000 ≤ a) && decide (a < 0x1140000)

/-- The input images of the stations, class C (R252). -/
def inInImage (a : Nat) : Bool :=
  decide (0x21300000 ≤ a) && decide (a < 0x21328000) && decide (0x1000 ≤ a % 0x2000) && decide (a % 0x2000 < 0x1800) && decide (a % 256 < 240)

/-- The output images of the stations, class S (R252). -/
def inOutImage (a : Nat) : Bool :=
  decide (0x21300000 ≤ a) && decide (a < 0x21328000) && decide (0x800 ≤ a % 0x2000) && decide (a % 0x2000 < 0x1000) && decide (a % 256 < 240)

/-- The MRAM (R31). -/
def inMram (a : Nat) : Bool := decide (0x50000000 ≤ a) && decide (a < 0x50100000)

/-- Everything that no register and no memory holds is lost: tokens, firings, waits, queue items, frames (R339, R397). -/
def Dev.dropLists (d : Dev) : Dev :=
  { Dev.reset with
    regs := d.regs, shadow := d.shadow, snap := d.snap, caps := d.caps, mem := d.mem, flash := d.flash, free := d.free
    hostOut := d.hostOut, pairOut := d.pairOut }

/-- DATA of log code 0x40, and CAUSE of RST_CAUSE, at the end of a reset (R306, R337). -/
def Dev.resetDone (d : Dev) (cause : Nat) : Dev := (d.put .RST_CAUSE 0 cause).report 0 (srcOf 0 3 0) 0x40 cause

/-- The role after a reset of the whole device: FAILED stays, any other becomes ALONE (R322, R339). -/
def Dev.roleAfterReset (d : Dev) : Dev :=
  if d.role = roleFailed ∨ d.role = roleAlone then d else d.setRole roleAlone 0x07

/-- What POR, BOR, PIN and DEEP do (R339): all but class N and the MRAM is lost, and every region is held. -/
def Dev.wipe (d : Dev) : Dev :=
  let d := { d with shadow := [], snap := [] }
  let d := (d.dropFields (fun k => decide (k.1.desc.cls ≠ .N) || decide (k.1 = .x_TBV) || decide (k.1 = .x_HELD) || decide (k.1 = .x_CP_LIVE))).dropMem (fun a => !inMram a)
  d.dropLists

/-- The recorded cells and blocks are retired again before the loop region leaves reset (R339). -/
def Dev.retireAgain (d : Dev) : Dev := forN 24 (fun d c => if d.on .x_RETC c then d.put .C_STAT_FAULTED c 1 else d) d

/-- POR, BOR and PIN. Only RST_N ends DEEP (R338). -/
def Dev.fullReset (d : Dev) (cause : Nat) : Dev := d.wipe.retireAgain.roleAfterReset.resetDone cause

/-- A PIN reset also ends DEEP and samples PCIE_CLKSEL (R275, R338). -/
def Dev.pinReset (d : Dev) (clksel : Bool) : Dev := ((d.put .x_DEEP 0 0).fullReset 2).flag .PCIE_STAT_CLKSEL 0 clksel

/-- A write that reaches the clock and reset manager: the chip-level units are out of reset and powered. -/
def Dev.chipOn (d : Dev) : Bool := !d.held 4 && !d.on .x_DEEP 0

/-- WARM (R337, R339): class C fields, buffers and everything in motion are lost; the plans and path states are class S (R182). -/
def Dev.warmReset (d : Dev) : Dev :=
  let plans := d.plans
  let paths := d.paths
  let d := { d with shadow := [], snap := [] }
  let d := (d.dropFields (fun k => decide (k.1.desc.cls = .C) || decide (k.1 = .x_HELD) || decide (k.1 = .x_CP_LIVE))).dropMem
    (fun a => inQueueStore a || inInImage a)
  Dev.resetDone (Dev.roleAfterReset { d.dropLists with plans := plans, paths := paths }) 3

/-! REGION resets. -/

/-- A REGION reset of a region clears its fields of every class but N; the time bases keep RATE (R284, R339). -/
def Dev.dropRegion (d : Dev) (r : Nat) : Dev :=
  ((d.dropFields (fun k => decide (rgnOf k = r) && decide (k.1.desc.cls ≠ .N) && !decide (k.1 = .TB_RATE))).dropShadows r)

/-- The reset of a region begins: it is held for 20 µs. -/
def Dev.holdRegion (d : Dev) (r : Nat) : Dev := ((d.put .x_HELD r 1).put .x_RSTA r 1).put .x_RSTC r (d.get .x_CYC 0)

/-- Tokens on the network that are addressed into a held region are absorbed at its boundary (R19). -/
def Dev.absorbNet (d : Dev) (into : Nat → Bool) : Dev :=
  let gone := d.net.filter (fun f => into (f.tok.dest.toNat / 4096))
  Dev.bump { d with net := d.net.filter (fun f => !into (f.tok.dest.toNat / 4096)) } .TOKEN_STAT_ABSORBED 0 gone.length

/-- Region of a producer. -/
def Prod.rgn : Prod → Nat
  | .cell _ => 0
  | .port _ => 1
  | _ => 2

/-- The buffers of a region's producers are lost (R339). -/
def Dev.dropBuffers (d : Dev) (r : Nat) : Dev :=
  { d with stalled := d.stalled.filter (fun f => !decide (f.prod.rgn = r)), backlog := d.backlog.filter (fun f => !decide (f.prod.rgn = r)) }

/-- Stalled tokens of other regions' producers are absorbed with the region they are addressed into, and their producers resume. -/
def Dev.absorbStalled (d : Dev) : Dev :=
  let fs := d.stalled
  let d := Dev.bump { d with stalled := [] } .TOKEN_STAT_ABSORBED 0 fs.length
  fs.foldl (fun d f => d.resume f.prod) d

/-- A REGION reset of the loop region: stages drive 0, tokens into the region are absorbed (R19, R34, R337). -/
def Dev.resetLoop (d : Dev) : Dev :=
  let d := ((d.instOn .OS_CFG_EN).filter (fun st => decide (0x400 ≤ st))).foldl (fun d st =>
    (((d.put .OS_SAFE st 0).put .OS_STAT_SAFE_ACT st 1)).stageToImage st) d
  let d := (d.holdRegion 0).dropRegion 0
  let d := { d with banks := [], entries := [], readyq := [], fates := [], stageVals := [], admq := [] }
  ((d.dropBuffers 0).absorbNet (fun c => decide (c < 2))).absorbStalled

/-- A REGION reset of the program region: tasks, queue items and token-port buffers are lost; the loop region takes no program-region
stop from it. -/
def Dev.resetProg (d : Dev) : Dev :=
  let d := ((d.holdRegion 1).dropRegion 1).dropMem inQueueStore
  let d := { d with tasks := [], readyt := [], waitq := [], queues := [], latches := [], published := [], changes := [] }
  ((d.dropBuffers 1).absorbNet (fun c => decide (c = 2))).put .x_LSPSIG 0 0

/-- A REGION reset of the field region: the buffers of its units are lost and every queue is detached; the aggregator holds events from
now on (R321). -/
def Dev.resetField (d : Dev) : Dev :=
  let d := ((d.detachAll.holdRegion 2).dropRegion 2).dropMem (fun a => inInImage a || inOutImage a)
  let d := { d with
    copies := [], capFifo := [], plans := [], paths := [], sarq := [], fsk := [], olPend := [], olSnap := [], olRx := [], olFrame := []
    ethTx := [], ethTsq := [], dcReady := [], sedHold := [], sedOwn := [] }
  d.dropBuffers 2

/-- The reset of the safety region begins; the lines keep their state (R358). -/
def Dev.resetSafe (d : Dev) : Dev := { (d.holdRegion 3).dropRegion 3 with psSet := [] }

/-- One region bit of RST_CTL. A reset of the safety region in RUN begins after its functions have stopped (R358). -/
def Dev.regionReset1 (d : Dev) (r : Nat) : Dev :=
  if d.on .x_RSTA r then d
  else if r = 0 then d.resetLoop
  else if r = 1 then d.resetProg
  else if r = 2 then d.resetField
  else if d.safeRuns then d.put .x_S_PRE 0 1
  else d.resetSafe

/-- REGION_RESET: a keyed write of the REGION bits. -/
def Dev.regionReset (d : Dev) (key regions : Nat) : Dev :=
  if d.chipOn && decide (key = 0x5A) then
    forN 4 (fun d r => if regions.testBit r then d.regionReset1 r else d) (d.put .RST_CTL_REGION 0 (d.get .RST_CTL_REGION 0 ||| regions))
  else d

/-- SAFETY_PRE_RESET_COMPLETE: every function is TRIPPED or FAULT (R358). -/
def Dev.preResetComplete (d : Dev) : Dev :=
  if d.on .x_S_PRE 0 && d.fns.all (fun f => decide (d.fn f = fnTripped) || decide (d.fn f = fnFault)) then d.resetSafe else d

/-! Images (R382, R383). Region codes of an image: 0 CHIP, 1 LOOP, 2 PROG, 3 FIELD, 4 SAFE. -/

/-- A byte of the flash; erased flash reads 0xFF. -/
def Dev.fbyte (d : Dev) (a : Nat) : Nat := ((mapFind a d.flash).getD 0xFF#8).toNat

/-- Bytes of the flash. -/
def Dev.fbytes (d : Dev) (a n : Nat) : List Nat := (List.range n).map (fun i => d.fbyte (a + i))

/-- Address of image slot s of region r. -/
def slotBase (r s : Nat) : Nat := 0x1000000 * (1 + 2 * r + s)

/-- The failure code of an image slot, 0 where it is valid (R383, R392). -/
def Dev.slotCheck (d : Dev) (r s : Nat) (readFail : Bool) : Nat :=
  let h := d.fbytes (slotBase r s) 256
  let len := leNat ((h.drop 8).take 4)
  let zeros := fun i n : Nat => ((h.drop i).take n).all (fun x => decide (x = 0))
  if readFail then 5
  else if leNat (h.take 4) ≠ 0x49565355 ∨ h.getD 4 0 ≠ r ∨ !zeros 6 2 ∨ !zeros 12 4 ∨ !zeros 160 96 ∨ len < 1 ∨ 16776960 < len then 1
  else if Config.sha384 (d.fbytes (slotBase r s + 256) len) ≠ leNat ((h.drop 16).take 48) then 2
  else if !Config.authentic 0 (leNat (h.take 160)) then 3
  else if h.getD 5 0 < d.get .x_ARB r ∨ 64 < h.getD 5 0 then 4
  else 0

/-- The preferred slot of region r (R382). -/
def Dev.preferred (d : Dev) (r : Nat) : Nat := if d.fbyte r = 1 then 1 else 0

/-- Tries the preferred slot and then the other one: the slot loaded, if any, and the entry for BOOT_STAT (R384, R392). -/
def Dev.trySlots (d : Dev) (r : Nat) (readFail : Nat → Bool) : Option Nat × Nat :=
  let p := d.preferred r
  let c := d.slotCheck r p (readFail p)
  if c = 0 then (some p, p)
  else
    let q := 1 - p
    let e := d.slotCheck r q (readFail q)
    if e = 0 then (some q, q + 4 + 8 * c) else (none, 3 + 4 + 8 * e)

/-- Loads region r where a slot passes: whether it does, and the device with BOOT_STAT and the active slot. -/
def Dev.loadRegion (d : Dev) (r : Nat) (readFail : Nat → Bool) : Bool × Dev :=
  let t := d.trySlots r readFail
  let b := d.get .BOOT_STAT 0
  let d := d.put .BOOT_STAT 0 (b - b / 64 ^ r % 64 * 64 ^ r + t.2 * 64 ^ r)
  match t.1 with
  | some s => (true, d.put .x_ACT r (s + 1))
  | none => (false, d)

/-- The safety image: its slot and parameter set; a failed verification gives PSERR 0x06, and the load path reads closed where its
monitoring fails (R18, R358). -/
def Dev.loadSafe (d : Dev) (readFail : Nat → Bool) : Bool × Dev :=
  if d.on .x_PM_LOAD 0 then (false, d.put .SAFE_STAT_PSERR 0 6)
  else
    let r := d.loadRegion 4 readFail
    let d' : Dev := r.2
    if r.1 then
      let s := d'.get .x_ACT 4 - 1
      let d' := if d'.preferred 4 = s then d' else d'.put .SAFE_STAT_PSERR 0 6
      (true, { d'.put .SAFE_STAT_SLOT 0 s with psSet := d'.fbytes (slotBase 4 s + 256 + Config.psOffset) 416 })
    else (false, d'.put .SAFE_STAT_PSERR 0 6)

/-! Releases. -/

/-- The loop region leaves reset: its enabled slots start at their first sample instant at or after the next tick, as newly enabled ones
(R401). -/
def Dev.releaseLoop (d : Dev) : Dev :=
  let d := d.put .x_HELD 0 0
  forN 256 (fun d g => if d.on .SLOT_CTL_EN g then d.put .x_SLOT_FIRST g (d.tick + 1) else d) d

/-- A region leaves reset. -/
def Dev.releaseRegion (d : Dev) (r : Nat) : Dev :=
  if r = 0 then d.releaseLoop
  else if r = 1 then (d.put .x_HELD 1 0).attachUnits
  else if r = 2 then (d.put .x_HELD 2 0).fieldStart
  else d.put .x_HELD r 0

/-- Image region code of region r. -/
def imageOf (r : Nat) : Nat := (r + 1) % 5

/-- REGION_RESET_END: after 20 µs the region's image is loaded and it leaves reset; without a valid slot it stays in reset, the safety
region in INIT (R337, R358, R384). -/
def Dev.regionResetEnd (d : Dev) (r readFail : Nat) : Dev :=
  if d.chipOn && d.on .x_RSTA r && decide (d.get .x_RSTC r + 5000 ≤ d.get .x_CYC 0) then
    let d := (d.put .x_RSTA r 0).put .RST_CTL_REGION 0 (d.get .RST_CTL_REGION 0 - (if (d.get .RST_CTL_REGION 0).testBit r then 2 ^ r else 0))
    let d := if r = 0 then d.put .BOOT_CTL_LOOP_HELD 0 0 else d
    let l := if r = 3 then d.loadSafe readFail.testBit else d.loadRegion (imageOf r) readFail.testBit
    let d' : Dev := l.2
    if l.1 || decide (r = 3) then (d'.releaseRegion r).resetDone (4 + 16 * r) else d'
  else d

/-! Boot (R366, R384). -/

/-- PLL_LOCK: the chip-level units are released. -/
def Dev.pllLock (d : Dev) : Dev :=
  if d.on .x_DEEP 0 then d
  else
    let d := (d.put .CLK_STAT_PLLLOCK 0 1).put .CLK_STAT_REFOK 0 1
    if d.held 4 then (d.put .x_HELD 4 0).put .x_PAIR_C0 0 (d.get .x_CYC 0) else d

/-- A region at boot: it is loaded and leaves reset, where a slot passes. -/
def Dev.bootRegion (d : Dev) (r : Nat) (fail : Nat → Nat → Bool) : Dev :=
  let l := if r = 3 then d.loadSafe (fail 4) else d.loadRegion (imageOf r) (fail (imageOf r))
  let d' : Dev := l.2
  if l.1 then (if r = 0 then d'.put .BOOT_CTL_LOOP_HELD 0 1 else d'.releaseRegion r) else d'

/-- BOOT_ROM: bit 2 r + s of `readFail` says that reading slot s of image region r fails. A failed CHIP image stops boot. -/
def Dev.bootRom (d : Dev) (readFail : Nat) : Dev :=
  if d.chipOn && d.on .CLK_STAT_PLLLOCK 0 && !d.on .x_BOOTED 0 then
    let fail := fun r s : Nat => readFail.testBit (2 * r + s)
    let c := (d.put .x_BOOTED 0 1).loadRegion 0 (fail 0)
    let d' : Dev := c.2
    if c.1 then (((d'.bootRegion 3 fail).bootRegion 2 fail).bootRegion 1 fail).bootRegion 0 fail else d'
  else d

/-- LOOP_GO: the loop region leaves its boot hold. -/
def Dev.loopGo (d : Dev) : Dev :=
  if d.chipOn && d.on .BOOT_CTL_LOOP_HELD 0 then (d.put .BOOT_CTL_LOOP_HELD 0 0).releaseLoop else d

/-! The commands. -/

/-- POR (R337). -/
def execPor (s : State) := act s (fun d => d.fullReset 0)
/-- BOR (R366). -/
def execBor (s : State) := act s (fun d => d.fullReset 1)
/-- PIN_RESET (R337). -/
def execPinReset (clksel : Bool) (s : State) := act s (fun d => d.pinReset clksel)
/-- WARM (R337). -/
def execWarm (key : BitVec 8) (s : State) := act s (fun d => if d.chipOn && decide (key = 0x5A#8) then d.warmReset else d)
/-- REGION_RESET (R337). -/
def execRegionReset (key : BitVec 8) (regions : BitVec 4) (s : State) := act s (fun d => d.regionReset key.toNat regions.toNat)
/-- REGION_RESET_END (R337). -/
def execRegionResetEnd (r : Fin 4) (readFail : BitVec 2) (s : State) := act s (fun d => d.regionResetEnd r readFail.toNat)
/-- SAFETY_PRE_RESET_COMPLETE (R358). -/
def execSafetyPreResetComplete (s : State) := act s (fun d => d.preResetComplete)
/-- PLL_LOCK (R366). -/
def execPllLock (s : State) := act s (fun d => d.pllLock)
/-- BOOT_ROM (R384). -/
def execBootRom (readFail : BitVec 10) (s : State) := act s (fun d => d.bootRom readFail.toNat)
/-- LOOP_GO (R384). -/
def execLoopGo (s : State) := act s (fun d => d.loopGo)

end Sys2Proof.Machine
end

