-- ==== Sys2Proof/Machine/Commit.lean ====
section
/-!
DEFINITION. Shadows, commits and what a snapshot does at its tick (R7, R8, R90, R93, R99, R104, R161, R184, R188, R189, R192, R207, R225,
R233, R237, R265).
-/

namespace Sys2Proof.Machine

/-- Registers of a region take writes: the chip-level units are out of reset and the region is not in the 20 µs of a reset. -/
def Dev.regOpen (d : Dev) (r : Nat) : Bool := d.chipOn && !d.on .x_RSTA r

/-- A write to an ST field reaches its shadow copy only (R7). -/
def Dev.shadowPut (d : Dev) (f : F) (i v : Nat) : Dev := { d with shadow := mapSet ltReg (f, i) (some (f.fit v)) d.shadow }

/-- Entries of a register list that belong to a region. -/
def inRgn (r : Nat) (l : List ((F × Nat) × Nat)) : List ((F × Nat) × Nat) := l.filter (fun e => decide (rgnOf e.1 = r))

/-- CFG_COMMIT: a snapshot of all the region's shadow copies; a second commit joins the first (R7). -/
def Dev.commit (d : Dev) (r : Nat) : Dev :=
  if d.regOpen r then
    let d : Dev := { d with snap := (inRgn r d.shadow).foldl (fun m e => mapSet ltReg e.1 (some e.2) m) d.snap }
    if d.on .CFG_COMMIT_PENDING r then d else (d.put .CFG_COMMIT_PENDING r 1).put .x_CFG_T r d.tick
  else d

/-- Puts the entries of a snapshot that meet a condition. -/
def Dev.putAll (d : Dev) (p : F × Nat → Bool) (l : List ((F × Nat) × Nat)) : Dev :=
  l.foldl (fun d e => if p e.1 then d.put e.1.1 e.1.2 e.2 else d) d

/-- A field as a snapshot leaves it. -/
def snapGet (d : Dev) (l : List ((F × Nat) × Nat)) (f : F) (i : Nat) : Nat := (mapFind (f, i) l).getD (d.get f i)

/-! The loop region. -/

/-- Mode field of cell i of a block. -/
def modeField (i : Nat) : F := if i = 0 then .CELL_MODE_M0 else if i = 1 then .CELL_MODE_M1 else if i = 2 then .CELL_MODE_M2 else .CELL_MODE_M3

/-- Mode fields, which have a rule of their own. -/
def isModeField (f : F) : Bool := decide (f = .CELL_MODE_M0) || decide (f = .CELL_MODE_M1) || decide (f = .CELL_MODE_M2) || decide (f = .CELL_MODE_M3)

/-- A committed mode of cell i of block b: rejected while the cell has an enabled slot (R104). -/
def Dev.commitMode (d : Dev) (l : List ((F × Nat) × Nat)) (b i : Nat) : Dev :=
  let f := modeField i
  let v := snapGet d l f b
  if v = d.get f b then d
  else if (List.range 64).any (fun s => d.slotEn (64 * b + s) && decide (d.get .SLOT_CTL_CELL (64 * b + s) = i)) then d.put .CELL_MODE_REJ b 1
  else (d.put f b v).put .C_STAT_MODE (6 * b + i) v

/-- The SAFE value of a stage comes into effect without an output instant (R91). -/
def Dev.stageRest (d : Dev) (st : Nat) : Dev :=
  let d := ((d.put .OS_VAL st (d.get .OS_SAFE st)).put .OS_STAT_QUAL st 0x10).put .OS_STAT_SAFE_ACT st 1
  ((d.put .x_OS_WAT st d.now).put .OS_STAT_BLENDING st 0).stageToImage st

/-- A stage at the tick of a commit, compared with the device before it (R91, R93, R99, R225). -/
def Dev.stageCommit (old : Dev) (d : Dev) (st : Nat) : Dev :=
  let g := d.get .OS_CFG_OWNER st
  let d :=
    if d.differs old .OS_CFG_OWNER st then
      let d := (d.put .x_OS_STEP st 1).put .x_OS_SWT st d.tick
      if d.on .x_HO_STG g && decide (d.get .x_HO_TICK g = d.tick) then d else (d.put .x_HO_STG g (st + 1)).put .x_HO_TICK g d.tick
    else d
  let d :=
    if d.on .OS_CFG_EN st then
      if !old.on .OS_CFG_EN st then ((d.put .OS_VAL st (d.get .OS_SAFE st)).put .OS_STAT_QUAL st 0x10).put .OS_STAT_SAFE_ACT st 1
      else if d.on .OS_STAT_SAFE_ACT st && d.differs old .OS_SAFE st then d.stageRest st
      else d
    else if old.on .OS_CFG_EN st || d.differs old .OS_SAFE st then d.stageRest st
    else d
  if 0x20 ≤ st ∧ st < 0x40 then d.put .x_AO_CMT (st - 0x20) (d.now + 1) else d

/-- Stage numbers of a snapshot, in ascending order. -/
def stagesOf (l : List ((F × Nat) × Nat)) : List Nat :=
  (l.filter (fun e => !isModeField e.1.1)).foldl (fun m e => insNat e.1.2 m) []

/-- A loop-region snapshot takes effect. An entry whose firing has become the HANDOVER firing may be ready now (R79). -/
def Dev.loopSnapshot (d : Dev) (l : List ((F × Nat) × Nat)) : Dev :=
  let old := d
  let d := d.putAll (fun k => !isModeField k.1) l
  let d := (stagesOf l).foldl (Dev.stageCommit old) d
  let d := forN 4 (fun d b => forN 4 (fun d i => d.commitMode l b i) d) d
  d.entries.foldl (fun d e => if !e.ready && d.isHandover e.slot e.tick && d.allPlaced e then d.makeReady e else d) d

/-! The field region. -/

/-- Link of a link register's instance; none for any other field (R252 to R254). -/
def linkOf (k : F × Nat) : Option Nat :=
  match k.1 with
  | .OL_CFG_EN => some k.2
  | .OL_CFG_CYC => some k.2
  | .OL_CFG_COFF => some k.2
  | .OL_CFG_WD => some k.2
  | .OL_TIME_TXD => some k.2
  | .OL_TIME_RTTMAX => some k.2
  | .OL_SEL_PRESENT => some k.2
  | .OL_SEL_RXSEL => some k.2
  | .OL_SEL_RXQ => some k.2
  | .STN_LEN_OLEN => some (k.2 / 8)
  | .STN_LEN_ILEN => some (k.2 / 8)
  | .MAP_CFG_EN => some (k.2 / 32)
  | .MAP_CFG_SGN => some (k.2 / 32)
  | .MAP_CFG_WIDTH => some (k.2 / 32)
  | .MAP_CFG_TY => some (k.2 / 32)
  | .MAP_CFG_STATION => some (k.2 / 32)
  | .MAP_CFG_OFFSET => some (k.2 / 32)
  | .MAP_DEST => some (k.2 / 32)
  | _ => none

/-- CAN controller of an instance; none for any other field (R274). -/
def canOf (k : F × Nat) : Option Nat :=
  if F.CAN_CFG_EN.ctorIdx ≤ k.1.ctorIdx ∧ k.1.ctorIdx ≤ F.CAN_COL_OFSL.ctorIdx then
    match k.1 with
    | .CAN_FID_EN => some (k.2 / 16)
    | .CAN_FID_XTD => some (k.2 / 16)
    | .CAN_FID_FID => some (k.2 / 16)
    | .CAN_FMSK => some (k.2 / 16)
    | .CAN_COL_OFSH => some (k.2 / 16)
    | .CAN_COL_OFSL => some (k.2 / 16)
    | _ => some k.2
  else none

/-- Fields that a field-region snapshot does not put as they are: links (R237), CAN (R265), cam tables (R189) and modems (R233). -/
def putsPlain (k : F × Nat) : Bool :=
  (linkOf k).isNone && (canOf k).isNone && !decide (k.1 = .AX_CAM_CBASE) && !decide (k.1 = .AX_CAM_K) && !decide (k.1 = .FM_CFG_EN) &&
  !decide (k.1 = .FM_CFG_CHAN)

/-- The table of axis a: left unchanged where it does not fit the cam memory (R189). -/
def Dev.commitCam (d : Dev) (l : List ((F × Nat) × Nat)) (a : Nat) : Dev :=
  let b := snapGet d l .AX_CAM_CBASE a
  let k := snapGet d l .AX_CAM_K a
  if b + 2 ^ k + 1 ≤ 8192 then (d.put .AX_CAM_CBASE a b).put .AX_CAM_K a k else d

/-- CAN controller c: not applied, with REJ, where a check fails (R265). -/
def Dev.commitCan (d : Dev) (l : List ((F × Nat) × Nat)) (c : Nat) : Dev :=
  let mine := l.filter (fun e => decide (canOf e.1 = some c))
  if mine.isEmpty then d
  else if !canCfgOk (snapGet d mine) c then d.put .CAN_CFG_REJ c 1
  else
    let old := d
    let d := d.putAll (fun _ => true) mine
    if (d.on .CAN_CFG_EN c && !old.on .CAN_CFG_EN c) || (d.on .CAN_CFG_TTEN c && !old.on .CAN_CFG_TTEN c) then d.canRestart c else d

/-- Link k: checked, then it waits for a cycle start (R237). -/
def Dev.commitLink (d : Dev) (l : List ((F × Nat) × Nat)) (k : Nat) : Dev :=
  let mine := (l.filter (fun e => decide (linkOf e.1 = some k))).map (fun e => (e.1.1, e.1.2, e.2))
  if mine.all (fun x => decide (olWith d (natGet [] k d.olPend) x.1 x.2.1 = x.2.2)) then d else d.olCommit k mine

/-- Queues that a unit attaches, with their directions: 0 to 7 groups, 8 to 11 modems, 12 to 15 Ethernet ports, 16 to 19 CAN controllers
(R128). -/
def Dev.unitQueues (d : Dev) (u : Nat) : List (Nat × Nat) :=
  if u < 8 then (if d.on .G_CFG_EN u then [(d.get .G_CFG_QUEUE u, 1)] else [])
  else if u < 12 then (if d.on .FM_CFG_EN (u - 8) then [(d.get .FM_CFG_TXQ (u - 8), 1), (d.get .FM_CFG_RXQ (u - 8), 2)] else [])
  else if u < 16 then
    let p := u - 12
    if d.on .ETH_CFG_EN p then
      (d.get .ETH_CFG_RXQ p, 2) :: (List.range 8).filterMap (fun t => (d.tqMap p t).map (fun q => (q, 1)))
    else []
  else if d.on .CAN_CFG_EN (u - 16) then [(d.get .CAN_CFG_RXQ (u - 16), 2)]
  else []

/-- A unit whose queues have changed detaches the old ones and attaches the new ones. -/
def Dev.requeue (old : Dev) (d : Dev) (u : Nat) : Dev :=
  let a := old.unitQueues u
  let b := d.unitQueues u
  if d.held 1 || decide (a = b) then d
  else b.foldl (fun d q => d.qattach q.1 q.2) (a.foldl (fun d q => d.qdetach q.1) d)

/-- Axis a: a new MODE takes over at the present set-point, a new gear ratio re-engages (R175, R188). -/
def Dev.commitAxis (old : Dev) (d : Dev) (a : Nat) : Dev :=
  let m := old.axisAt a d.now
  if d.differs old .AX_CFG_MODE a then d.modeEffect a m
  else if (d.differs old .AX_GNUM a || d.differs old .AX_GDEN a) && decide (d.amode a = 3) && d.on .x_AX_ENG a then d.engage a m.pos
  else d

/-- PWM axis a: gates stay off until the next valley after EN takes effect (R192). -/
def Dev.commitPwm (old : Dev) (d : Dev) (a : Nat) : Dev :=
  if d.differs old .PWM_CFG_EN a then (if d.on .PWM_CFG_EN a then d.holdEnds a else d.gatesOff a) else d

/-- Loop output n: the DAC takes the new code 500 ns after the tick (R225). -/
def Dev.commitAout (old : Dev) (d : Dev) (n : Nat) : Dev :=
  if d.differs old .AOUT_CFG_EN n || d.differs old .AOUT_CFG_MDROP n || d.differs old .AOUT_CFG_ADIR n || d.differs old .AOUT_CFG_AQMASK n ||
     d.differs old .AOUT_ALM_ALO n || d.differs old .AOUT_ALM_AHI n || d.differs old .AOUT_LIM_LLO n || d.differs old .AOUT_LIM_LHI n
  then d.put .x_AO_CMT n (d.now + 1) else d

/-- Ethernet port p: gates follow a new GEN or time base at once. -/
def Dev.commitEth (old : Dev) (d : Dev) (p : Nat) : Dev :=
  if d.differs old .ETH_CFG_GEN p || d.differs old .ETH_CFG_TBSEL p then d.openGates p else d

/-- A field-region snapshot takes effect. -/
def Dev.fieldSnapshot (d : Dev) (l : List ((F × Nat) × Nat)) : Dev :=
  let old := d
  let d := d.putAll putsPlain l
  let d := forN 32 (fun d a => d.commitCam l a) d
  let d := forN 4 (fun d c => d.commitCan l c) d
  let d := forN 20 (Dev.requeue old) d
  let d := forN 4 (fun d b => d.fmChange b (snapGet d l .FM_CFG_EN b) (snapGet d l .FM_CFG_CHAN b)) d
  let d := forN 20 (fun d k => d.commitLink l k) d
  let d := d.followInputs old
  let d := forN 8 (fun d k => if d.on .E_PCFG_PEN (24 + k) && !old.on .E_PCFG_PEN (24 + k) then d.pulseStart (24 + k) else d) d
  let d := forN 32 (Dev.commitAxis old) d
  let d := forN 8 (Dev.commitPwm old) d
  let d := forN 16 (fun d n => if d.differs old .ST_CFG_EN n then d.stepEnable n else d) d
  let d := forN 32 (Dev.commitAout old) d
  forN 4 (Dev.commitEth old) d

/-- SNAPSHOT_TAKES_EFFECT: at the first tick after the commit (R7). -/
def Dev.snapshotEffect (d : Dev) (r : Nat) : Dev :=
  if d.regOpen r && d.on .CFG_COMMIT_PENDING r && decide (d.get .x_CFG_T r < d.tick) then
    let l := inRgn r d.snap
    let d := Dev.put { d with snap := d.snap.filter (fun e => !decide (rgnOf e.1 = r)) } .CFG_COMMIT_PENDING r 0
    if r = 0 then d.loopSnapshot l else if r = 2 then d.fieldSnapshot l else d.putAll (fun _ => true) l
  else d

/-- Number of a region with a commit register. -/
def CfgRegion.idx : CfgRegion → Nat
  | .loop => 0
  | .prog => 1
  | .field => 2
  | .chip => 4

/-! The commands. -/

/-- CFG_COMMIT (R7). -/
def execCfgCommit (r : CfgRegion) (s : State) := act s (fun d => d.commit (CfgRegion.idx r))
/-- SNAPSHOT_TAKES_EFFECT (R7). -/
def execSnapshotTakesEffect (r : CfgRegion) (s : State) := act s (fun d => d.snapshotEffect (CfgRegion.idx r))

end Sys2Proof.Machine
end

