-- ==== Sys2Proof/Machine/Pair.lean ====
section
/-!
DEFINITION. Device pairs (R322 to R335): roles, epochs, heartbeats, checkpoints, takeover and hand-back.
-/

namespace Sys2Proof.Machine

/-! Roles and epochs. -/

/-- The smallest epoch above m with bit 0 equal to PREF (R323). -/
def epochAbove (m pref : Nat) : Nat := if (m + 1) % 2 = pref then m + 1 else m + 2

/-- The epoch of a device that becomes ACTIVE (R323). -/
def Dev.nextEpoch (d : Dev) : Nat := epochAbove (max (d.get .PAIR_EPOCH 0) (d.get .x_PEPOCH 0)) (d.get .PAIR_CTL_PREF 0)

/-- Becomes ACTIVE for a cause. -/
def Dev.becomeActive (d : Dev) (cause : Nat) : Dev :=
  let d := (d.put .PAIR_EPOCH 0 d.nextEpoch).setRole roleActive cause
  forN 20 (fun d k => d.put .x_OL_NCY k 0) (d.flag .x_PAIR_SU 0 (decide (cause = 7)))

/-- Major cycle in ticks. -/
def Dev.major (d : Dev) : Nat := d.get .PAIR_CTL_MAJOR 0

/-- The loop region is held in reset while the device is SYNCING or STANDBY (R329, R330). -/
def Dev.holdLoop (d : Dev) : Dev := if d.held 0 then d else d.resetLoop.put .x_RSTA 0 0

/-- PARTNER_ACTIVE_SEEN: an ACTIVE partner with its PREF, its epoch and its TB0 (R322, R323, R329). -/
def Dev.partnerActive (d : Dev) (pref : Bool) (epoch tb0 : Nat) : Dev :=
  if d.chipOn && d.on .PAIR_CTL_EN 0 && decide (d.role = roleAlone) then
    let d := (d.put .x_PEPOCH 0 epoch).put .x_PARTNER 0 roleActive
    if d.on .PAIR_CTL_PREF 0 = pref then d.put .PAIR_STAT_PAIRERR 0 1
    else
      let d := d.holdLoop.put .x_TBV 0 tb0
      ((((d.put .PAIR_STAT_CLEAN 0 0).put .x_CP_SB 0 0).put .x_HB_MISS 0 0).put .x_HB_MD 0 (d.tick + 1)).setRole roleSyncing 0x07
  else d

/-- PAIRING_TIMEOUT: 10 ms with PREF, 20 ms without (R322). -/
def Dev.pairingTimeout (d : Dev) : Dev :=
  let lim := if d.on .PAIR_CTL_PREF 0 then 2500000 else 5000000
  if d.chipOn && d.on .PAIR_CTL_EN 0 && decide (d.role = roleAlone) && decide (d.get .x_PARTNER 0 ≠ roleActive) && !d.on .PAIR_STAT_PAIRERR 0 &&
     decide (d.get .x_PAIR_C0 0 + lim ≤ d.get .x_CYC 0) then d.becomeActive 0x07
  else d

/-! Heartbeats (R325). -/

/-- HEARTBEAT: a pulse on PAIR_HB_OUT at a tick n with n mod 50 = 0, while ACTIVE, STANDBY or SYNCING; after PFAIL_N only while ACTIVE
(R368). -/
def Dev.heartbeat (d : Dev) : Dev :=
  match dueTick d.now 50 0 0 with
  | none => d
  | some n =>
    if d.chipOn && decide (1 ≤ d.role) && decide (d.role ≤ 3) && (decide (d.role = roleActive) || !d.on .x_PFQ 0) && decide (d.get .x_HB_T 0 ≤ n) then
      d.put .x_HB_T 0 (n + 1)
    else d

/-- PARTNER_HEARTBEAT_RECEIVED: a pulse within 2 µs of its tick. -/
def Dev.heartbeatSeen (d : Dev) : Dev :=
  let m := (d.now + 25000) / 50000 * 50
  if d.chipOn && d.on .PAIR_CTL_EN 0 && decide (d.now ≤ 1000 * m + 2000) && decide (1000 * m ≤ d.now + 2000) then
    ((d.put .PAIR_STAT_HBOK 0 1).put .x_HB_MISS 0 0).put .x_HB_RX 0 (m + 1)
  else d

/-- HEARTBEAT_MISSED: three in a row make a takeover due at the standby (R330). -/
def Dev.heartbeatMissed (d : Dev) : Dev :=
  match dueTick d.now 50 0 2001 with
  | none => d
  | some m =>
    if d.chipOn && d.on .PAIR_CTL_EN 0 && decide (1 ≤ d.role) && decide (d.role ≤ 3) && decide (d.get .x_HB_RX 0 ≤ m) && decide (d.get .x_HB_MD 0 ≤ m) then
      let n := min 3 (d.get .x_HB_MISS 0 + 1)
      let d := ((d.put .PAIR_STAT_HBOK 0 0).put .x_HB_MD 0 (m + 1)).put .x_HB_MISS 0 n
      if n = 3 ∧ d.role = roleStandby then d.put .x_TO_CAUSE 0 1 else d
    else d

/-! Areas of a checkpoint (R326, R327): number g below 256 is the state area of slot g, 256 + i is AREAi. -/

/-- First byte and length of an area; none where it is not declared. -/
def Dev.area (d : Dev) (i : Nat) : Option (Nat × Nat) :=
  if i < 256 then
    if d.slotEn i then some (cellBase (6 * (i / 64) + d.get .SLOT_CTL_CELL i) + 4 * d.get .SLOT_STATE_SBASE i, 4 * d.get .SLOT_STATE_SLEN i) else none
  else
    let a := i - 256
    if d.on .AREA_LEN_EN a then some (256 * d.get .AREA_BASE a, 64 * d.get .AREA_LEN_LEN a) else none

/-- Where a byte of an area lies now: the state of a slot that C5 serves lies in C5 (R315, R318). -/
def Dev.areaAt (d : Dev) (i start a : Nat) : Nat :=
  if i < 256 ∧ start ≤ a ∧ a < start + 4 * d.get .SLOT_STATE_SLEN i ∧ d.servingCell i % 6 = 5 then
    cellBase (d.servingCell i) + 4 * d.mirrorBase i + (a - start)
  else a

/-- Numbers of the 64-byte lines that an area touches. -/
def areaLines (start len : Nat) : List Nat := if len = 0 then [] else (List.range ((start + len - 1) / 64 - start / 64 + 1)).map (fun j => start / 64 + j)

/-- The lines where line l of an area lies now. -/
def Dev.homeLines (d : Dev) (i start l : Nat) : List Nat := (List.range 64).map (fun j => d.areaAt i start (64 * l + j) / 64)

/-- Content of line l of an area. -/
def Dev.lineVal (d : Dev) (i start l : Nat) : Nat := sumBelow 64 (fun j => (d.byte (d.areaAt i start (64 * l + j))).toNat * 256 ^ j)

/-- The owner of an area is between firings or cycles (R327). -/
def Dev.ownerIdle (d : Dev) (i : Nat) : Bool :=
  let a := i - 256
  let slot := if i < 256 then some i else if d.on .AREA_LEN_OKIND a then none else some (d.get .AREA_LEN_OWNER a)
  match slot with
  | some g => !d.banks.any (fun b => decide (b.2.slot = g) && d.loaded (b.1 / 2) (b.1 % 2))
  | none =>
    let n := d.get .AREA_LEN_OWNER a
    let st := d.tstate n
    decide (st = tsDormant) || (!d.on .CYC_CTL_EN n && (decide (st = tsWaitFlag) || decide (st = tsDelay) || decide (st = tsWaitQueue)))

/-- The full stream starts: no line is carried yet (R328). -/
def Dev.startFull (d : Dev) : Dev := forN 384 (fun d i => d.put .x_CP_CARR i 0) (d.put .CP_STAT_FULL 0 1)

/-- A checkpoint is abandoned: its lines stay dirty, the full stream starts, and the partner enters SYNCING (R328). -/
def Dev.abandonCp (d : Dev) : Dev :=
  let d := { d with dirty := d.carried.foldl (fun l x => insNat x l) d.dirty, carried := [] }
  let d := (((d.bump .CP_ABORT 0 1).put .CP_STAT_INPROG 0 0).put .PAIR_STAT_CLEAN 0 0).startFull
  let d := if d.on .x_HB_DRAIN 0 then (d.put .x_HB_DRAIN 0 0).put .x_HB_REQ 0 0 else d
  (if d.get .x_PARTNER 0 = roleStandby then d.put .x_PARTNER 0 roleSyncing else d).sendPair .abandon

/-- A field that a checkpoint carries: class S of the loop, program and field regions (R326). -/
def carriedField (f : F) : Bool := decide (f.desc.cls = .S) && decide (rgnIdx f.desc.rgn < 3)

/-- The output images of the stations, class S (R252), as entries of the fields of a checkpoint: their bytes by offset from the base of
the links. -/
def Dev.outImages (d : Dev) : List (F × Nat × Nat) :=
  (d.mem.filter (fun c => inOutImage c.1)).map (fun c => (F.x_OIMG, c.1 - 0x21300000, c.2.toNat))

/-- A checkpoint starts at a boundary tick (R326, R331). -/
def Dev.startCp (d : Dev) (n : Nat) : Dev :=
  let d := ((d.bump .CP_BEGUN 0 1).put .CP_STAT_INPROG 0 1).put .x_CP_BND 0 n
  let d := ((d.put .x_CP_MARK 0 0).put .x_CP_LINES 0 0).put .x_CP_BUD 0 (if d.on .CP_STAT_FULL 0 then 4096 else 0)
  let d := forN 384 (fun d i => (d.put .x_CP_FLIP i 0).put .x_CP_ADD i 0) { d with carried := [] }
  let fs := (d.regs.filter (fun e => carriedField e.1.1)).map (fun e => (e.1.1, e.1.2, e.2))
  let live := (List.range 64).filter (fun m => decide (d.tstate m ≠ tsDormant))
  ((d.sendPair (.checkpointStart n)).sendPair (.fields (fs ++ d.outImages) d.plans d.paths)).sendPair (.tasks live)

/-- CHECKPOINT_BOUNDARY (R326, R328, R334): a boundary that finds a checkpoint in progress starts none. -/
def Dev.cpBoundary (d : Dev) : Dev :=
  match dueTick d.now d.major 0 0 with
  | none => d
  | some n =>
    if d.chipOn && decide (d.role = roleActive) && !d.on .x_PFQ 0 && decide (d.get .x_CP_BD 0 ≤ n) then
      let d := d.put .x_CP_BD 0 (n + 1)
      if d.on .CP_STAT_INPROG 0 then d.put .PAIR_STAT_CLEAN 0 0
      else (if d.on .x_HB_REQ 0 then d.put .x_HB_DRAIN 0 1 else d).startCp n
    else d

/-- AREA_FLIP: the area's dirty lines, and lines of the full stream, are sent as its owner left them (R327, R328). More than 512 KiB
abandon the checkpoint. -/
def Dev.areaFlip (d : Dev) (i : Nat) : Dev :=
  if d.chipOn && decide (d.role = roleActive) && d.on .CP_STAT_INPROG 0 && !d.on .x_CP_FLIP i && d.ownerIdle i then
    match d.area i with
    | none => d
    | some (start, len) =>
      let all := areaLines start len
      let isDirty := fun l : Nat => (d.homeLines i start l).any (fun h => d.dirty.contains h)
      let add := min (d.get .x_CP_BUD 0) (if d.on .CP_STAT_FULL 0 then all.length - d.get .x_CP_CARR i else 0)
      let extra := (all.drop (d.get .x_CP_CARR i)).take add
      let send := all.filter (fun l => isDirty l || extra.contains l)
      let homes := (send.map (d.homeLines i start)).flatten
      let vals := send.map (fun l => (l, d.lineVal i start l))
      let moved := d.dirty.filter homes.contains
      let d := { d with dirty := d.dirty.filter (fun h => !homes.contains h), carried := moved.foldl (fun l x => insNat x l) d.carried }
      let d := ((d.put .x_CP_FLIP i 1).put .x_CP_ADD i add).put .x_CP_BUD 0 (d.get .x_CP_BUD 0 - add)
      let n := d.get .x_CP_LINES 0 + send.length
      let d := ((d.put .x_CP_LINES 0 n).put .CP_STAT_DIRTY 0 ((n + 15) / 16)).sendPair (.area i vals)
      if 8192 < n then d.abandonCp else d
  else d

/-- COMMIT_MARKER: every area has flipped and every dirty line is sent (R328). -/
def Dev.commitMarker (d : Dev) : Dev :=
  if d.chipOn && decide (d.role = roleActive) && d.on .CP_STAT_INPROG 0 && decide (d.get .x_CP_MARK 0 = 0) &&
     (List.range 384).all (fun i => (d.area i).isNone || d.on .x_CP_FLIP i) then
    let d := d.put .x_CP_MARK 0 (d.tick + 1)
    (if d.on .x_HB_DRAIN 0 then d.sendPair .handBackTaken else d).sendPair (.marker (d.get .x_CP_BND 0) (d.get .PAIR_EPOCH 0))
  else d

/-- The full stream is complete: every line of every area is carried. -/
def Dev.fullDone (d : Dev) : Bool :=
  (List.range 384).all (fun i =>
    match d.area i with
    | none => true
    | some (start, len) => decide ((areaLines start len).length ≤ d.get .x_CP_CARR i))

/-- The commit of a checkpoint at the active device. -/
def Dev.committed (d : Dev) : Dev :=
  let d := ((d.bump .CP_COMMIT 0 1).put .CP_STAT_INPROG 0 0).put .CP_TICK 0 (d.get .x_CP_BND 0)
  let d := forN 384 (fun d i => (d.put .x_CP_CARR i (d.get .x_CP_CARR i + d.get .x_CP_ADD i)).put .x_CP_ADD i 0) { d with carried := [] }
  let d := if d.on .CP_STAT_FULL 0 && d.fullDone then d.put .CP_STAT_FULL 0 0 else d
  d.put .PAIR_STAT_CLEAN 0 (if d.tick < d.get .x_CP_BND 0 + d.major then min 10 (d.get .PAIR_STAT_CLEAN 0 + 1) else 0)

/-- CHECKPOINT_ACK: the acknowledgement with the partner's role; after the checkpoint of a hand-back the device takes STANDBY
and its loop region is held, with its memories and its class S fields kept (R328, R334). -/
def Dev.cpAck (d : Dev) (standby : Bool) : Dev :=
  if d.chipOn && decide (d.role = roleActive) && d.on .CP_STAT_INPROG 0 && decide (d.get .x_CP_MARK 0 ≠ 0) then
    let d := d.committed.put .x_PARTNER 0 (if standby then roleStandby else roleSyncing)
    if d.on .x_HB_DRAIN 0 then
      let d := ((d.put .x_HB_DRAIN 0 0).put .x_HB_REQ 0 0).setRole roleStandby 0x03
      (((d.put .x_PARTNER 0 roleActive).put .x_CP_SB 0 0).put .x_HB_MISS 0 0).put .x_HELD 0 1
    else d
  else d

/-- CHECKPOINT_ABANDON: the staging buffer fills, or no acknowledgement arrives within 2 × MAJOR ticks of the marker (R328). -/
def Dev.cpAbandon (d : Dev) (staging : Bool) : Dev :=
  let m := d.get .x_CP_MARK 0
  if d.chipOn && decide (d.role = roleActive) && d.on .CP_STAT_INPROG 0 && (staging || (decide (m ≠ 0) && decide (m - 1 + 2 * d.major ≤ d.tick))) then
    d.abandonCp
  else d

/-- The content of a checkpoint is applied (R326, R328, R331). -/
def Dev.applyCp (d : Dev) (cp : Checkpoint) : Dev :=
  let old := d
  let d := { d with regs := d.regs.filter (fun e => !carriedField e.1.1), plans := cp.plans, paths := cp.paths }
  let d := cp.fields.foldl (fun d x =>
    if x.1 = .x_OIMG then (if inOutImage (0x21300000 + x.2.1) then d.setByte (0x21300000 + x.2.1) (BitVec.ofNat 8 x.2.2) else d)
    else if carriedField x.1 then d.put x.1 x.2.1 x.2.2 else d) (d.dropMem inOutImage)
  let d := cp.lines.foldl (fun d x => d.wr (64 * x.1) 64 x.2) d
  let d := forN 64 (fun d n => d.flag .x_CP_LIVE n (cp.live.testBit n)) d
  let d := (d.put .x_PEPOCH 0 cp.epoch).put .CP_TICK 0 cp.boundary
  if d.held 2 then d else d.followInputs old

/-- CHECKPOINT_APPLY at the standby. Lines whose marker or CRC is not intact are discarded, and the device enters SYNCING (R322, R328,
R334). -/
def Dev.cpApply (d : Dev) (cp : Checkpoint) : Dev :=
  if d.chipOn && (decide (d.role = roleStandby) || decide (d.role = roleSyncing)) then
    if !cp.intact then
      let d := (d.put .PAIR_STAT_CLEAN 0 0).put .x_CP_SB 0 0
      if d.role = roleSyncing then d else d.setRole roleSyncing (d.get .PAIR_STAT_CAUSE 0)
    else
      let d := (d.applyCp cp).sendPair (.ack cp.boundary)
      let clean := decide (d.tick < cp.boundary + d.major)
      if d.role = roleSyncing then
        let c := if clean && cp.full then min 10 (d.get .PAIR_STAT_CLEAN 0 + 1) else 0
        let d := d.put .PAIR_STAT_CLEAN 0 c
        if c = 10 then (d.put .x_CP_SB 0 0).setRole roleStandby 0x07 else d
      else
        let d := d.put .PAIR_STAT_CLEAN 0 (if clean then min 10 (d.get .PAIR_STAT_CLEAN 0 + 1) else 0)
        let d := d.put .x_CP_SB 0 (if clean then min 10 (d.get .x_CP_SB 0 + 1) else d.get .x_CP_SB 0)
        if cp.handBack then d.put .x_TO_CAUSE 0 3 else d
  else d

/-- TIME_MESSAGE: the pair unit sets RATE of TB0 to follow the active device; the value is open, within the range of R285 (R329). -/
def Dev.timeMessage (d : Dev) : Dev :=
  if d.chipOn && (decide (d.role = roleStandby) || decide (d.role = roleSyncing)) then
    let r := d.fresh
    let d' : Dev := r.2
    d'.sput .TB_RATE 0 ((r.1 % 34359739 : Nat) - 17179869)
  else d

/-! Takeover (R330 to R333). -/

/-- RESIGN (R330). -/
def Dev.resign (d : Dev) : Dev :=
  if d.chipOn && decide (d.role = roleActive) then d.resignIfActive.takeFailed 0x02 else d

/-- RESIGN_MESSAGE: the partner has resigned. -/
def Dev.resignSeen (d : Dev) : Dev :=
  if d.chipOn && d.on .PAIR_CTL_EN 0 then
    let d := d.put .x_PARTNER 0 roleFailed
    if d.role = roleStandby then d.put .x_TO_CAUSE 0 2 else d
  else d

/-- A field that TAKEOVER clears: class C of the loop, program and field regions but for directly wired I/O (R330, R333, R339). -/
def takeoverClears (k : F × Nat) : Bool := decide (k.1.desc.cls = .C) && decide (rgnOf k < 3) && !k.1.desc.direct

/-- TAKEOVER: what was in motion is lost, the epoch is raised, the role is ACTIVE and the regions are released. -/
def Dev.takeover (d : Dev) : Dev :=
  if d.chipOn && decide (d.role = roleStandby) && d.on .x_TO_CAUSE 0 then
    let cause := d.get .x_TO_CAUSE 0
    let d := (((d.dropFields takeoverClears).dropShadows 0).dropShadows 1).dropShadows 2
    let d := forN 64 (fun d q => d.put .Q_CFG_ATT q 0) (d.dropMem (fun a => inQueueStore a || inInImage a))
    let d := { d with
      banks := [], net := [], stalled := [], backlog := [], entries := [], readyq := [], fates := [], stageVals := [], admq := []
      copies := [], capFifo := [], tasks := [], readyt := [], waitq := [], queues := [], latches := [], published := [], changes := []
      olPend := [], olSnap := [], olRx := [], olFrame := [], ethTx := [], ethTsq := [], dcReady := [], sedHold := [], sedOwn := [] }
    let d := d.becomeActive cause
    let d := (((d.put .x_HELD 0 0).put .BOOT_CTL_LOOP_HELD 0 0).put .x_TO_CAUSE 0 0).put .x_HB_SENT 0 0
    let d := ((d.put .x_TO_WAIT 0 1).put .x_TO_TICK 0 d.tick).resetDone 5
    if d.held 2 then d
    else (forN 4 (fun d c => if d.on .CAN_CFG_EN c then d.canRestart c else d) d).attachUnits.fieldLines
  else d

/-- A slot whose cell is retired on the new active device: it runs on C5, or is disabled where C5 serves another cell or is retired
(R330). -/
def Dev.coverRetired (d : Dev) (c : Nat) : Dev :=
  let b := c / 6
  let c5 := 6 * b + 5
  let slots := (List.range 64).map (fun l => 64 * b + l) |>.filter (fun g => d.slotEn g && decide (d.get .SLOT_CTL_CELL g = c % 6))
  if c % 6 = 5 || !d.on .C_STAT_FAULTED c || slots.isEmpty then d
  else if d.on .C_STAT_FAULTED c5 || (d.on .SPARE_SUBST b && decide (d.get .SPARE_FROM b ≠ c % 6)) then
    slots.foldl (fun d g => ((d.disable g).put .SLOT_CTL_REFUSE g 2).put .SLOT_CTL_REF_SLOT g (g % 64)) d
  else
    let d := d.substitute c
    slots.foldl (fun d g => d.copyMem (cellBase c + 4 * d.get .SLOT_STATE_SBASE g) (cellBase c5 + 4 * d.mirrorBase g) (4 * d.get .SLOT_STATE_SLEN g)) d

/-- TAKEOVER_EXECUTION_START: the next tick after a takeover (R182, R330, R331). -/
def Dev.executionStart (d : Dev) : Dev :=
  if d.on .x_TO_WAIT 0 && decide (d.get .x_TO_TICK 0 < d.tick) then
    let d := d.put .x_TO_WAIT 0 0
    let d := forN 24 Dev.coverRetired d
    let d := forN 256 (fun d g => if d.on .SLOT_CTL_EN g then d.put .x_SLOT_FIRST g d.tick else d) d
    let d := if d.held 1 then d else forN 64 (fun d n => if d.on .x_CP_LIVE n && !d.on .CYC_CTL_EN n then d.start n else d) d
    if d.held 2 then d
    else forN 32 (fun d a =>
      if d.on .x_AX_ENG a && decide (d.get .AX_CFG_MSRC a < 32) then d.engage a (d.get64 .AX_POS_LO .AX_POS_HI a) else d) d
  else d

/-- HIGHER_EPOCH_REACTION: to the highest epoch in a trailer, or one seen on the pair link (R324, R332). -/
def Dev.higherEpoch (d : Dev) (seen : Nat) : Dev :=
  let t := d.get .x_EPHI 0 - 1
  let e := max seen t
  if d.chipOn && decide (d.get .PAIR_EPOCH 0 < e) then
    let link := d.get .x_EPL 0 - 1
    let d := (d.put .x_EPHI 0 0).put .x_EPL 0 0
    if d.role = roleAlone then d.put .PAIR_EPOCH 0 (e + 1)
    else if d.role = roleActive then
      if d.on .x_PAIR_SU 0 && decide (seen ≤ d.get .PAIR_EPOCH 0) && decide (d.get .x_OL_NCY link ≤ 2) then
        d.put .PAIR_EPOCH 0 (epochAbove e (d.get .PAIR_CTL_PREF 0))
      else (d.report 2 (srcOf 0 3 3) 0x51 e).takeFailed 0x04
    else d
  else d

/-! Return modes (R334). -/

/-- HAND_BACK_REQUEST: the preferred standby requests it after 10 clean checkpoints; at the active device the request arrives. -/
def Dev.handBack (d : Dev) : Dev :=
  if d.chipOn && !d.on .PAIR_CTL_RMODE 0 then
    if d.role = roleStandby ∧ d.on .PAIR_CTL_PREF 0 ∧ 10 ≤ d.get .x_CP_SB 0 ∧ !d.on .x_HB_SENT 0 then (d.put .x_HB_SENT 0 1).sendPair .handBack
    else if d.role = roleActive ∧ !d.on .PAIR_CTL_PREF 0 then d.put .x_HB_REQ 0 1
    else d
  else d

/-- PAIR_READMIT: only from an open service session, in FAILED. -/
def Dev.pairReadmit (d : Dev) : Dev :=
  if d.chipOn && d.session && decide (d.role = roleFailed) then d.touch.put .PAIR_CTL_READMIT 0 1 else d

/-- PAIR_SELF_TEST_END: a pass makes a WARM reset and the device ALONE. -/
def Dev.pairSelfTest (d : Dev) (pass : Bool) : Dev :=
  if d.chipOn && d.on .PAIR_CTL_READMIT 0 then
    if pass then (d.warmReset.setRole roleAlone 0x07).put .PAIR_STAT_TEST 0 1
    else (d.put .PAIR_CTL_READMIT 0 0).put .PAIR_STAT_TEST 0 2
  else d

/-- PAIR_LINK_CHANGE: the link and the role that the partner reports on it; to a partner that becomes SYNCING the full stream starts. -/
def Dev.pairLink (d : Dev) (up : Bool) (role : Nat) : Dev :=
  if d.chipOn then
    let was := d.get .x_PARTNER 0
    let r := if up then role else 0
    let d := (d.flag .PAIR_STAT_LINKUP 0 up).put .x_PARTNER 0 r
    if d.role = roleActive ∧ r = roleSyncing ∧ was ≠ roleSyncing ∧ !d.on .CP_STAT_FULL 0 then d.startFull else d
  else d

/-- A read of CP_BEGUN (R335). -/
def Dev.cpBegunRead (d : Dev) : Dev :=
  d.capture [(.CP_COMMIT, 0, d.get .CP_COMMIT 0), (.CP_ABORT, 0, d.get .CP_ABORT 0), (.CP_STAT_INPROG, 0, d.get .CP_STAT_INPROG 0)]

/-! The commands. -/

/-- HEARTBEAT (R325). -/
def execHeartbeat (s : State) := act s (fun d => d.heartbeat)
/-- HEARTBEAT_MISSED (R325). -/
def execHeartbeatMissed (s : State) := act s (fun d => d.heartbeatMissed)
/-- PARTNER_HEARTBEAT_RECEIVED (R325). -/
def execPartnerHeartbeatReceived (s : State) := act s (fun d => d.heartbeatSeen)
/-- PARTNER_ACTIVE_SEEN (R322). -/
def execPartnerActiveSeen (pref : Bool) (epoch : BitVec 32) (tb0 : Nat) (s : State) := act s (fun d => d.partnerActive pref epoch.toNat tb0)
/-- PAIRING_TIMEOUT (R322). -/
def execPairingTimeout (s : State) := act s (fun d => d.pairingTimeout)
/-- CHECKPOINT_BOUNDARY (R326). -/
def execCheckpointBoundary (s : State) := act s (fun d => d.cpBoundary)
/-- AREA_FLIP (R327). -/
def execAreaFlip (i : Fin 384) (s : State) := act s (fun d => d.areaFlip i)
/-- COMMIT_MARKER (R328). -/
def execCommitMarker (s : State) := act s (fun d => d.commitMarker)
/-- CHECKPOINT_APPLY (R328). -/
def execCheckpointApply (cp : Checkpoint) (s : State) := act s (fun d => d.cpApply cp)
/-- CHECKPOINT_ACK (R328). -/
def execCheckpointAck (standby : Bool) (s : State) := act s (fun d => d.cpAck standby)
/-- CHECKPOINT_ABANDON (R328). -/
def execCheckpointAbandon (staging : Bool) (s : State) := act s (fun d => d.cpAbandon staging)
/-- TIME_MESSAGE (R329). -/
def execTimeMessage (s : State) := act s (fun d => d.timeMessage)
/-- RESIGN (R330). -/
def execResign (s : State) := act s (fun d => d.resign)
/-- RESIGN_MESSAGE (R330). -/
def execResignMessage (s : State) := act s (fun d => d.resignSeen)
/-- TAKEOVER (R330). -/
def execTakeover (s : State) := act s (fun d => d.takeover)
/-- TAKEOVER_EXECUTION_START (R330). -/
def execTakeoverExecutionStart (s : State) := act s (fun d => d.executionStart)
/-- HIGHER_EPOCH_REACTION (R332). -/
def execHigherEpochReaction (seen : BitVec 32) (s : State) := act s (fun d => d.higherEpoch seen.toNat)
/-- HAND_BACK_REQUEST (R334). -/
def execHandBackRequest (s : State) := act s (fun d => d.handBack)
/-- PAIR_READMIT (R334). -/
def execPairReadmit (s : State) := act s (fun d => d.pairReadmit)
/-- PAIR_SELF_TEST_END (R334). -/
def execPairSelfTestEnd (pass : Bool) (s : State) := act s (fun d => d.pairSelfTest pass)
/-- PAIR_LINK_CHANGE (R335). -/
def execPairLinkChange (up : Bool) (role : Fin 5) (s : State) := act s (fun d => d.pairLink up role)
/-- CP_BEGUN_READ (R335). -/
def execCpBegunRead (s : State) := act s (fun d => d.cpBegunRead)

end Sys2Proof.Machine
end

