-- ==== Sys2Proof/Machine/Sediment.lean ====
section
/-!
DEFINITION. The Sediment log (R304 to R312, R321, R403, R404).
-/

namespace Sys2Proof.Machine

/-! Records (R304). -/

/-- Address of record i. -/
def sedAddr (i : Nat) : Nat := 0x500A0000 + 32 * i

/-- One bit of the CRC-16 with polynomial 0x1021. -/
def crc16Step : Nat → Nat → Nat
  | 0, c => c
  | n + 1, c => crc16Step n (if 2 ^ 15 ≤ c then (2 * c % 2 ^ 16) ^^^ 0x1021 else 2 * c)

/-- CHK of bytes. -/
def crc16 (l : List Nat) : Nat := l.foldl (fun c b => crc16Step 8 (c ^^^ (b % 256 * 256))) 0xFFFF

/-- Bytes 0 to 23 of a record. -/
def sedHead (seq : Nat) (e : Event) : List Nat :=
  leBytes 4 seq ++ leBytes 8 e.tick ++ [e.phase % 256, e.sev % 4] ++ leBytes 2 e.src ++ [e.code % 256, 0, 0, 0] ++ leBytes 4 e.data

/-- Writes bytes to memory. -/
def Dev.wrBytes (d : Dev) (a : Nat) (l : List Nat) : Dev := d.wr a l.length (leNat l)

/-- Writes a record at index i with LAST (R304). -/
def Dev.sedWrite (d : Dev) (i seq : Nat) (e : Event) (last : Nat) : Dev :=
  let h := sedHead seq e
  d.wrBytes (sedAddr i) (h ++ leBytes 4 last ++ leBytes 2 0 ++ leBytes 2 (crc16 h))

/-- Whether record i is of the same event and can take a repeat (R307). -/
def Dev.sedSame (d : Dev) (e : Event) (i : Nat) : Bool :=
  let a := sedAddr i
  decide (d.rd (a + 13) 1 % 4 = e.sev % 4) && decide (d.rd (a + 14) 2 = e.src % 2 ^ 16) && decide (d.rd (a + 16) 1 = e.code % 256) &&
  decide (d.rd (a + 20) 4 = e.data % 2 ^ 32) && decide (d.rd (a + 28) 2 < 0xFFFF)

/-- The newest of the 16 latest records that takes a repeat of an event. -/
def Dev.sedRepeat (d : Dev) (e : Event) : Option Nat :=
  let n := d.get .x_SED_USED 0
  (((List.range (min 16 n)).map (fun j => n - 1 - j))).find? (fun i => d.sedSame e i)

/-- SED_STAT.USED, RESERVE and FULL follow the records in the area (R309). -/
def Dev.sedLevel (d : Dev) : Dev :=
  let n := d.get .x_SED_USED 0
  ((d.put .SED_STAT_USED 0 n).flag .SED_STAT_RESERVE 0 (decide (4080 ≤ n))).flag .SED_STAT_FULL 0 (decide (n = 4096))

/-- Whether a record of a severity may take the next index (R309, R403). -/
def Dev.sedAllowed (d : Dev) (sev : Nat) : Bool :=
  let n := d.get .x_SED_USED 0
  decide (d.get .SED_NEXT 0 ≠ 0) && (decide (n < 4080) || (decide (n < 4096) && decide (sev = 3)))

/-- Makes a record: SEQ advances and, after 0xFFFF_FFFF, is exhausted; event taps and units with SEDEN see it (R293, R297). -/
def Dev.sedRecord (d : Dev) (e : Event) (last : Nat) : Dev :=
  let seq := d.get .SED_NEXT 0
  let d := (d.sedWrite (d.get .x_SED_USED 0) seq e last).bump .x_SED_USED 0 1
  let d := (d.put .SED_NEXT 0 (if seq + 1 < 2 ^ 32 then seq + 1 else 0)).sedLevel
  let d := d.tapEvent 0x700 (e.src % 2 ^ 16 + e.code % 256 * 2 ^ 16 + e.sev % 4 * 2 ^ 24) e.tick e.phase
  forN 8 (fun d u => if d.on .DC_CFG_SEDEN u && decide (d.get .DC_CFG_FSEV u ≤ e.sev) then d.dcFire u 3 0 d.now else d) d

/-- SRC of the log's own records: the error aggregator (R305, R308). -/
def sedSrc : Nat := 0x0C02

/-- Writes the log's own pending records in the order in which they fell due, where an index is left (R404). -/
def Dev.sedOwnOut (d : Dev) : Dev :=
  d.sedOwn.foldl (fun d x => if d.sedAllowed x.1.sev then d.sedRecord x.1 x.2 else d) { d with sedOwn := [] }

/-- One of the log's own records falls due: written at once unless the log is frozen. -/
def Dev.sedOwnDue (d : Dev) (e : Event) (last : Nat) : Dev :=
  let d : Dev := { d with sedOwn := d.sedOwn ++ [(e, last)] }
  if d.on .SED_STAT_FRZ 0 || !d.on .SED_STAT_READY 0 then d else d.sedOwnOut

/-! Handling events (R307 to R309). -/

/-- The window in which events are counted now. -/
def Dev.sedWindow (d : Dev) : Dev :=
  let w := d.tick / 1000
  if d.get .x_SED_WIN 0 = w then d else (d.put .x_SED_WIN 0 w).put .x_SED_WCNT 0 0

/-- An event takes a record, or is counted in FULLD. LAST of a record without a repeat is a free value. -/
def Dev.sedNew (d : Dev) (e : Event) : Dev :=
  if d.sedAllowed e.sev then
    let (v, d) := d.fresh
    (d.sedRecord e (v % 2 ^ 32)).bump .SED_NEW 0 1
  else d.bump .SED_FULLD 0 1

/-- An event that no flood rule lets pass (R308). -/
def Dev.sedFlood (d : Dev) (e : Event) : Dev :=
  let d := if d.on .x_SED_FN 0 then d else (d.put .x_SED_FT0 0 e.tick).put .x_SED_FP0 0 e.phase
  ((d.put .x_SED_FT1 0 e.tick).put .x_SED_FN 0 (min (2 ^ 32 - 1) (d.get .x_SED_FN 0 + 1))).bump .SED_FLD 0 1

/-- An event that the log handles. -/
def Dev.sedHandle (d : Dev) (e : Event) : Dev :=
  match d.sedRepeat e with
  | some i =>
    let a := sedAddr i + 24
    ((d.wr a 4 (e.tick % 2 ^ 32)).wr (a + 4) 2 (d.rd (a + 4) 2 + 1)).bump .SED_RPT 0 1
  | none =>
    if e.sev = 3 then d.sedNew e
    else
      let flood := d.on .SED_STAT_FLOOD 0
      let d := d.sedWindow.bump .x_SED_WCNT 0 1
      let d := if !flood && decide (d.get .SED_CTL_FLOODN 0 ≤ d.get .x_SED_WCNT 0) then (d.put .SED_STAT_FLOOD 0 1).put .x_SED_FN 0 0 else d
      if flood then d.sedFlood e else d.sedNew e

/-- An event reaches the log: handled, or held while it is frozen (R310). -/
def Dev.sedArrive (d : Dev) (e : Event) : Dev :=
  let d := d.bump .SED_EVT 0 1
  if d.on .SED_STAT_FRZ 0 then
    if d.sedHold.length < 64 then Dev.put { d with sedHold := d.sedHold ++ [e] } .SED_HELD 0 (d.sedHold.length + 1)
    else d.bump .SED_FRZL 0 1
  else d.sedHandle e

/-- LOG_EVENT: the oldest event goes to the log, or into the aggregator's hold while the log is not ready (R310, R321). -/
def Dev.logEvent (d : Dev) : Dev :=
  match d.events with
  | [] => d
  | e :: t =>
    let d : Dev := { d with events := t }
    if d.on .SED_STAT_READY 0 && !d.held 2 then d.sedArrive e
    else if d.errHold.length < 64 then Dev.put { d with errHold := d.errHold ++ [e] } .ERR_HOLD_HELD 0 (d.errHold.length + 1)
    else d.bumpSat .ERR_HOLD_EVLOST 0

/-- FLOOD_WINDOW_END (R308): FLOOD ends at the end of a window whose count stayed below FLOODN. -/
def Dev.floodEnd (d : Dev) : Dev :=
  let w := d.tick / 1000
  if d.held 2 || decide (w ≤ d.get .x_SED_WIN 0) then d
  else
    let ends := d.on .SED_STAT_FLOOD 0 && decide (d.get .x_SED_WCNT 0 < d.get .SED_CTL_FLOODN 0)
    let d := d.sedWindow
    if ends then
      (d.put .SED_STAT_FLOOD 0 0).sedOwnDue
        { sev := 1, src := sedSrc, code := 0xF0, data := d.get .x_SED_FN 0, tick := d.get .x_SED_FT0 0, phase := d.get .x_SED_FP0 0 }
        (d.get .x_SED_FT1 0)
    else d

/-! Freezing (R310). -/

/-- The log writes again: own records first, then the waiting events in order. -/
def Dev.thaw (d : Dev) : Dev :=
  let d := (d.put .SED_STAT_FRZ 0 0).sedOwnOut
  let l := d.sedHold
  l.foldl Dev.sedHandle (Dev.put { d with sedHold := [] } .SED_HELD 0 0)

/-- FREEZE_SET: a write of FREEZE = 1. -/
def Dev.freezeSet (d : Dev) : Dev :=
  if d.held 2 || d.on .SED_CTL_FREEZE 0 then d
  else ((d.put .SED_CTL_FREEZE 0 1).put .SED_STAT_FRZ 0 1).put .x_SED_FRT 0 d.tick

/-- FREEZE_CLEAR: a write of FREEZE = 0; it cannot end the freeze made on PFAIL_N. -/
def Dev.freezeClear (d : Dev) : Dev :=
  if d.held 2 || !d.on .SED_CTL_FREEZE 0 then d
  else
    let d := d.put .SED_CTL_FREEZE 0 0
    if d.on .x_SED_PF 0 then d else d.thaw

/-- FREEZE_TIMEOUT: after 1,000,000 ticks. -/
def Dev.freezeTimeout (d : Dev) : Dev :=
  let t := d.get .x_SED_FRT 0 + 1000000
  if !d.held 2 && d.on .SED_CTL_FREEZE 0 && !d.on .x_SED_PF 0 && decide (t ≤ d.tick) then
    let d := (d.put .SED_CTL_FREEZE 0 0).put .SED_STAT_FRZTO 0 1
    let (v, d) := d.fresh
    let e : Event := { sev := 0, src := sedSrc, code := 0xF1, data := 0, tick := t, phase := 0 }
    Dev.thaw { d with sedOwn := d.sedOwn ++ [(e, v % 2 ^ 32)] }
  else d

/-- LOG_READY: the start-up scan ends and the held events pass to the log in order (R310, R321). NEXT is class N and the records of the
area are counted in it, so the scan finds what is kept. -/
def Dev.logReady (d : Dev) : Dev :=
  if d.held 2 || d.on .SED_STAT_READY 0 then d
  else
    let d := ((d.put .SED_STAT_READY 0 1).put .x_SED_WIN 0 (d.tick / 1000)).sedLevel
    let l := d.errHold
    l.foldl Dev.sedArrive (Dev.put { d with errHold := [] } .ERR_HOLD_HELD 0 0)

/-- A read of SED_EVT (R311). -/
def Dev.sedRead (d : Dev) : Dev :=
  d.capture [(.SED_NEW, 0, d.get .SED_NEW 0), (.SED_RPT, 0, d.get .SED_RPT 0), (.SED_FLD, 0, d.get .SED_FLD 0), (.SED_FULLD, 0, d.get .SED_FULLD 0),
    (.SED_FRZL, 0, d.get .SED_FRZL 0), (.SED_HELD, 0, d.get .SED_HELD 0)]

/-! The commands. -/

/-- LOG_EVENT (R307). -/
def execLogEvent (s : State) := act s Dev.logEvent
/-- FLOOD_WINDOW_END (R308). -/
def execFloodWindowEnd (s : State) := act s Dev.floodEnd
/-- FREEZE_SET (R310). -/
def execFreezeSet (s : State) := act s Dev.freezeSet
/-- FREEZE_CLEAR (R310). -/
def execFreezeClear (s : State) := act s Dev.freezeClear
/-- FREEZE_TIMEOUT (R310). -/
def execFreezeTimeout (s : State) := act s Dev.freezeTimeout
/-- LOG_READY (R310). -/
def execLogReady (s : State) := act s Dev.logReady
/-- SED_EVT_READ (R311). -/
def execSedEvtRead (s : State) := act s Dev.sedRead

end Sys2Proof.Machine
end

