-- ==== Sys2Proof/Machine/Power.lean ====
section
/-!
DEFINITION. Device states, clocks, supplies and temperature (R336, R338, R360 to R368, R381).
-/

namespace Sys2Proof.Machine

/-- SRC of the clock and reset manager (R305). -/
def srcCrm : Nat := srcOf 0 3 0

/-- Log CODE 0x41 is written, frozen or not, and the log freezes until the next reset (R310, R368). -/
def Dev.pfailLog (d : Dev) : Dev :=
  let d :=
    if d.on .SED_STAT_READY 0 && !d.held 2 then
      ((d.put .x_MSI_PEND 33 1).bump .SED_EVT 0 1).sedHandle
        { sev := 3, src := srcCrm, code := 0x41, data := 0, tick := d.tick, phase := d.phase }
    else d.report 3 srcCrm 0x41 0
  (d.put .SED_STAT_FRZ 0 1).put .x_SED_PF 0 1

/-- PFAIL_N is accepted: once until the next reset. -/
def Dev.pfail (d : Dev) : Dev :=
  if d.chipOn && !d.on .x_PFQ 0 then
    let d := d.pfailLog.put .x_PFQ 0 1
    if d.role = roleActive ∧ !d.on .CP_STAT_INPROG 0 then d.startCp d.tick else d
  else d

/-- PFAIL_QUIESCE: a checkpoint that is not committed is abandoned, an ACTIVE device resigns, and QUIESCE is entered. -/
def Dev.pfailQuiesce (d : Dev) : Dev :=
  if d.chipOn && d.on .x_PFQ 0 then
    let d := if d.role = roleActive ∧ d.on .CP_STAT_INPROG 0 then d.abandonCp else d
    let d := if d.role = roleActive then d.resignIfActive.takeFailed 6 else d
    d.put .PWR_CTL_STATE 0 1
  else d

/-- QUIESCE. -/
def Dev.quiesce (d : Dev) : Dev := if d.chipOn then d.put .PWR_CTL_STATE 0 1 else d

/-- Firings of slot g that the block still holds. -/
def Dev.liveTicks (d : Dev) (g : Nat) : List Nat :=
  (d.entries.filter (fun e => decide (e.slot = g))).map Entry.tick ++ (d.readyq.filter (fun r => decide (r.slot = g))).map ReadyF.tick ++
  (d.fates.filter (fun f => decide (f.slot = g) && (decide (f.kind = FateKind.inBank) || decide (f.kind = FateKind.inTime)))).map Fate.tick

/-- An enabled slot resumes at its next sample instant; firings whose cut-off has passed are withdrawn (R338). -/
def Dev.resumeSlot (d : Dev) (g : Nat) : Dev :=
  let past := (d.liveTicks g).filter (fun n => decide (d.cutoffAt g n < d.now))
  let d := past.foldl (fun d n => if (d.fate g n).isNone then (d.withdraw g n).setFate g n .missed else d) d
  let next := nextTick (if d.now % 1000 ≤ 4 * d.get .SLOT_PH_SPHASE g then d.tick else d.tick + 1) (d.period g) (d.get .SLOT_TIME_TOFF g)
  let first := ((d.liveTicks g).filter (fun n => decide (d.now ≤ d.cutoffAt g n))).foldl min next
  (d.put .x_SLOT_MISSD g (max first (d.get .x_SLOT_MISSD g))).put .x_SLOT_OUTD g (max first (d.get .x_SLOT_OUTD g))

/-- RUN: QUIESCE is left, unless PFAIL_N entered it; the service port needs an open session (R338, R388). -/
def Dev.runCmd (d : Dev) (host : Bool) : Dev :=
  if d.chipOn && (host || d.session) && decide (d.get .PWR_CTL_STATE 0 = 1) && !d.on .x_PFQ 0 then
    let d := (if host then d else d.touch).put .PWR_CTL_STATE 0 (if d.role = roleStandby then 2 else 0)
    forN 256 (fun d g => if d.on .SLOT_CTL_EN g then d.resumeSlot g else d) d
  else d

/-- DEEP: everything but the MRAM and the supervisor loses its content (R338, R339). -/
def Dev.deep (d : Dev) : Dev := if d.chipOn then d.wipe.put .x_DEEP 0 1 else d

/-- CLOCK_FAULT: `ref` says that the reference is lost, else the root PLL has lost lock (R362). -/
def Dev.clockFault (d : Dev) (ref : Bool) : Dev :=
  if d.chipOn then
    let d := (if ref then d.put .CLK_STAT_REFOK 0 0 else d).put .CLK_STAT_PLLLOCK 0 0
    (d.put .x_CLKF 0 (d.get .x_CYC 0 + 1)).deviceFault srcCrm
  else d

/-- HELD_FREQUENCY_EXPIRY: from 1 ms after the clock fault every frequency is unspecified (R362). -/
def Dev.heldFrequencyExpiry (d : Dev) : Dev :=
  if d.on .x_CLKF 0 && decide (d.get .x_CLKF 0 + 250000 ≤ d.get .x_CYC 0 + 1) then d.put .x_FRQ 0 1 else d

/-- SSC_PERIOD_START (R361). -/
def Dev.sscPeriod (d : Dev) : Dev := if d.chipOn then d.flag .CLK_STAT_SSC_ACT 0 (d.on .CLK_CTL 0) else d

/-- COMPANION_SUPPLY_LOW: a block fault of each of AB0 to AB3 (R366). -/
def Dev.companionLow (d : Dev) : Dev := (List.finRange 4).foldl (fun d b => d.blockFault (.analogue b) 0) d

/-- TJ reports the hottest sensor; TWARN is set when it reaches WLIM (R363, R381). -/
def Dev.temperature (d : Dev) (tj : Nat) : Dev :=
  if d.chipOn then
    let d := d.put .TEMP_TJ 0 tj
    if (16 * d.get .TEMP_WLIM 0 : Nat) ≤ sNat 16 tj then d.put .TEMP_TWARN 0 1 else d
  else d

/-- OVERTEMPERATURE_FAULT: at 120 °C (R381). -/
def Dev.overtemperature (d : Dev) : Dev := if d.chipOn then (d.temperature 1920).deviceFault srcCrm else d

/-! The commands. -/

/-- PFAIL_N (R368). -/
def execPfailN (s : State) := act s Dev.pfail
/-- PFAIL_QUIESCE (R368). -/
def execPfailQuiesce (s : State) := act s Dev.pfailQuiesce
/-- QUIESCE (R338). -/
def execQuiesce (s : State) := act s Dev.quiesce
/-- RUN (R338). -/
def execRun_ (host : Bool) (s : State) := act s (fun d => d.runCmd host)
/-- DEEP (R338). -/
def execDeep (s : State) := act s Dev.deep
/-- CLOCK_FAULT (R362). -/
def execClockFault (ref : Bool) (s : State) := act s (fun d => d.clockFault ref)
/-- HELD_FREQUENCY_EXPIRY (R362). -/
def execHeldFrequencyExpiry (s : State) := act s Dev.heldFrequencyExpiry
/-- SSC_PERIOD_START (R361). -/
def execSscPeriodStart (s : State) := act s Dev.sscPeriod
/-- COMPANION_SUPPLY_LOW (R366). -/
def execCompanionSupplyLow (s : State) := act s Dev.companionLow
/-- TWARN (R381). -/
def execTwarn (tj : BitVec 16) (s : State) := act s (fun d => d.temperature tj.toNat)
/-- OVERTEMPERATURE_FAULT (R381). -/
def execOvertemperatureFault (s : State) := act s Dev.overtemperature

end Sys2Proof.Machine
end

