-- ==== Sys2Proof/Machine/Service.lean ====
section
/-!
DEFINITION. The service port (R385, R387 to R391).
-/

namespace Sys2Proof.Machine

/-- SERVICE_CHALLENGE: a fresh nonce of 48 bytes, a free value (R388). -/
def Dev.challenge (d : Dev) : Dev :=
  if d.chipOn && !d.on .SVC_STAT_LOCKED 0 then
    let r := d.fresh
    let d' : Dev := r.2
    ((d'.put .x_NONCE 0 r.1).put .x_CHAL 0 1).touch
  else d

/-- SERVICE_RESPONSE: a signature over the nonce. A valid one opens a session, a wrong one closes the port (R388). -/
def Dev.response (d : Dev) (sig : Nat) : Dev :=
  if d.chipOn && !d.on .SVC_STAT_LOCKED 0 && d.on .x_CHAL 0 then
    let d := (d.put .x_CHAL 0 0).touch
    if Config.authentic 1 (d.get .x_NONCE 0 * 2 ^ 768 + sig) then d.put .SVC_STAT_OPEN 0 1
    else (d.put .SVC_STAT_LOCKED 0 1).put .x_SVC_L 0 (d.get .x_CYC 0)
  else d

/-- The end of a session: every force entry and the test multiplexer are released (R390, R391). -/
def Dev.endSession (d : Dev) : Dev :=
  let d := forN 32 (fun d i => d.put .FORCE_CTL_EN i 0) d
  (forN 8 (fun d i => d.put .x_TMUX i 0) d).put .SVC_STAT_OPEN 0 0

/-- SVC_END. -/
def Dev.svcEnd (d : Dev) : Dev := if d.chipOn && d.session then d.endSession else d

/-- SESSION_TIMEOUT: 600 s without a service transfer. -/
def Dev.sessionTimeout (d : Dev) : Dev :=
  if d.chipOn && d.on .SVC_STAT_OPEN 0 && decide (d.get .x_SVC_T 0 + 150000000000 ≤ d.get .x_CYC 0) then d.endSession else d

/-- PORT_LOCK_EXPIRY: 10 s after a wrong signature. -/
def Dev.portLockExpiry (d : Dev) : Dev :=
  if d.chipOn && d.on .SVC_STAT_LOCKED 0 && decide (d.get .x_SVC_L 0 + 2500000000 ≤ d.get .x_CYC 0) then d.put .SVC_STAT_LOCKED 0 0 else d

/-- The log area (R304). -/
def inLog (a : Nat) : Bool := decide (0x500A0000 ≤ a) && decide (a < 0x500C0000)

/-- CLRLOG (R389). LAST of its record is a free value. -/
def Dev.clrlog (d : Dev) : Dev :=
  if d.chipOn && d.session && !d.held 2 && !d.on .SED_STAT_FRZ 0 && d.on .SED_STAT_READY 0 && d.on .SED_NEXT 0 then
    let d := ((d.touch.dropMem inLog).put .x_SED_USED 0 0).sedLevel
    let r := d.fresh
    let d' : Dev := r.2
    let e : Event := { sev := 0, src := sedSrc, code := 0xF2, data := d.get .SED_NEXT 0 - 1, tick := d.tick, phase := d.phase }
    (((d'.put .x_MSI_PEND 33 1).bump .SED_EVT 0 1).sedRecord e (r.1 % 2 ^ 32)).bump .SED_NEW 0 1
  else d

/-- Region of an image region code, as x_HELD numbers regions. -/
def heldOf (r : Nat) : Nat := (r + 4) % 5

/-- ROLLFWD of image region r; where a fuse write fails, how many fuses were blown before it is a free value (R385). -/
def Dev.rollfwd (d : Dev) (r : Nat) (fail : Bool) : Dev :=
  if d.chipOn && d.session && !d.held (heldOf r) && d.on .x_ACT r then
    let n := d.get .x_ARB r
    let v := d.fbyte (slotBase r (d.get .x_ACT r - 1) + 5)
    let x := d.fresh
    let d' : Dev := x.2
    let d := d'.touch
    if v ≤ n then d.put .SVC_STAT_ARB 0 n
    else if fail then
      let m := n + x.1 % (v - n)
      ((d.put .x_ARB r m).put .SVC_STAT_ARB 0 m).put .SVC_STAT_RFAIL 0 1
    else (d.put .x_ARB r v).put .SVC_STAT_ARB 0 v
  else d

/-- FORCE: a service write of a force entry (R390). -/
def Dev.force (d : Dev) (i : Nat) (en : Bool) (key val : Nat) : Dev :=
  if d.chipOn && d.session then ((d.touch.put .FORCE_CTL_KEY i key).put .FORCE_VAL i val).flag .FORCE_CTL_EN i en else d

/-- TEST_MULTIPLEXER_SELECTION: signal `code` of region r on a pin, or none (R391). -/
def Dev.testMux (d : Dev) (pin : Nat) (off : Bool) (r code : Nat) : Dev :=
  if d.chipOn && d.session then d.touch.put .x_TMUX pin (if off then 0 else 1 + 256 * r + code) else d

/-! The commands. -/

/-- SERVICE_CHALLENGE (R388). -/
def execServiceChallenge (s : State) := act s Dev.challenge
/-- SERVICE_RESPONSE (R388). -/
def execServiceResponse (sig : BitVec 768) (s : State) := act s (fun d => d.response sig.toNat)
/-- SVC_END (R388). -/
def execSvcEnd (s : State) := act s Dev.svcEnd
/-- SESSION_TIMEOUT (R388). -/
def execSessionTimeout (s : State) := act s Dev.sessionTimeout
/-- PORT_LOCK_EXPIRY (R388). -/
def execPortLockExpiry (s : State) := act s Dev.portLockExpiry
/-- CLRLOG (R389). -/
def execClrlog (s : State) := act s Dev.clrlog
/-- ROLLFWD (R385). -/
def execRollfwd (r : Fin 5) (fail : Bool) (s : State) := act s (fun d => d.rollfwd r fail)
/-- FORCE (R390). -/
def execForce (i : Fin 32) (en : Bool) (key : BitVec 16) (val : BitVec 32) (s : State) := act s (fun d => d.force i en key.toNat val.toNat)
/-- TEST_MULTIPLEXER_SELECTION (R391). -/
def execTestMultiplexerSelection (pin : Fin 8) (off : Bool) (r : Fin 5) (code : BitVec 8) (s : State) := act s (fun d => d.testMux pin off r code.toNat)

end Sys2Proof.Machine
end

