-- ==== Sys2Proof/Machine/TaskSys.lean ====
section
/-!
DEFINITION. Task instructions that call the scheduler (R113, R119 to R126, R129 to R135) and the scheduler's own events.
-/

namespace Sys2Proof.Machine

/-! Event flags (R120, R121). -/

/-- FSET: a task number above 63 is a fault (R113, R115, R120). -/
def execFset (k : Fin 4) (xa xb : BitVec 5) (s : State) :=
  act s (fun d => d.issueT k true 4 (fun n d =>
    let t := ((d.ctx n).rX xa).toNat
    if t > 63 then d.faultBack n 0x05 else d.setFlags t (((d.ctx n).rX xb).toNat % 2 ^ 32)))
/-- FCLR (R113). -/
def execFclr (k : Fin 4) (xb : BitVec 5) (s : State) :=
  act s (fun d => d.issueT k true 4 (fun n d =>
    d.put .TASK_FLAGS n (d.get .TASK_FLAGS n &&& (2 ^ 32 - 1 - ((d.ctx n).rX xb).toNat % 2 ^ 32))))
/-- FGET (R113). -/
def execFget (k : Fin 4) (xd : BitVec 5) (s : State) :=
  act s (fun d => d.issueT k true 4 (fun n d => d.setX n xd (BitVec.ofNat 64 (d.get .TASK_FLAGS n))))

/-- A timed wait (R120, R122): the tick of the timeout, or no limit for 0xFFFF_FFFF. -/
def Dev.waitFor (d : Dev) (n st t : Nat) (w : Wait) : Dev :=
  let d := d.block n st w
  if t = 0xFFFFFFFF then d else d.setWake n (d.tick + t)

/-- The four flag waits (R120). -/
def Dev.fwait (d : Dev) (k : Nat) (all clear : Bool) (xd xa xb : BitVec 5) : Dev :=
  d.issueT k true 4 (fun n d =>
    let m := ((d.ctx n).rX xa).toNat % 2 ^ 32
    let t := ((d.ctx n).rX xb).toNat % 2 ^ 32
    if flagCond all (d.get .TASK_FLAGS n) m then d.flagDone n m clear false xd
    else if t = 0 then d.flagDone n m clear true xd
    else (d.put .TASK_WMASK n m).waitFor n tsWaitFlag t (.flag all clear xd))

/-- FWAITO. -/
def execFwaito (k : Fin 4) (xd xa xb : BitVec 5) (s : State) := act s (fun d => d.fwait k false false xd xa xb)
/-- FWAITA. -/
def execFwaita (k : Fin 4) (xd xa xb : BitVec 5) (s : State) := act s (fun d => d.fwait k true false xd xa xb)
/-- FWAITOC. -/
def execFwaitoc (k : Fin 4) (xd xa xb : BitVec 5) (s : State) := act s (fun d => d.fwait k false true xd xa xb)
/-- FWAITAC. -/
def execFwaitac (k : Fin 4) (xd xa xb : BitVec 5) (s : State) := act s (fun d => d.fwait k true true xd xa xb)

/-- Ends the flag wait of task n when its condition holds (R120). -/
def Dev.flagWake (d : Dev) (n : Nat) : Dev :=
  match (d.ctx n).wait with
  | .flag all clear rd =>
    let m := d.get .TASK_WMASK n
    if d.tstate n = tsWaitFlag && flagCond all (d.get .TASK_FLAGS n) m then (d.flagDone n m clear false rd).ready n else d
  | _ => d

/-- FLAG_WAIT_WAKE (R120). -/
def execFlagWaitWake (n : Fin 64) (s : State) := act s (fun d => if d.progRuns then d.flagWake n else d)

/-! Delays (R122, R123). -/

/-- DLY: 0 encodes 2^32 ticks. -/
def execDly (k : Fin 4) (xa : BitVec 5) (s : State) :=
  act s (fun d => d.issueT k true 4 (fun n d =>
    let t := ((d.ctx n).rX xa).toNat % 2 ^ 32
    (d.block n tsDelay .delay).setWake n (d.tick + (if t = 0 then 2 ^ 32 else t))))
/-- DLYU: the first tick after now whose low 32 bits match. -/
def execDlyu (k : Fin 4) (xa : BitVec 5) (s : State) :=
  act s (fun d => d.issueT k true 4 (fun n d =>
    (d.block n tsDelay .delay).setWake n (nextTick (d.tick + 1) (2 ^ 32) (((d.ctx n).rX xa).toNat % 2 ^ 32))))
/-- YIELD: to the tail of its level. -/
def execYield (k : Fin 4) (s : State) := act s (fun d => d.issueT k true 4 (fun n d => (d.leaveCore n).ready n))
/-- TNUM. -/
def execTnum (k : Fin 4) (xd : BitVec 5) (s : State) :=
  act s (fun d => d.issueT k true 2 (fun n d => d.setX n xd (BitVec.ofNat 64 d.tick)))

/-- Serves the first waiting task of a queue that can be served: a reader an item, a writer a place (R129). -/
def Dev.serveQueue (d : Dev) (q : Nat) : Dev :=
  let readers := d.waitq.filter (fun n => match (d.ctx n).wait with
    | .pop q' _ => decide (q' = q)
    | _ => false)
  let writers := d.waitq.filter (fun n => match (d.ctx n).wait with
    | .push q' _ => decide (q' = q) && (d.canPush q n || d.oversized q n)
    | _ => false)
  match (if d.canPop q then d.bestTask readers else none), d.bestTask writers with
  | some n, _ =>
    match (d.ctx n).wait with
    | .pop _ rd => (d.doPop q n rd).ready n
    | _ => d
  | none, some n =>
    match (d.ctx n).wait with
    | .push _ item => (d.doPush q n item).ready n
    | _ => d
  | none, none => d

/-- The delay or timeout of task n ends (R120, R121, R129): a condition met in the same cycle wins. -/
def Dev.expire (d : Dev) (n : Nat) : Dev :=
  match (d.ctx n).wait with
  | .flag all _ rd =>
    let m := d.get .TASK_WMASK n
    if flagCond all (d.get .TASK_FLAGS n) m then d.flagWake n else (d.flagDone n m false true rd).ready n
  | .push _ _ => (d.srBit n srTO true).ready n
  | .pop _ _ => (d.srBit n srTO true).ready n
  | _ => d.ready n

/-- DELAY_RELEASE: one expired delay or timeout of the core, in ascending PRIO, then task number (R123). An item or place that is
there goes to the waiter first (R129). -/
def Dev.delayRelease (d : Dev) (k : Nat) : Dev :=
  let due := (List.range 64).filter (fun n => d.on .x_TIMED n && decide (d.get .TASK_CTL_CORE n = k) && decide (d.get .x_WAKE n ≤ d.tick) &&
    (decide (d.tstate n = tsDelay) || decide (d.tstate n = tsWaitFlag) || decide (d.tstate n = tsWaitQueue)))
  if !d.progRuns || d.stopped then d
  else match d.bestTask due with
    | none => d
    | some n =>
      let d1 := match (d.ctx n).wait with
        | .push q _ => d.serveQueue q
        | .pop q _ => d.serveQueue q
        | _ => d
      if d1.tstate n = tsWaitQueue ∨ d1.tstate n = tsDelay ∨ d1.tstate n = tsWaitFlag then d1.expire n else d1

/-- DELAY_RELEASE (R123). -/
def execDelayRelease (k : Fin 4) (s : State) := act s (fun d => d.delayRelease k)

/-! EXIT (R136, R142). -/

/-- EXIT: publishes under OMODE = 0, notes the longest cycle, and the task becomes DORMANT. -/
def Dev.exitTask (d : Dev) (n : Nat) : Dev :=
  let cyc := d.on .CYC_CTL_EN n
  let d := if cyc && !d.on .CYC_CTL_OMODE n then d.publish n else d
  let t := (d.now - 1000 * d.get .x_CYCST n + 999) / 1000
  let d := if cyc && decide (d.get .CYC_MAXT n < t) then d.put .CYC_MAXT n (min t (2 ^ 24 - 1)) else d
  d.dormant n
/-- EXIT (R136). -/
def execExit (k : Fin 4) (s : State) := act s (fun d => d.issueT k true 4 (fun n d => d.exitTask n))

/-! Queues (R129, R130). -/

/-- The queue an instruction names: XA[5:0]. -/
def Dev.qOf (d : Dev) (n : Nat) (xa : BitVec 5) : Nat := ((d.ctx n).rX xa).toNat % 64

/-- A queue instruction; a queue with EN = 0 is a fault (R115). -/
def Dev.issueQ (d : Dev) (k : Nat) (xa : BitVec 5) (eff : Nat → Nat → Dev → Dev) : Dev :=
  d.issueT k true 4 (fun n d =>
    let q := d.qOf n xa
    if d.on .Q_CFG_EN q then eff n q d else d.faultBack n 0x06)

/-- A wait of a queue instruction with the timeout of XC: 0 polls (R129). -/
def Dev.queueWait (d : Dev) (n t : Nat) (w : Wait) : Dev :=
  if t = 0 then d.srBit n srTO true else d.waitFor n tsWaitQueue t w

/-- QPUSH. -/
def execQpush (k : Fin 4) (xa xb xc : BitVec 5) (s : State) :=
  act s (fun d => d.issueQ k xa (fun n q d =>
    let item := (d.ctx n).rX xb
    if d.oversized q n then
      ((((d.bump .Q_IN q 1).bump .Q_RWD q 1).qrewind q).put .Q_STAT_OVSZ q 1).srBit n srTO false
    else if d.canPush q n then d.doPush q n item
    else
      let x := d.queue q
      let d := if x.level + x.unc = d.qcap q then d.put .Q_STAT_FULLSEEN q 1 else d
      d.queueWait n (((d.ctx n).rX xc).toNat % 2 ^ 32) (.push q item)))
/-- QPOP. -/
def execQpop (k : Fin 4) (xd xa xc : BitVec 5) (s : State) :=
  act s (fun d => d.issueQ k xa (fun n q d =>
    if d.canPop q then d.doPop q n xd else d.queueWait n (((d.ctx n).rX xc).toNat % 2 ^ 32) (.pop q xd)))
/-- QCMT. -/
def execQcmt (k : Fin 4) (xa : BitVec 5) (s : State) := act s (fun d => d.issueQ k xa (fun _ q d => d.qcommit q))
/-- QRWD. -/
def execQrwd (k : Fin 4) (xa : BitVec 5) (s : State) := act s (fun d => d.issueQ k xa (fun _ q d => d.qrewind q))
/-- QDROP. -/
def execQdrop (k : Fin 4) (xd xa : BitVec 5) (s : State) :=
  act s (fun d => d.issueQ k xa (fun n q d =>
    let r := d.qdrop q
    r.2.setX n xd (BitVec.ofNat 64 r.1)))
/-- QLVL. -/
def execQlvl (k : Fin 4) (xd xa : BitVec 5) (s : State) :=
  act s (fun d => d.issueQ k xa (fun n q d => d.setX n xd (BitVec.ofNat 64 (d.queue q).level)))
/-- QUEUE_WAITER_SERVED (R129). -/
def execQueueWaiterServed (q : Fin 64) (s : State) := act s (fun d => if d.progRuns && !d.stopped then d.serveQueue q else d)

/-- A read of Q_IN (R131). -/
def Dev.queueInRead (d : Dev) (q : Nat) : Dev :=
  d.capture [(.Q_OUT, q, d.get .Q_OUT q), (.Q_DROP, q, d.get .Q_DROP q), (.Q_RWD, q, d.get .Q_RWD q),
    (.Q_LEVEL_LEVEL, q, (d.queue q).level), (.Q_LEVEL_UNCOMMIT, q, (d.queue q).unc)]
/-- QUEUE_IN_READ (R131). -/
def execQueueInRead (q : Fin 64) (s : State) := act s (fun d => d.queueInRead q)

/-! Token port and result registers (R132 to R135). -/

/-- TOK and TOKT with the firing tag given; a reserved TYPE is a fault, a full buffer makes the task wait (R132, R133). -/
def Dev.tok (d : Dev) (k : Nat) (xa xb : BitVec 5) (tag : Dev → Nat → Nat) : Dev :=
  d.issueT k true 4 (fun n d =>
    let b := ((d.ctx n).rX xb).toNat
    if !tyValid (b / 256 % 256) then d.faultBack n 0x01
    else
      let t : Token :=
        { dest := BitVec.ofNat 16 (b / 65536), ty := BitVec.ofNat 8 (b / 256), qual := BitVec.ofNat 8 b,
          val := ((d.ctx n).rX xa).truncate 32, ftag := BitVec.ofNat 16 (tag d n) }
      if d.waitingAt (.port k) ≥ 16 then d.block n tsWaitQueue (.port t) else d.portLaunch k t)

/-- TOK: FTAG of the next tick. -/
def execTok (k : Fin 4) (xa xb : BitVec 5) (s : State) := act s (fun d => d.tok k xa xb (fun d _ => d.tick + 1))
/-- TOKT: FTAG from XC. -/
def execTokt (k : Fin 4) (xa xb xc : BitVec 5) (s : State) := act s (fun d => d.tok k xa xb (fun d n => ((d.ctx n).rX xc).toNat))

/-- TOKEN_PORT_PLACE_FREED: the TOK that waits longest at the port completes (R133). -/
def execTokenPortPlaceFreed (k : Fin 4) (s : State) :=
  act s (fun d =>
    let w := d.waitq.find? (fun n => decide (d.get .TASK_CTL_CORE n = k.val) && (match (d.ctx n).wait with
      | .port _ => true
      | _ => false))
    match w with
    | none => d
    | some n =>
      match (d.ctx n).wait with
      | .port t => if d.progRuns && decide (d.waitingAt (.port k) < 16) then (d.portLaunch k t).ready n else d
      | _ => d)

/-- TOKEN_AT_RESULT_REGISTER (R134, R135). -/
def Dev.tokenAtResult (d : Dev) (k : Nat) : Dev :=
  if d.held 1 then d
  else match d.arrival k (fun f => decide (f.tok.dest.toNat / 4096 = 2)) with
    | none => d
    | some f =>
      let r := f.tok.dest.toNat % 512
      let d : Dev := { d with net := d.net.eraseIdx k }
      let d := ((d.put .TR_VAL r f.tok.val.toNat).put .TR_INFO_FTAG r f.tok.ftag.toNat).put .TR_INFO_TYPE r f.tok.ty.toNat
      let d := (d.put .TR_INFO_QUAL r f.tok.qual.toNat).bump .TR_CNT r 1
      if d.on .TR_NOTE_EN r then d.setFlags (d.get .TR_NOTE_TASK r) (2 ^ d.get .TR_NOTE_FLAG r) else d
/-- TOKEN_AT_RESULT_REGISTER (R134). -/
def execTokenAtResultRegister (k : Nat) (s : State) := act s (fun d => d.tokenAtResult k)

/-! Timer instances (R124 to R126). -/

/-- Elapsed time of a running instance in its UNIT (R125). -/
def Dev.timElapsed (d : Dev) (i : Nat) : Nat :=
  let e := d.tick - d.get .x_TIMST i
  if d.on .TIM_CFG_UNIT i then e / 1000 else e

/-- Starts timing (R125). -/
def Dev.timStart (d : Dev) (i : Nat) (run q : Bool) : Dev :=
  ((((d.put .x_TIMST i d.tick).put .x_TIMNT i 0).flag .TIM_CFG_RUN i run).put .TIM_ET i 0).flag .TIM_CFG_Q i q

/-- The table of R125 for a TYPE other than FREE. -/
def Dev.timEval (d : Dev) (i : Nat) (inp : Bool) : Dev :=
  let last := d.on .TIM_CFG_IN_LAST i
  let run := d.on .TIM_CFG_RUN i
  let pt := d.get .TIM_PT i
  let et := min (d.timElapsed i) pt
  let d1 :=
    match d.get .TIM_CFG_TYPE i with
    | 1 =>
      if inp && !last then d.timStart i true (decide (pt = 0))
      else if inp && run then (d.put .TIM_ET i et).flag .TIM_CFG_Q i (decide (et = pt))
      else if !inp then ((d.put .TIM_CFG_RUN i 0).put .TIM_ET i 0).put .TIM_CFG_Q i 0
      else d
    | 2 =>
      if inp then ((d.put .TIM_CFG_RUN i 0).put .TIM_ET i 0).put .TIM_CFG_Q i 1
      else if last then d.timStart i (decide (0 < pt)) (decide (0 < pt))
      else if run then ((d.put .TIM_ET i et).flag .TIM_CFG_Q i (decide (et < pt))).flag .TIM_CFG_RUN i (decide (et < pt))
      else d
    | 3 =>
      if run then ((d.put .TIM_ET i et).flag .TIM_CFG_Q i (decide (et < pt))).flag .TIM_CFG_RUN i (decide (et < pt))
      else if inp && !last && !d.on .TIM_CFG_Q i then d.timStart i (decide (0 < pt)) (decide (0 < pt))
      else if !inp then (d.put .TIM_ET i 0).put .TIM_CFG_Q i 0
      else d
    | _ => d
  d1.flag .TIM_CFG_IN_LAST i inp

/-- TMR: XD := Q × 2^32 + ET; an index above 1,023 or a FREE instance is a fault (R115, R125). -/
def execTmr (k : Fin 4) (xd xa xb : BitVec 5) (s : State) :=
  act s (fun d => d.issueT k true 4 (fun n d =>
    let i := ((d.ctx n).rX xa).toNat
    if i > 1023 ∨ d.get .TIM_CFG_TYPE i = 0 then d.faultBack n 0x05
    else
      let d := d.timEval i (bitOf ((d.ctx n).rX xb) 0)
      d.setX n xd (BitVec.ofNat 64 (d.get .TIM_CFG_Q i * 2 ^ 32 + d.get .TIM_ET i))))

/-- TIMER_NOTIFICATION: once per timing, at the tick at which the elapsed time reaches PT (R126). -/
def execTimerNotification (i : Fin 1024) (s : State) :=
  act s (fun d =>
    if !d.held 1 && d.clocked && d.on .TIM_CFG_RUN i && d.on .TIM_CFG_NOTE i && !d.on .x_TIMNT i && decide (d.get .TIM_PT i ≤ d.timElapsed i) then
      (d.put .x_TIMNT i 1).setFlags (d.get .TIM_CFG_NTASK i) (2 ^ d.get .TIM_CFG_NFLAG i)
    else d)

/-! Scheduling (R118, R119). -/

/-- TASK_PREEMPTION: the running task returns to the front of its level (R118). -/
def execTaskPreemption (k : Fin 4) (s : State) :=
  act s (fun d =>
    match d.running k with
    | some n =>
      if d.progRuns && !d.stopped && d.mustPreemptT k && !d.on .TASK_CTL_REQ_KILL n then
        let d := (d.put .x_RUNT k 0).put .TASK_STAT_STATE n tsReady
        { d with readyt := n :: d.readyt }
      else d
    | none => d)
/-- TASK_CONTEXT_SWITCH: the next READY task of an idle core runs (R118). -/
def execTaskContextSwitch (k : Fin 4) (s : State) :=
  act s (fun d =>
    if d.progRuns && !d.stopped && (d.running k).isNone then
      match d.nextReady k with
      | some n =>
        let d : Dev := { d with readyt := d.readyt.erase n }
        (d.put .x_RUNT k (n + 1)).put .TASK_STAT_STATE n tsRunning
      | none => d
    else d)

/-- A write of 1 to REQ_START (R119, R136). -/
def Dev.reqStart (d : Dev) (n : Nat) : Dev :=
  if d.tstate n = tsDormant ∧ !d.on .CYC_CTL_EN n ∧ !d.held 1 then d.start n else d
/-- A write of 1 to REQ_KILL (R119). -/
def Dev.reqKill (d : Dev) (n : Nat) : Dev :=
  if d.tstate n = tsRunning then d.put .TASK_CTL_REQ_KILL n 1
  else if d.tstate n = tsDormant then d else d.kill n
/-- REQ_START (R119). -/
def execReqStart (n : Fin 64) (s : State) := act s (fun d => d.reqStart n)
/-- REQ_KILL (R119). -/
def execReqKill (n : Fin 64) (s : State) := act s (fun d => d.reqKill n)
/-- KILL_AT_BOUNDARY (R119). -/
def execKillAtBoundary (n : Fin 64) (s : State) :=
  act s (fun d => if d.on .TASK_CTL_REQ_KILL n && decide (d.tstate n = tsRunning) then d.kill n else d)
/-- TASK_FSET: a write to TASKn_FSET (R117, R120). -/
def execTaskFset (n : Fin 64) (bits : BitVec 32) (s : State) := act s (fun d => d.setFlags n bits.toNat)

end Sys2Proof.Machine
end

