-- ==== Sys2Proof/Machine/AddrMap.lean ====
section
/-!
DEFINITION. The address map: areas, memory, registers by address, and what an access is answered with (R28 to R34, R398).
-/

namespace Sys2Proof.Machine

/-- The area that holds a byte: 0 program, 1 loop, 2 field, 3 safety window, 4 chip control, 5 MRAM, 6 LPDDR4X up to the fitted size. -/
def mapArea (a : Nat) : Option Nat :=
  if a < 0x10000000 then some 0
  else if a < 0x20000000 then some 1
  else if a < 0x30000000 then some 2
  else if a < 0x31000000 then some 3
  else if a < 0x40000000 then none
  else if a < 0x50000000 then some 4
  else if a < 0x50100000 then some 5
  else if inLpddr a 1 then some 6
  else none

/-- The region whose reset closes an area (R17): the numbers of `Rgn`, 4 for the chip-level units and what belongs to no region. -/
def areaRegion (area : Nat) : Nat :=
  if area = 0 then 1 else if area = 1 then 0 else if area = 2 then 2 else if area = 3 then 3 else 4

/-- The data and instruction memories of the cells in their windows (R29). -/
def inCellMem (a : Nat) : Bool :=
  decide (0x10000000 ≤ a) && decide (a < 0x14000000) && decide (a % 0x1000000 < 0xC00000) && decide (a % 0x200000 < 0x18000)

/-- The data memory of a cell and a word of it, by address. -/
def cellWordAt (a : Nat) : Option (Nat × Nat) :=
  if inCellMem a ∧ a % 0x200000 < 0x10000 then
    some (6 * ((a - 0x10000000) / 0x1000000) + a % 0x1000000 / 0x200000, a % 0x200000 / 4)
  else none

/-- The message buffer of a CAN controller that holds an address (R267, R274). -/
def canBufAt (a : Nat) : Option (Nat × Nat) :=
  let c := (a - 0x21500000) / 0x4000
  let o := (a - 0x21500000) % 0x4000
  if 0x21500000 ≤ a ∧ c < 4 ∧ 0x2000 ≤ o ∧ o < 0x2000 + 32 * 0x50 then some (c, (o - 0x2000) / 0x50) else none

/-- Memory of the field region: capture memory, cam memories, CAN matrix and message memories, station images. -/
def inFieldMem (a : Nat) : Bool :=
  (decide (0x20000000 ≤ a) && decide (a < 0x20800000)) ||
  (decide (0x21100000 ≤ a) && decide (a < 0x21140000) && decide (a % 0x10000 ≥ 0x8000)) ||
  inInImage a || inOutImage a ||
  (decide (0x21500000 ≤ a) && decide (a < 0x21510000) && decide (0x1000 ≤ a % 0x4000) && decide (a % 0x4000 < 0x1800)) ||
  (canBufAt a).isSome

/-- Memory in the sense of R398. -/
def inMem (a : Nat) : Bool :=
  decide (a < 0x600000) || (decide (0x800000 ≤ a) && decide (a < 0x900000)) || (decide (0x1100000 ≤ a) && decide (a < 0x1140000)) ||
  inCellMem a || inFieldMem a || (decide (0x50000000 ≤ a) && decide (a < 0x50100000)) || inLpddr a 1

/-! Registers by address. -/

/-- The instance number that an offset from a register's first address gives. -/
def dimIndex : List (Nat × Nat × Nat) → Nat → Option Nat
  | [], off => if off = 0 then some 0 else none
  | (n, stride, wt) :: t, off => if off / stride < n then (dimIndex t (off % stride)).map (· + off / stride * wt) else none

/-- The first field of a register, which names it. -/
def RegDesc.key (r : RegDesc) : F := r.fields.headD .IDENT_PART

/-- Registers of an output stage. -/
def isStageReg (f : F) : Bool :=
  [F.OS_CFG_OWNER, .OS_SAFE, .OS_HLIM, .OS_HRATE, .OS_VAL, .OS_STAT_LATE, .OS_MAP_LINK, .OS_TMM].contains f

/-- The register and instance whose word is at an address. Numbers that name no output stage have no registers (R89). -/
def regAt (a : Nat) : Option (RegDesc × Nat) :=
  regTable.findSome? (fun r =>
    if r.base ≤ a then
      match dimIndex r.dims (a - r.base) with
      | some i => if isStageReg r.key && !isStage i then none else some (r, r.idx0 + i)
      | none => none
    else none)

/-- Registers that read 0 and ignore writes: the pulse registers of E0 to E23 (R173), the maps of stages below 0x400 (R90). -/
def deadReg (f : F) (i : Nat) : Bool :=
  (decide (i < 24) && [F.E_PCFG_PEN, .E_PRAT_NUM, .E_POUT, .E_PLAG, .E_PACC].contains f) || (decide (f = .OS_MAP_LINK) && decide (i < 0x400))

/-! Accesses (R28, R31, R398). -/

/-- What an access of n bytes meets. -/
inductive Access where
  /-- Answered with an error. -/
  | err
  /-- Memory, not aligned to its size. -/
  | unaligned
  /-- A register word. -/
  | reg (r : RegDesc) (i : Nat)
  /-- VAL and INFO of a result register in one load (R134). -/
  | result (i : Nat)
  /-- Memory. -/
  | mem
  /-- A place of an area that holds neither a register nor memory: the spec does not say what it does. -/
  | hole
  deriving DecidableEq, Repr

/-- The words of n bytes at an address. -/
def wordsOf (a n : Nat) : List Nat := (List.range ((a + n - 1) / 4 - a / 4 + 1)).map (fun j => 4 * (a / 4 + j))

/-- Classifies an access. Writes of the MRAM beyond the retentive area come from writers that R31 does not name. -/
def access (write : Bool) (a n : Nat) : Access :=
  match mapArea a with
  | none => .err
  | some k =>
    if mapArea (a + n - 1) ≠ some k then .err
    else if write ∧ k = 3 then .err
    else if (wordsOf a n).any (fun w => (regAt w).isSome) then
      match regAt a with
      | some (r, i) =>
        if n = 4 then .reg r i
        else if !write && decide (n = 8) && decide (a % 8 = 0) && decide (r.key = .TR_VAL) then .result i
        else .err
      | none => .err
    else if inMem a then
      if a % n ≠ 0 then .unaligned
      else if write ∧ k = 5 ∧ 0x50080000 ≤ a then .err
      else .mem
    else .hole

/-- An access is answered with an error: ACC_ERR counts it and records the first (R32, R33); the event is 0x30. -/
def Dev.accErr (d : Dev) (source a : Nat) : Dev :=
  let d := d.bumpSat .ACC_ERR_COUNT 0
  let d := if d.on .ACC_ERR_STICKY 0 then d
    else (((d.put .ACC_ERR_SOURCE 0 source).put .ACC_ERR_ADDR_LO 0 a).put .ACC_ERR_ADDR_HI 0 (a / 2 ^ 32)).put .ACC_ERR_STICKY 0 1
  d.report 1 (srcOf 0 3 1) 0x30 source

/-! Memory. -/

/-- A byte of a station image takes writes: those of output images that no enabled output stage maps (R252). -/
def Dev.imageByteOpen (d : Dev) (a : Nat) : Bool :=
  inOutImage a && !d.stageMaps ((a - 0x21300000) / 0x2000) ((a % 0x2000 - 0x800) / 256) (a % 256) 1

/-- Writes n bytes of memory from outside a cell. Message memory of a requested buffer takes no write (R267); a word of a cell's data
memory is also copied as R315 and R318 say. -/
def Dev.memWrite (d : Dev) (a n v : Nat) : Dev :=
  match canBufAt a with
  | some (c, b) => if d.canReq c b then d else d.wr a n v
  | none =>
    if inInImage a || inOutImage a then
      forN n (fun d i => if d.imageByteOpen (a + i) then d.setByte (a + i) (BitVec.ofNat 8 (v / 256 ^ i)) else d) d
    else
    let d := d.wr a n v
    (wordsOf a n).foldl (fun d w =>
      match cellWordAt w with
      | some (c, j) => d.mirrorWrite c j (d.rd w 4)
      | none => d) d

/-- A region that is not in reset answers; an area of a held region takes writes as R337 leaves them. -/
def Dev.areaOpen (d : Dev) (a : Nat) : Bool := d.regOpen (areaRegion ((mapArea a).getD 4))

end Sys2Proof.Machine
end

