-- ==== Sys2Proof/Machine/Xspi.lean ====
section
/-!
DEFINITION. The xSPI port (R281 to R283). Data move when an operation starts; XSPI_DONE ends it.
-/

namespace Sys2Proof.Machine

/-- The buffer of the operation. -/
def Dev.xspiBuf (d : Dev) : Nat := d.get .XSPI_BUF_LO 0 + 2 ^ 32 * d.get .XSPI_BUF_HI 0

/-- A flash range that touches the active image slot of a region (R282, R382). -/
def Dev.touchesActive (d : Dev) (a n : Nat) : Bool :=
  (List.range 5).any (fun r =>
    let s := d.get .x_ACT r
    decide (0 < s) && decide (a < slotBase r (s - 1) + 0x1000000) && decide (slotBase r (s - 1) < a + n))

/-- A byte access of BUF, answered with an error: R28, a register, or a write of the MRAM, which R31 gives the port no right to. -/
def bufErr (write : Bool) (a : Nat) : Bool :=
  match access write a 1 with
  | .mem => write && decide (mapArea a = some 5)
  | .hole => false
  | _ => true

/-- The first byte of BUF whose access is answered with an error. -/
def firstBufErr (write : Bool) (a n : Nat) : Option Nat := ((List.range n).find? (fun i => bufErr write (a + i))).map (a + ·)

/-- GO clears; a refused operation touches nothing. -/
def Dev.xspiRefuse (d : Dev) (err : Nat) : Dev := (d.put .XSPI_CTL_GO 0 0).put .XSPI_STAT_ERR 0 err

/-- An access of BUF ends the operation with ERR 0x04. The spec names no SOURCE for the port: a free value. -/
def Dev.xspiBusErr (d : Dev) (a : Nat) : Dev :=
  let x := d.fresh
  let d' : Dev := x.2
  ((d'.accErr (x.1 % 256) a).put .XSPI_STAT_ERR 0 4).put .XSPI_STAT_DONE 0 1

/-- A byte of the flash as a read finds it; beyond 1 GiB the spec gives none. -/
def Dev.flashRead (d : Dev) (a : Nat) : Nat × Dev :=
  if a < 2 ^ 30 then (d.fbyte a, d)
  else
    let x := d.fresh
    let d' : Dev := x.2
    (x.1 % 256, d')

/-- Sets a byte of the flash. -/
def Dev.setFlash (d : Dev) (a v : Nat) : Dev := { d with flash := natSet 0xFF#8 a (BitVec.ofNat 8 v) d.flash }

/-- Programs a byte: an erased one takes the value; what another one then holds is a free value. -/
def Dev.programByte (d : Dev) (a v : Nat) : Dev :=
  if d.fbyte a = 0xFF then d.setFlash a v
  else
    let x := d.fresh
    let d' : Dev := x.2
    d'.setFlash a x.1

/-- Reads n bytes of the flash into BUF, up to the first byte that is answered with an error. -/
def Dev.xspiRead (d : Dev) (n : Nat) : Dev :=
  let a := d.get .XSPI_ADDR 0
  let b := d.xspiBuf
  let e := firstBufErr true b n
  let d := forN (e.elim n (· - b)) (fun d i =>
    let r := d.flashRead (a + i)
    let d' : Dev := r.2
    if inMem (b + i) && d'.areaOpen (b + i) then d'.memWrite (b + i) 1 r.1 else d') d
  match e with
  | some x => d.xspiBusErr x
  | none => d.put .XSPI_STAT_BUSY 0 1

/-- A byte that the port reads from BUF; what a hole gives is a free value. -/
def Dev.bufByte (d : Dev) (a : Nat) : Nat × Dev :=
  if inMem a then ((d.byte a).toNat, d)
  else
    let x := d.fresh
    let d' : Dev := x.2
    (x.1 % 256, d')

/-- Programs n bytes from BUF, within one page and outside the active slots. -/
def Dev.xspiProgram (d : Dev) (n : Nat) : Dev :=
  let a := d.get .XSPI_ADDR 0
  let b := d.xspiBuf
  if d.touchesActive a n then d.xspiRefuse 1
  else if a / 256 ≠ (a + n - 1) / 256 then d.xspiRefuse 2
  else match firstBufErr false b n with
    | some x => d.xspiBusErr x
    | none => (forN n (fun d i =>
        let r := d.bufByte (b + i)
        let d' : Dev := r.2
        d'.programByte (a + i) r.1) d).put .XSPI_STAT_BUSY 0 1

/-- Erases the aligned range of n bytes that holds ADDR. -/
def Dev.xspiErase (d : Dev) (n : Nat) : Dev :=
  let a := d.get .XSPI_ADDR 0 / n * n
  if d.touchesActive a n then d.xspiRefuse 1
  else Dev.put { d with flash := d.flash.filter (fun c => !(decide (a ≤ c.1) && decide (c.1 < a + n))) } .XSPI_STAT_BUSY 0 1

/-- A write of 1 to GO with OP and LEN (R282): GO is ignored while BUSY. -/
def Dev.xspiGo (d : Dev) (op len : Nat) : Dev :=
  if !d.regOpen 2 || d.held 2 then d
  else
    let d := (d.put .XSPI_CTL_OP 0 op).put .XSPI_CTL_LEN 0 len
    if d.on .XSPI_STAT_BUSY 0 then d
    else if op = 1 then d.xspiRead (len + 1)
    else if op = 2 then d.xspiProgram (len + 1)
    else if op = 3 then d.xspiErase 0x1000
    else if op = 4 then d.xspiErase 0x10000
    else d.xspiRefuse 3

/-- XSPI_DONE: the operation ends. -/
def Dev.xspiDone (d : Dev) : Dev :=
  if !d.held 2 && d.on .XSPI_STAT_BUSY 0 then (d.put .XSPI_STAT_BUSY 0 0).put .XSPI_STAT_DONE 0 1 else d

/-! The commands. -/

/-- XSPI_READ (R282); `len` is the bytes, minus 1. -/
def execXspiRead (len : BitVec 16) (s : State) := act s (fun d => d.xspiGo 1 len.toNat)
/-- XSPI_PROGRAM (R282); `len` is the bytes, minus 1. -/
def execXspiProgram (len : BitVec 16) (s : State) := act s (fun d => d.xspiGo 2 len.toNat)
/-- XSPI_ERASE_SECTOR (R282). -/
def execXspiEraseSector (s : State) := act s (fun d => d.xspiGo 3 (d.get .XSPI_CTL_LEN 0))
/-- XSPI_ERASE_BLOCK (R282). -/
def execXspiEraseBlock (s : State) := act s (fun d => d.xspiGo 4 (d.get .XSPI_CTL_LEN 0))
/-- XSPI_DONE (R282). -/
def execXspiDone (s : State) := act s Dev.xspiDone

end Sys2Proof.Machine
end

