-- ==== Sys2Proof/Machine/RegAccess.lean ====
section
/-!
DEFINITION. What a read and a write of a register word do (R4 to R7, R394): the access codes, the ranges and locks that the chapters give
single fields, and the words whose write or read acts.
-/

namespace Sys2Proof.Machine

/-- The bits of a word that a field takes. -/
def F.ofWord (f : F) (w : Nat) : Nat := w / 2 ^ f.desc.lo % 2 ^ f.desc.width

/-- A bit of a word. -/
def wbit (w n : Nat) : Bool := w.testBit n

/-! Ranges: a value outside leaves the field unchanged. -/

/-- Ranges of the fields of encoders, axes, PWM and steppers (R165 to R201). -/
def rangeMotion (f : F) (w : Nat) : Bool :=
  let x := f.ofWord w
  match f with
  | .E_CFG_MODE => decide (x ≤ 5)
  | .E_SER_HALF => decide (13 ≤ x) && decide (x ≤ 500)
  | .E_SER_LEN => decide (8 ≤ x) && decide (x ≤ 40)
  | .E_SER_TPAUSE => decide (1 ≤ x)
  | .E_TOK_STILL_T => decide (1 ≤ x)
  | .E_TOK_SPHASE => decide (x ≤ 249)
  | .E_LCFG_EDGE => decide (x ≠ 0)
  | .E_LCFG_SRC => decide (x ≤ 16)
  | .E_PCFG_PSPACE => decide (5 ≤ x)
  | .E_PRAT_NUM => decide (0 < w / 65536) && decide (w / 65536 ≤ w % 65536)
  | .E_PRAT_DEN => decide (0 < w / 65536) && decide (w / 65536 ≤ w % 65536)
  | .AX_CFG_MODE => decide (x ≤ 4)
  | .AX_TOK_SPHASE => decide (x ≤ 249)
  | .AX_VMAX => posFinite32 x
  | .AX_AMAX => posFinite32 x
  | .AX_JMAX => posFinite32 x
  | .AX_QAMAX => posFinite32 x
  | .AX_QJMAX => posFinite32 x
  | .AX_GDEN => decide (1 ≤ x)
  | .AX_CSPAN => decide (1 ≤ x)
  | .AX_CAM_K => decide (4 ≤ x) && decide (x ≤ 12)
  | .G_VPATH => posFinite32 x
  | .G_APATH => posFinite32 x
  | .G_JPATH => posFinite32 x
  | .G_QAPATH => posFinite32 x
  | .G_QJPATH => posFinite32 x
  | .G_JVEL => posFinite32 x
  | .PWM_CFG_PPER => decide (1 ≤ x) && decide (x ≤ 1000)
  | .PWM_CFG_PPH => decide (x ≤ 249)
  | .PWM_DT => decide (x ≤ 6400)
  | .PWM_TRIP_TFILT => decide (x ≤ 8)
  | .ST_CFG_MRES => decide (x ≤ 8)
  | .ST_CFG_THOLD => decide (1 ≤ x)
  | .ST_CUR_IMIN => decide (x ≤ F.ofWord .ST_CUR_IMAX w)
  | .ST_SVMAX => decide (1 ≤ x) && decide (x ≤ 0x1000000)
  | .ST_SAMAX => decide (1 ≤ x)
  | _ => true

/-- Ranges of the other fields. -/
def rangeOther (f : F) (w : Nat) : Bool :=
  let x := f.ofWord w
  match f with
  | .SLOT_POL_LSP => decide (x ≠ 3)
  | .SLOT_POL_DPOL => decide (x ≠ 3)
  | .OS_MAP_WIDTH => decide (x ≠ 3)
  | .OS_MAP_LINK => decide (x ≤ 19)
  | .CELL_MODE_M0 => decide (x ≤ 2)
  | .CELL_MODE_M1 => decide (x ≤ 2)
  | .CELL_MODE_M2 => decide (x ≤ 2)
  | .CELL_MODE_M3 => decide (x ≤ 2)
  | .TIM_CFG_TYPE => decide (x ≤ 3)
  | .SD_URG_OSR => decide (200 ≤ x)
  | .SD_URG_SPHASE => decide (x ≤ 249)
  | .SD_URG_FILT => decide (x ≠ 3)
  | .SD_SEQ_OSR => decide (200 ≤ x)
  | .SD_SEQ_FILT => decide (x ≠ 3)
  | .AIN_TOK_SPHASE => decide (x ≤ 249)
  | .SAR_CFG_SPHASE => decide (x ≤ 249)
  | .AOUT_LIM_LLO => decide (x ≤ F.ofWord .AOUT_LIM_LHI w)
  | .FM_CFG_CDTH => decide (80 ≤ x) && decide (x ≤ 120)
  | .OL_CFG_CYC => decide (5 ≤ x) && decide (x ≤ 1000)
  | .OL_CFG_WD => decide (1 ≤ x)
  | .OL_TIME_TXD => decide (250 ≤ x)
  | .STN_LEN_OLEN => decide (x ≤ 240)
  | .STN_LEN_ILEN => decide (x ≤ 240)
  | .MAP_CFG_WIDTH => decide (x ≠ 3)
  | .MAP_CFG_OFFSET => decide (x ≤ 239)
  | .ETH_NCYC => decide (1000 ≤ x) && decide (x ≤ 1000000000)
  | .ETH_NBASE_NS => decide (x ≤ 999999999)
  | .ETH_GCLE_INTERVAL => decide (1 ≤ x)
  | .CAN_NBT_NTSEG1 => decide (1 ≤ x) && decide (x ≤ 255)
  | .CAN_NBT_NTSEG2 => decide (1 ≤ x)
  | .CAN_TT_BCYC => decide (1 ≤ x)
  | .HQ_RING_LO => decide (x % 8 = 0)
  | .DC_CFG_MODE => decide (x ≠ 3)
  | .DC_MEM_BASE => decide (x + F.ofWord .DC_MEM_SIZE w ≤ 2047)
  | .DC_MEM_SIZE => decide (F.ofWord .DC_MEM_BASE w + x ≤ 2047)
  | .DCS_CFG_RSZ => decide (1 ≤ x) && decide (x ≤ 18)
  | .DCS_CFG_FLUSH => decide (1 ≤ x)
  | .DCS_RING_LO => decide (x % 4096 = 0)
  | .SED_CTL_FLOODN => decide (16 ≤ x)
  | .PAIR_CTL_MAJOR => decide (250 ≤ x) && decide (x ≤ 10000)
  | .SLEW_TMUX => decide (x ≠ 3)
  | .SLEW_SVC => decide (x ≠ 3)
  | .SLEW_XSPI => decide (x ≠ 3)
  | .SLEW_CAN => decide (x ≠ 3)
  | .SLEW_ENC => decide (x ≠ 3)
  | .SLEW_STP => decide (x ≠ 3)
  | .SLEW_PWM => decide (x ≠ 3)
  | .SLEW_MISC => decide (x ≠ 3)
  | .TEMP_WLIM => decide (x ≤ 120)
  | _ => true

/-- What reaches a field of the bits written: reserved bits within a map byte or an address are dropped (R4). -/
def fieldBits (f : F) (x : Nat) : Nat :=
  match f with
  | .ETH_TQMAP0 => x &&& 0xBFBFBFBF
  | .ETH_TQMAP1 => x &&& 0xBFBFBFBF
  | .XSPI_BUF_HI => x % 256
  | _ => x

/-! Locks. -/

/-- Fields of a descriptor of a slot (R72, R73). -/
def slotReg (f : F) : Bool :=
  [F.SLOT_CTL_EN, .SLOT_TIME_PERIOD, .SLOT_PH_SPHASE, .SLOT_OPS, .SLOT_ENTRY_ENTRY_NEW, .SLOT_WCET_OVR, .SLOT_LONG_LONG_NEW, .SLOT_WNEW,
   .SLOT_STATE_SBASE, .SLOT_POL_INNER, .SLOT_ARR].contains f

/-- Registers of Delta capture that are locked while their unit is ARMED, in POST or in CONT (R295): the unit's number. -/
def capUnit (f : F) (i : Nat) : Option Nat :=
  if [F.DC_CFG_EN, .DC_MEM_BASE, .DC_POST, .DC_STAT_STATE].contains f then some i
  else if [F.TAP_CFG_EN, .TAP_DB, .TAP_LEVEL, .TAP_KEEP].contains f then some (i / 32)
  else none

/-- Writes of a register, named by its first field, are ignored. `svc` says that an open service session writes. -/
def Dev.wordLocked (d : Dev) (svc : Bool) (f : F) (i : Nat) : Bool :=
  if slotReg f then d.on .SLOT_CTL_BUSY i
  else if (capUnit f i).isSome then
    let st := d.get .DC_STAT_STATE ((capUnit f i).getD 0)
    decide (st = 1) || decide (st = 2) || decide (st = 4)
  else match f with
  | .TASK_ENTRY => decide (d.tstate i ≠ tsDormant)
  | .CYC_PER => d.on .CYC_CTL_EN i
  | .CYC_OFF => d.on .CYC_CTL_EN i
  | .CYC_WDOG => d.on .CYC_CTL_EN i
  | .CYC_IIMG_CNT => d.on .CYC_CTL_EN i
  | .CYC_OIMG_CNT => d.on .CYC_CTL_EN i
  | .ETH_GCLE_GATES => decide (i % 128 / 64 = d.get .ETH_GCL_LSEL (i / 128))
  | .HQ_RING_LO => d.on .HQ_CFG_EN i
  | .HQ_RING_HI => d.on .HQ_CFG_EN i
  | .DCS_RING_LO => d.on .DCS_CFG_EN 0
  | .DCS_RING_HI => d.on .DCS_CFG_EN 0
  | .SPARE_MIRROK => !svc
  | .FORCE_CTL_EN => !svc
  | .FORCE_VAL => !svc
  | f => deadReg f i

/-! Plain writes (R5, R7). -/

/-- One field of a written word, by its access code. W1S and WO bits act in `actWord`. -/
def Dev.writeField (d : Dev) (f : F) (i w : Nat) : Dev :=
  let x := fieldBits f (f.ofWord w)
  let ok := rangeMotion f w && rangeOther f w
  match f.desc.acc with
  | .RW => if ok && !(f.desc.locked && d.slotEn i) then d.put f i x else d
  | .ST => if ok then d.shadowPut f i x else d
  | .W1C => d.put f i (d.get f i - (d.get f i &&& x))
  | _ => d

/-- Every field of a written word. -/
def Dev.writeFields (d : Dev) (fs : List F) (i w : Nat) : Dev := fs.foldl (fun d f => d.writeField f i w) d

/-! Words of their own. -/

/-- TASKn_CTL (R117, R119): CORE and PRIO in DORMANT only; the kill acts first. -/
def Dev.writeTaskCtl (d : Dev) (n w : Nat) : Dev :=
  let d := if d.tstate n = tsDormant then d.writeFields [.TASK_CTL_CORE, .TASK_CTL_PRIO] n w else d
  let d := if wbit w 30 then d.reqKill n else d
  if wbit w 31 then d.reqStart n else d

/-- TIMi_CFG: a write to TYPE or UNIT sets IN_LAST, Q, RUN and ET to 0 (R124). -/
def Dev.writeTimCfg (d : Dev) (i w : Nat) : Dev :=
  let d := d.writeFields [.TIM_CFG_NOTE, .TIM_CFG_NTASK, .TIM_CFG_NFLAG, .TIM_CFG_UNIT, .TIM_CFG_TYPE] i w
  (((d.put .TIM_CFG_IN_LAST i 0).put .TIM_CFG_Q i 0).put .TIM_CFG_RUN i 0).put .TIM_ET i 0

/-- A task waits on a queue. -/
def Dev.qWaited (d : Dev) (q : Nat) : Bool :=
  d.waitq.any (fun n => match (d.ctx n).wait with
    | .push q' _ => decide (q' = q)
    | .pop q' _ => decide (q' = q)
    | _ => false)

/-- Qq_CFG (R127, R128). -/
def Dev.writeQCfg (d : Dev) (q w : Nat) : Dev :=
  let same := decide (F.ofWord .Q_CFG_PKT w = d.get .Q_CFG_PKT q) && decide (F.ofWord .Q_CFG_SIZE w = d.get .Q_CFG_SIZE q)
  if d.on .Q_CFG_ATT q then d
  else if d.on .Q_CFG_EN q then
    if !wbit w 31 && same && decide ((d.queue q).level + (d.queue q).unc = 0) && !d.qWaited q then d.put .Q_CFG_EN q 0 else d
  else if 1 ≤ F.ofWord .Q_CFG_SIZE w ∧ F.ofWord .Q_CFG_SIZE w + 1 ≤ 32768 - d.get .Q_BASE q then
    d.writeFields [.Q_CFG_EN, .Q_CFG_PKT, .Q_CFG_SIZE] q w
  else d

/-- Qq_BASE (R127). -/
def Dev.writeQBase (d : Dev) (q w : Nat) : Dev :=
  let b := F.ofWord .Q_BASE w
  if d.on .Q_CFG_ATT q || d.on .Q_CFG_EN q || decide (32768 - b < d.get .Q_CFG_SIZE q + 1) then d else d.put .Q_BASE q b

/-- CYCn_CTL: a task that becomes cyclic has latched nothing yet (R141). -/
def Dev.writeCycCtl (d : Dev) (n w : Nat) : Dev :=
  let d := if wbit w 31 && !d.on .CYC_CTL_EN n then d.forgetLatches n else d
  d.writeFields [.CYC_CTL_EN, .CYC_CTL_OMODE] n w

/-- CHG_CTL (R151, R153). -/
def Dev.writeChgCtl (d : Dev) (w : Nat) : Dev :=
  let d := d.put .CHG_CTL_CNT 0 (F.ofWord .CHG_CTL_CNT w)
  let d := if wbit w 30 then d.chgAbort else d
  if wbit w 31 then d.chgGo else d

/-- AXa_CMD (R179). -/
def Dev.writeAxCmd (d : Dev) (a w : Nat) : Dev :=
  let d := if wbit w 28 then d.axisClr a else d
  d.axisCmd a (wbit w 31) (wbit w 30) (wbit w 29)

/-- Gg_CMD (R186, R187): QSTOP outranks the others. -/
def Dev.writeGCmd (d : Dev) (g w : Nat) : Dev :=
  let d := if wbit w 29 then d.groupStop g 3 false else d
  let d := if wbit w 28 then d.groupStop g 5 true else d
  let d := if wbit w 30 then d.groupStop g 5 false else d
  if wbit w 31 then d.groupStart g else d

/-- CAL_CTL (R217). -/
def Dev.writeCalCtl (d : Dev) (w : Nat) : Dev :=
  if d.held 2 then d
  else
    let d := d.calFields (F.ofWord .CAL_CTL_TGT w) (F.ofWord .CAL_CTL_CH w) (F.ofWord .CAL_CTL_GAIN w) (F.ofWord .CAL_CTL_NAVG w)
    match F.ofWord .CAL_CTL_CMD w with
    | 1 => d.calZero
    | 2 => d.calSpan
    | 3 => d.calStore
    | 4 => d.calCancel
    | 5 => d.calOutlo
    | 6 => d.calOuthi
    | _ => d

/-- SED_CTL (R308, R310). -/
def Dev.writeSedCtl (d : Dev) (w : Nat) : Dev :=
  let d := d.writeField .SED_CTL_FLOODN 0 w
  if wbit w 31 then d.freezeSet else d.freezeClear

/-- DCS_CFG: ignored while EN = 1, except a write that clears EN (R302). -/
def Dev.writeDcsCfg (d : Dev) (w : Nat) : Dev :=
  if d.on .DCS_CFG_EN 0 && wbit w 31 then d
  else d.writeFields [.DCS_CFG_EN, .DCS_CFG_DST, .DCS_CFG_HOSTERR, .DCS_CFG_RSZ, .DCS_CFG_FLUSH] 0 w

/-- TBk_CTL (R286). -/
def Dev.writeTbCtl (d : Dev) (k w : Nat) : Dev :=
  let d := d.writeField .TB_CTL_REJ k w
  let d := if wbit w 31 then d.tbRequest k false else d
  if wbit w 30 then d.tbRequest k true else d

/-- DCu_CTL (R295 to R297). -/
def Dev.writeDcCtl (d : Dev) (u w : Nat) : Dev :=
  let d := if wbit w 31 then d.arm u else d
  let d := if wbit w 30 then d.fireWrite u else d
  if wbit w 29 then d.captureStop u else d

/-- SPARE (R318, R319): written by an open service session. -/
def Dev.writeSpare (d : Dev) (b w : Nat) : Dev :=
  let cell := F.ofWord .SPARE_CELL w
  let d := d.put .SPARE_CELL b cell
  let d := if wbit w 28 then d.spareReadmit b cell else d
  if wbit w 29 then d.restore b cell else d

/-- PAIR_CTL (R320, R325, R330, R335): READMIT comes from the service port only (R322). -/
def Dev.writePairCtl (d : Dev) (svc : Bool) (w : Nat) : Dev :=
  let en := d.on .PAIR_CTL_EN 0
  let d :=
    if d.role = roleAlone ∨ d.role = roleFailed then
      let d := d.writeFields [.PAIR_CTL_EN, .PAIR_CTL_PREF, .PAIR_CTL_MAJOR] 0 w
      if d.on .PAIR_CTL_EN 0 && !en then d.put .x_PAIR_C0 0 (d.get .x_CYC 0) else d
    else d
  let d := d.writeField .PAIR_CTL_RMODE 0 w
  let d := if wbit w 28 then d.resign else d
  if wbit w 27 && svc then d.pairReadmit else d

/-- RST_CTL (R337): the key covers both requests. -/
def Dev.writeRstCtl (d : Dev) (w : Nat) : Dev :=
  let key := F.ofWord .RST_CTL_KEY w
  if wbit w 31 && decide (key = 0x5A) then d.warmReset else d.regionReset key (F.ofWord .RST_CTL_REGION w)

/-- PWR_CTL (R366 to R369): RUN is taken from the host and the service port. -/
def Dev.writePwrCtl (d : Dev) (host svc : Bool) (w : Nat) : Dev :=
  let d := if wbit w 31 then d.quiesce else d
  let d := if wbit w 30 && (host || svc) then d.runCmd host else d
  if wbit w 29 then d.deep else d

/-- The action of a written word, by the first field of its register; none for a word whose fields only take their values. -/
def Dev.actWord (d : Dev) (host svc : Bool) (f : F) (i w : Nat) : Option Dev :=
  match f with
  | .SLOT_CTL_EN => some ((if d.on .SLOT_CTL_BUSY i then d else d.writeFields [.SLOT_CTL_PRIO, .SLOT_CTL_CELL] i w).reqBits i (wbit w 29) (wbit w 28) (wbit w 27))
  | .TASK_CTL_REQ_START => some (d.writeTaskCtl i w)
  | .TASK_FSET => some (d.setFlags i w)
  | .TIM_CFG_IN_LAST => some (d.writeTimCfg i w)
  | .Q_CFG_EN => some (d.writeQCfg i w)
  | .Q_BASE => some (d.writeQBase i w)
  | .CYC_CTL_EN => some (d.writeCycCtl i w)
  | .CYC_IIMG_CNT => some (if d.on .CYC_CTL_EN i || !imageOk w then d else d.writeFields [.CYC_IIMG_CNT, .CYC_IIMG_ADDR] i w)
  | .CYC_OIMG_CNT => some (if d.on .CYC_CTL_EN i || !imageOk w then d else d.writeFields [.CYC_OIMG_CNT, .CYC_OIMG_ADDR] i w)
  | .CHG_CTL_GO => some (d.writeChgCtl w)
  | .MS_STAT_FULLSEEN => some (if wbit w 31 then d.fullseenClear i else d)
  | .SPARE_MIRROK => some (if svc then d.writeSpare i w else d)
  | .E_ADD => some (d.enAdd i (BitVec.ofNat 32 w))
  | .AX_CMD_GO => some (d.writeAxCmd i w)
  | .G_CMD_START => some (d.writeGCmd i w)
  | .PWM_TRIP_TRIPPED =>
    let d := d.writeFields [.PWM_TRIP_TPOL, .PWM_TRIP_TSTOP, .PWM_TRIP_TFILT] i w
    some (if wbit w 31 then d.tripClear i else d)
  | .ST_TGT => some ((d.put .ST_TGT i w).put .x_ST_TWT i d.tick)
  | .SD_UCTL_REQ =>
    let d := d.writeFields [.SD_UCTL_NOTE, .SD_UCTL_NTASK, .SD_UCTL_NFLAG] i w
    some (if wbit w 31 then d.urgentReq i else d)
  | .CAL_CTL_CMD => some (d.writeCalCtl w)
  | .AOUT_CFG_EN => some ((d.writeFields [.AOUT_CFG_EN, .AOUT_CFG_MDROP, .AOUT_CFG_ADIR, .AOUT_CFG_AQMASK] i w).aforce i (wbit w 29))
  | .ETH_GCL_SWAP =>
    let d := d.writeFields [.ETH_GCL_STUCK, .ETH_GCL_NENT] i w
    some (if wbit w 31 then d.gclSwap i else d)
  | .CAN_ERR_STATE =>
    let d := d.writeField .CAN_ERR_TDCFAIL i w
    some (if wbit w 29 then d.canRecov i else d)
  | .CAN_TXREQ => some (d.txreq i w)
  | .CAN_TXCAN => some (d.txcan i 0 w)
  | .HQ_CFG_EN => some (d.hqCfg i (wbit w 31) (wbit w 30) (wbit w 29) (F.ofWord .HQ_CFG_RSZ w) (F.ofWord .HQ_CFG_QUEUE w))
  | .HQ_HOST => some (d.hostWrite i w)
  | .XSPI_CTL_GO => some (if wbit w 31 then d.xspiGo (F.ofWord .XSPI_CTL_OP w) (F.ofWord .XSPI_CTL_LEN w) else d.writeFields [.XSPI_CTL_OP, .XSPI_CTL_LEN] i w)
  | .TB_RATE => some (d.rateWrite i (BitVec.ofNat 32 w))
  | .TB_CTL_SET => some (d.writeTbCtl i w)
  | .TIME_SNAP => some (if wbit w 31 then d.timeSnap else d)
  | .DC_CTL_ARM => some (d.writeDcCtl i w)
  | .DCS_CFG_EN => some (d.writeDcsCfg w)
  | .DCS_HOST => some (d.dcsHostWrite w)
  | .SED_CTL_FREEZE => some (d.writeSedCtl w)
  | .CFG_COMMIT_GO => some (if wbit w 31 then d.commit i else d)
  | .PAIR_CTL_EN => some (d.writePairCtl svc w)
  | .RST_CTL_WARM => some (d.writeRstCtl w)
  | .PWR_CTL_QUIESCE => some (d.writePwrCtl host svc w)
  | .BOOT_CTL_LOOP_GO => some (if wbit w 31 then d.loopGo else d)
  | _ => none

/-- A write of a register word: ignored while its region is in reset. -/
def Dev.writeReg (d : Dev) (host svc : Bool) (r : RegDesc) (i w : Nat) : Dev :=
  if !d.regOpen (rgnOf (r.key, i)) then d
  else match d.actWord host svc r.key i w with
    | some d' => d'
    | none => if d.wordLocked svc r.key i then d else d.writeFields r.fields i w

/-! Reads. -/

/-- Fields that a capturing read copies (R394). -/
def isCaptured (f : F) : Bool :=
  [F.TOK_USED, .TOK_UNUSED, .SLOT_PEND_TYPE_MM, .SLOT_PEND_PEND, .Q_OUT, .Q_DROP, .Q_RWD, .Q_LEVEL_LEVEL, .Q_LEVEL_UNCOMMIT, .E_CNT_HI, .E_UP,
   .E_DOWN, .E_ADJ, .E_PLAG, .E_PACC, .AX_POS_HI, .AX_VEL, .AX_ACC, .SD_UINFO_QUAL, .SD_UINFO_CNT, .AIN_RINFO_QUAL, .AIN_RINFO_CNT, .STN_IN_OK,
   .STN_IN_MISS, .STN_OUT_ACK, .STN_OUT_NACK, .ETH_TXBAD, .ETH_RXOK, .ETH_RXERR, .ETH_RXFILT, .ETH_RXLOST, .CAN_RXFILT, .CAN_RXLOST, .TB_FRAC,
   .TB_SEC_LO, .TB_SEC_HI, .DC_REC, .DC_SKIP, .DC_LOST, .DC_IDLE, .DC_DISC, .SED_NEW, .SED_RPT, .SED_FLD, .SED_FULLD, .SED_FRZL, .SED_HELD,
   .CP_COMMIT, .CP_ABORT, .CP_STAT_INPROG].contains f

/-- What a read of a register does beside giving its value. -/
def Dev.readEffect (d : Dev) (f : F) (i : Nat) : Dev :=
  match f with
  | .TOK_IN => d.tokInRead i
  | .Q_IN => d.queueInRead i
  | .E_LCNT => d.latchRead i
  | .E_CNT_LO => d.countRead i
  | .E_POUT => if deadReg f i then d else d.poutRead i
  | .AX_POS_LO => d.axisPosRead i
  | .SD_URES => d.uresRead i
  | .AIN_RES => d.resRead i
  | .STN_CYCLES => d.cyclesRead (i / 8) (i % 8)
  | .ETH_TSQ_ID_VALID => d.tsqRead i
  | .ETH_TXOK => d.txokRead i
  | .CAN_RXOK => d.canRxokRead i
  | .TB_NS => d.tbRead i
  | .DC_SEEN => d.seenRead i
  | .SED_EVT => d.sedRead
  | .CP_BEGUN => d.cpBegunRead
  | _ => d

/-- What a field reads: WO and reserved places read 0, a captured field its copy (R5, R91, R106, R394). -/
def Dev.readField (d : Dev) (f : F) (i : Nat) : Nat :=
  if deadReg f i || decide (f.desc.acc = .WO) then 0
  else if isCaptured f then d.captured f i
  else match f with
    | .OS_VAL => d.stageVal i
    | .OS_STAT_QUAL => d.stageQual i
    | .OS_STAT_SAFE_ACT => if d.on .OS_CFG_EN i then d.get f i else 1
    | .MS_STAT_PENDING => d.pendingOf i
    | f => d.get f i

/-- The word of a register. -/
def Dev.readWord (d : Dev) (r : RegDesc) (i : Nat) : Nat :=
  (r.fields.foldl (fun a f => a + f.fit (d.readField f i) * 2 ^ f.desc.lo) 0) % 2 ^ 32

/-- A read of a register: its value, and the device after what the read does. -/
def Dev.readReg (d : Dev) (r : RegDesc) (i : Nat) : Nat × Dev :=
  let d := d.readEffect r.key i
  ((if deadReg r.key i then 0 else d.readWord r i), d)

end Sys2Proof.Machine
end

