-- ==== Sys2Proof/Machine/Bus.lean ====
section
/-!
DEFINITION. Accesses of the initiators: register writes, task loads and stores, and the windows of the PCIe endpoint (R28, R112, R115,
R276, R387, R398).
-/

namespace Sys2Proof.Machine

/-- SOURCE code of an initiator (R32). -/
def Initiator.source : Initiator → Nat
  | .core k => k.val + 1
  | .host => 8
  | .service => 9

/-- Whether the initiator may write at all: without a session the service port writes nothing (R387). -/
def Dev.mayWrite (d : Dev) : Initiator → Bool
  | .service => d.session
  | _ => true

/-- A transfer of the service port (R388). -/
def Dev.noteTransfer (d : Dev) (i : Initiator) : Dev := if i = .service ∧ d.session then d.touch else d

/-- What a place of the map gives that holds neither a register nor memory: a free value. -/
def Dev.holeValue (d : Dev) (n : Nat) : Nat × Dev :=
  let x := d.fresh
  let d' : Dev := x.2
  (x.1 % 2 ^ (8 * n), d')

/-- An unaligned access by an initiator that does not divide it is answered with an error. -/
def Access.strict : Access → Access
  | .unaligned => .err
  | x => x

/-- A write that is not answered with an error. -/
def Dev.writeAt (d : Dev) (ini : Initiator) (x : Access) (a n v : Nat) : Dev :=
  match x with
  | .reg r i => d.writeReg (decide (ini = .host)) (decide (ini = .service)) r i (v % 2 ^ 32)
  | .mem => if d.areaOpen a then d.memWrite a n v else d
  | _ => d

/-- A read that is not answered with an error: value and device. -/
def Dev.readAt (d : Dev) (x : Access) (a n : Nat) : Nat × Dev :=
  match x with
  | .reg r i => d.readReg r i
  | .result i => (d.readField .TR_VAL i + 2 ^ 32 * (d.readField .TR_INFO_FTAG i * 2 ^ 16 + d.readField .TR_INFO_TYPE i * 2 ^ 8 + d.readField .TR_INFO_QUAL i), d)
  | .mem => (d.rd a n, d)
  | _ => d.holeValue n

/-- A write of n bytes by the host or the service port, or by a task core outside its instructions (R5, R28, R398). -/
def Dev.busWrite (d : Dev) (ini : Initiator) (a n v : Nat) : Dev :=
  if !d.chipOn || !d.mayWrite ini then d
  else
    let d := d.noteTransfer ini
    match (access true a n).strict with
    | .err => d.accErr (Initiator.source ini) a
    | x => d.writeAt ini x a n v

/-- REGISTER_WRITE: a write of 2^size bytes (R5). -/
def execRegisterWrite (ini : Initiator) (a : BitVec 40) (size : Fin 4) (v : BitVec 64) (s : State) :=
  act s (fun d => d.busWrite ini a.toNat (2 ^ size.val) v.toNat)

/-! Task loads and stores (R112, R114, R115). -/

/-- The effective address: XA + sign-extended IMM. -/
def Dev.taskAddr (d : Dev) (n : Nat) (xa : BitVec 5) (imm : BitVec 16) : Nat := ((d.ctx n).rX xa + imm.signExtend 64).toNat

/-- An address in a core's own tightly coupled memory (R28). -/
def ownMem (k a : Nat) : Bool := decide (0x800000 + 0x40000 * k ≤ a) && decide (a < 0x840000 + 0x40000 * k)

/-- Ends a load or store with a fault, or goes on with the access: an address above 40 bits is the fault 0x02 without an access, an
unaligned access of memory the fault 0x03, an access answered with an error is recorded and is the fault 0x02. -/
def Dev.taskAccess (d : Dev) (k n : Nat) (write : Bool) (a w : Nat) (eff : Access → Dev → Dev) : Dev :=
  if 2 ^ 40 ≤ a then d.faultBack n 0x02
  else match access write a w with
    | .unaligned => d.faultBack n 0x03
    | .err => (d.accErr (k + 1) a).faultBack n 0x02
    | x => eff x d

/-- A load of w bytes: 2 cycles from the core's own tightly coupled memory, otherwise at least 10; how many more is a free value. -/
def Dev.load (d : Dev) (k : Nat) (xd xa : BitVec 5) (imm : BitVec 16) (w : Nat) (ext : Nat → DWord) : Dev :=
  d.issueT k true 0 (fun n d =>
    let a := d.taskAddr n xa imm
    d.taskAccess k n false a w (fun x d =>
      let c : Nat × Dev := if ownMem k a then (2, d) else (10 + d.fresh.1, d.fresh.2)
      let d' : Dev := c.2
      let r := d'.readAt x a w
      let d1 : Dev := r.2
      (d1.bump .TASK_RUN n c.1).setX n xd (ext r.1)))

/-- A store of w bytes of XD, in 1 cycle. -/
def Dev.store (d : Dev) (k : Nat) (xd xa : BitVec 5) (imm : BitVec 16) (w : Nat) : Dev :=
  d.issueT k true 1 (fun n d =>
    let a := d.taskAddr n xa imm
    d.taskAccess k n true a w (fun x d =>
      let v := ((d.ctx n).rX xd).toNat % 2 ^ (8 * w)
      match x with
      | .reg r i => d.writeReg false false r i v
      | .mem => if d.areaOpen a then d.memWrite a w v else d
      | _ => d))

/-- A loaded value, zero-extended. -/
def loadU (v : Nat) : DWord := BitVec.ofNat 64 v

/-- A loaded value of b bits, sign-extended. -/
def loadS (b : Nat) (v : Nat) : DWord := BitVec.ofInt 64 (sNat b v)

/-- LDD. -/
def execLdd (k : Fin 4) (xd xa : BitVec 5) (imm : BitVec 16) (s : State) := act s (fun d => d.load k xd xa imm 8 loadU)
/-- STD. -/
def execStd (k : Fin 4) (xd xa : BitVec 5) (imm : BitVec 16) (s : State) := act s (fun d => d.store k xd xa imm 8)
/-- LDW. -/
def execLdw (k : Fin 4) (xd xa : BitVec 5) (imm : BitVec 16) (s : State) := act s (fun d => d.load k xd xa imm 4 (loadS 32))
/-- LDWU. -/
def execLdwu (k : Fin 4) (xd xa : BitVec 5) (imm : BitVec 16) (s : State) := act s (fun d => d.load k xd xa imm 4 loadU)
/-- STW. -/
def execStw (k : Fin 4) (xd xa : BitVec 5) (imm : BitVec 16) (s : State) := act s (fun d => d.store k xd xa imm 4)
/-- LDH. -/
def execLdh (k : Fin 4) (xd xa : BitVec 5) (imm : BitVec 16) (s : State) := act s (fun d => d.load k xd xa imm 2 (loadS 16))
/-- LDHU. -/
def execLdhu (k : Fin 4) (xd xa : BitVec 5) (imm : BitVec 16) (s : State) := act s (fun d => d.load k xd xa imm 2 loadU)
/-- STH. -/
def execSth (k : Fin 4) (xd xa : BitVec 5) (imm : BitVec 16) (s : State) := act s (fun d => d.store k xd xa imm 2)
/-- LDB: zero-extended. -/
def execLdb (k : Fin 4) (xd xa : BitVec 5) (imm : BitVec 16) (s : State) := act s (fun d => d.load k xd xa imm 1 loadU)
/-- STB. -/
def execStb (k : Fin 4) (xd xa : BitVec 5) (imm : BitVec 16) (s : State) := act s (fun d => d.store k xd xa imm 1)

/-! The windows of the PCIe endpoint (R276). -/

/-- A new access of the host begins: no completion yet. -/
def Dev.noCompletion (d : Dev) : Dev := ((d.put .x_CPL_CA 0 0).put .x_CPL_VAL 0 0).put .x_CPL_N 0 0

/-- Bytes read join the completion. -/
def Dev.complete (d : Dev) (n v : Nat) : Dev :=
  (d.put .x_CPL_VAL 0 (d.get .x_CPL_VAL 0 + v % 2 ^ (8 * n) * 2 ^ (8 * d.get .x_CPL_N 0))).put .x_CPL_N 0 (d.get .x_CPL_N 0 + n)

/-- An access is answered with an error; the status of its completion is Completer Abort. -/
def Dev.abortAccess (d : Dev) (a : Nat) : Dev := (d.accErr 8 a).put .x_CPL_CA 0 1

/-- One access of a window. -/
def Dev.hostAccess (d : Dev) (write : Bool) (a n v : Nat) : Dev :=
  match (access write a n).strict with
  | .err => d.abortAccess a
  | x =>
    if write then d.writeAt .host x a n v
    else
      let r := d.readAt x a n
      let d' : Dev := r.2
      d'.complete n r.1

/-- The largest aligned access that starts at a and takes at most n bytes. -/
def pieceOf (a n : Nat) : Nat := if a % 8 = 0 ∧ 8 ≤ n then 8 else if a % 4 = 0 ∧ 4 ≤ n then 4 else if a % 2 = 0 ∧ 2 ≤ n then 2 else 1

/-- BAR2: the access is divided into aligned ones, `fuel` at most. -/
def Dev.bar2 (d : Dev) (write : Bool) (a : Nat) (data : List Nat) : Nat → Dev
  | 0 => d
  | fuel + 1 =>
    if data.isEmpty then d
    else
      let n := pieceOf a data.length
      (d.hostAccess write a n (leNat (data.take n))).bar2 write (a + n) (data.drop n) fuel

/-- PCIE_BAR_ACCESS: BAR0 takes single aligned dwords, through the 16 MiB apertures of PCIE_AP; BAR2 any size, from PCIE_B2. -/
def Dev.barAccess (d : Dev) (bar2 write : Bool) (off len : Nat) (data : List Nat) : Dev :=
  if !d.chipOn || d.held 2 || !d.on .PCIE_STAT_LINKUP 0 then d
  else if bar2 then
    let a := d.get .PCIE_B2 0 * 2 ^ 30 + off
    d.noCompletion.bar2 write a ((List.range len).map (fun i => data.getD i 0)) len
  else
    let o := off % 0x4000000
    let a := d.get .PCIE_AP (o / 0x1000000) * 0x1000000 + o % 0x1000000
    if len = 4 ∧ a % 4 = 0 then d.noCompletion.hostAccess write a 4 (leNat (data.take 4)) else d.noCompletion.abortAccess a

/-- PCIE_BAR_ACCESS (R276). -/
def execPcieBarAccess (bar2 write : Bool) (off : BitVec 30) (len : BitVec 13) (data : List (BitVec 8)) (s : State) :=
  act s (fun d => d.barAccess bar2 write off.toNat len.toNat (data.map BitVec.toNat))

end Sys2Proof.Machine
end

