-- ==== Sys2Proof/Machine/CellAlu.lean ====
section
/-!
DEFINITION. Cell register arithmetic and logic: OP 0x01 (R44) and the immediate forms (R43).
-/

namespace Sys2Proof.Machine

/-- A two-operand function of R44: DD := f DA DB, with SR. -/
def Dev.cellAlu (d : Dev) (c : Nat) (i : Issue) (dd da db : BitVec 4) (f : Word → Word → AluOut 32) : Dev :=
  d.issueR c i (fun b =>
    let o := f (b.rD da) (b.rD db)
    { b.wD dd o.res with sr := aluSr b.sr o })

/-- A one-operand function of R44. -/
def Dev.cellAlu1 (d : Dev) (c : Nat) (i : Issue) (dd da : BitVec 4) (f : Word → AluOut 32) : Dev :=
  d.issueR c i (fun b =>
    let o := f (b.rD da)
    { b.wD dd o.res with sr := aluSr b.sr o })

/-- ADD (R44). -/
def execAdd (c : Fin 24) (dd da db : BitVec 4) (s : State) := act s (fun d => d.cellAlu c ({} : Issue) dd da db opAdd)
/-- ADDS (R44). -/
def execAdds (c : Fin 24) (dd da db : BitVec 4) (s : State) := act s (fun d => d.cellAlu c ({} : Issue) dd da db opAdds)
/-- SUB (R44). -/
def execSub (c : Fin 24) (dd da db : BitVec 4) (s : State) := act s (fun d => d.cellAlu c ({} : Issue) dd da db opSub)
/-- SUBS (R44). -/
def execSubs (c : Fin 24) (dd da db : BitVec 4) (s : State) := act s (fun d => d.cellAlu c ({} : Issue) dd da db opSubs)
/-- AND (R44). -/
def execAnd_ (c : Fin 24) (dd da db : BitVec 4) (s : State) := act s (fun d => d.cellAlu c ({} : Issue) dd da db opAnd)
/-- OR (R44). -/
def execOr_ (c : Fin 24) (dd da db : BitVec 4) (s : State) := act s (fun d => d.cellAlu c ({} : Issue) dd da db opOr)
/-- XOR (R44). -/
def execXor (c : Fin 24) (dd da db : BitVec 4) (s : State) := act s (fun d => d.cellAlu c ({} : Issue) dd da db opXor)
/-- MIN (R44). -/
def execMin (c : Fin 24) (dd da db : BitVec 4) (s : State) := act s (fun d => d.cellAlu c ({} : Issue) dd da db opMin)
/-- MAX (R44). -/
def execMax (c : Fin 24) (dd da db : BitVec 4) (s : State) := act s (fun d => d.cellAlu c ({} : Issue) dd da db opMax)
/-- CMP: the flags of DA − DB (R44). -/
def execCmp (c : Fin 24) (da db : BitVec 4) (s : State) :=
  act s (fun d => d.issueR c ({} : Issue) (fun b => { b with sr := aluSr b.sr (opSub (b.rD da) (b.rD db)) }))
/-- ABS (R44). -/
def execAbs (c : Fin 24) (dd da : BitVec 4) (s : State) := act s (fun d => d.cellAlu1 c ({} : Issue) dd da opAbs)
/-- NEG (R44). -/
def execNeg (c : Fin 24) (dd da : BitVec 4) (s : State) := act s (fun d => d.cellAlu1 c ({} : Issue) dd da opNeg)
/-- NEGS (R44). -/
def execNegs (c : Fin 24) (dd da : BitVec 4) (s : State) := act s (fun d => d.cellAlu1 c ({} : Issue) dd da opNegs)
/-- MOV (R44). -/
def execMov (c : Fin 24) (dd da : BitVec 4) (s : State) := act s (fun d => d.cellAlu1 c ({} : Issue) dd da plain)
/-- ASR by DB[5:0] (R44). -/
def execAsr (c : Fin 24) (dd da db : BitVec 4) (s : State) :=
  act s (fun d => d.cellAlu c ({} : Issue) dd da db (fun x y => opAsr x (y.toNat % 64)))
/-- LSR by DB[5:0] (R44). -/
def execLsr (c : Fin 24) (dd da db : BitVec 4) (s : State) :=
  act s (fun d => d.cellAlu c ({} : Issue) dd da db (fun x y => opLsr x (y.toNat % 64)))
/-- LSL by DB[5:0] (R44). -/
def execLsl (c : Fin 24) (dd da db : BitVec 4) (s : State) :=
  act s (fun d => d.cellAlu c ({} : Issue) dd da db (fun x y => opLsl x (y.toNat % 64)))
/-- MUL (R44, R52). -/
def execMul (c : Fin 24) (dd da db : BitVec 4) (s : State) :=
  act s (fun d => d.cellAlu c { mulD := [da.toNat, db.toNat] } dd da db opMul)
/-- MULQ; SH above 16 is illegal (R44, R67). -/
def execMulq (c : Fin 24) (dd da db : BitVec 4) (sh : BitVec 5) (s : State) :=
  act s (fun d => d.cellAlu c { legal := decide (sh.toNat ≤ 16), mulD := [da.toNat, db.toNat] } dd da db (opMulq sh.toNat))
/-- RCPQ (R67). -/
def execRcpq (c : Fin 24) (dd da : BitVec 4) (s : State) := act s (fun d => d.cellAlu1 c { cy := .rcpq } dd da opRcpq)
/-- ADDI: the immediate is sign-extended (R43). -/
def execAddi (c : Fin 24) (dd da : BitVec 4) (imm : BitVec 18) (s : State) :=
  act s (fun d => d.cellAlu1 c ({} : Issue) dd da (fun x => opAdd x (imm.signExtend 32)))
/-- MOVL (R43). -/
def execMovl (c : Fin 24) (dd : BitVec 4) (imm : BitVec 16) (s : State) :=
  act s (fun d => d.cellAlu1 c ({} : Issue) dd dd (fun _ => plain (imm.signExtend 32)))
/-- MOVH: bits 15 to 0 of DD are kept (R43). -/
def execMovh (c : Fin 24) (dd : BitVec 4) (imm : BitVec 16) (s : State) :=
  act s (fun d => d.cellAlu1 c ({} : Issue) dd dd (fun x => plain (imm ++ x.truncate 16)))
/-- ANDI: the immediate is zero-extended (R43). -/
def execAndi (c : Fin 24) (dd da : BitVec 4) (imm : BitVec 18) (s : State) :=
  act s (fun d => d.cellAlu1 c ({} : Issue) dd da (fun x => opAnd x (imm.zeroExtend 32)))
/-- ORI (R43). -/
def execOri (c : Fin 24) (dd da : BitVec 4) (imm : BitVec 18) (s : State) :=
  act s (fun d => d.cellAlu1 c ({} : Issue) dd da (fun x => opOr x (imm.zeroExtend 32)))

end Sys2Proof.Machine
end

