-- ==== Sys2Proof/Machine/CellCtl.lean ====
section
/-!
DEFINITION. Cell control flow, REP, status and illegal words (R43, R47, R48, R59, R60, R399).
-/

namespace Sys2Proof.Machine

/-- BR: two cycles when taken (R43, R47, R51). -/
def execBr (c : Fin 24) (cond : BitVec 4) (target : BitVec 13) (s : State) :=
  act s (fun d => d.issueR c { legal := condLegal cond, cy := .branch } (fun b =>
    if condHolds b.sr cond then { b with pc := target, cycles := b.cycles + 1 } else b))
/-- CALL: a full return stack aborts with CAUSE 0x05 (R43, R48). -/
def execCall (c : Fin 24) (target : BitVec 13) (s : State) :=
  act s (fun d =>
    let b := d.bank c (d.actBank c)
    if d.canIssue c && decide (b.stack.length ≥ 4) then d.abort c 0x05 b.pc
    else d.issueR c { cy := .call } (fun b => { b with stack := b.pc :: b.stack, pc := target }))
/-- RET: taken with an empty return stack it aborts with CAUSE 0x06 (R43, R48). -/
def execRet (c : Fin 24) (cond : BitVec 4) (s : State) :=
  act s (fun d =>
    let b := d.bank c (d.actBank c)
    if d.canIssue c && condLegal cond && condHolds b.sr cond && b.stack.isEmpty then d.abort c 0x06 b.pc
    else d.issueR c { legal := condLegal cond, cy := .branch } (fun b =>
      if condHolds b.sr cond then
        match b.stack with
        | r :: t => { b with pc := r, stack := t, cycles := b.cycles + 1 }
        | [] => b
      else b))

/-- What the word after a REP of n iterations makes of it (R399): a CAUSE and whether it is recorded at that word's address. -/
def repCheck (mode n : Nat) (nextWord : Word) : Option (Nat × Bool) :=
  match cellWord nextWord with
  | none => some (0x01, true)
  | some (k, r) =>
    match k.cycles mode with
    | none => some (0x02, true)
    | some cyc =>
      if !r then some (0x03, false)
      else if n < 1 ∨ n > 1024 ∨ n * cyc > 1024 then some (0x04, false)
      else none

/-- REP of the next instruction (R59, R60, R399). -/
def Dev.rep (d : Dev) (c : Nat) (count : Bank → Nat) (nextWord : Word) : Dev :=
  if d.canIssue c then
    let b := d.bank c (d.actBank c)
    match repCheck (d.get .C_STAT_MODE c) (count b) nextWord with
    | some (cause, atNext) => d.abort c cause (if atNext then b.pc + 1#13 else b.pc)
    | none => d.issueR c ({} : Issue) (fun x => { x with rep := count b })
  else d

/-- REP #n (R59). -/
def execRepN (c : Fin 24) (cnt : BitVec 10) (nextWord : BitVec 32) (s : State) := act s (fun d => d.rep c (fun _ => cnt.toNat + 1) nextWord)
/-- REP Ds (R59). -/
def execRepDs (c : Fin 24) (ds : BitVec 4) (nextWord : BitVec 32) (s : State) := act s (fun d => d.rep c (fun b => (b.rD ds).toNat) nextWord)
/-- MFS: SR or FST; other K is illegal (R43). -/
def execMfs (c : Fin 24) (dd : BitVec 4) (k : BitVec 3) (s : State) :=
  act s (fun d => d.issueR c { legal := decide (k.toNat ≤ 1) } (fun b => b.wD dd (if k = 0#3 then b.sr else b.fst)))
/-- MTS: reserved bits ignored (R38, R43). -/
def execMts (c : Fin 24) (dd : BitVec 4) (s : State) :=
  act s (fun d => d.issueR c ({} : Issue) (fun b => { b with sr := b.rD dd &&& 0x3FCF#32 }))
/-- NOP (R43). -/
def execNop (c : Fin 24) (s : State) := act s (fun d => d.issueR c ({} : Issue) (fun b => b))
/-- ILLEGAL_INSTRUCTION_ABORT: the fetched word is illegal, or not available in the mode (R41, R48, R51); a word that is neither
does not abort. -/
def execIllegalInstructionAbort (c : Fin 24) (word : BitVec 32) (s : State) :=
  act s (fun d =>
    if d.canIssue c then
      let b := d.bank c (d.actBank c)
      match cellWord word with
      | none => d.abort c 0x01 b.pc
      | some (k, _) => if (k.cycles (d.get .C_STAT_MODE c)).isNone then d.abort c 0x02 b.pc else d
    else d)

end Sys2Proof.Machine
end

