-- ==== Sys2Proof/Machine/CellFp.lean ====
section
/-!
DEFINITION. Cell FP32 functions (R46, R68).
-/

namespace Sys2Proof.Machine

/-- A result word and its flags. -/
def Bank.putF (b : Bank) (dd : BitVec 4) (r : Nat × FFlags) : Bank := { b.wD dd (BitVec.ofNat 32 r.1) with sr := fpSr b.sr r.2 }

/-- An FP32 function of two operands. -/
def Dev.cellFp2 (d : Dev) (c : Nat) (dd da db : BitVec 4) (f : Nat → Nat → Nat × FFlags) : Dev :=
  d.issueR c { cy := .fp, mulD := [da.toNat, db.toNat] } (fun b => b.putF dd (f (b.rD da).toNat (b.rD db).toNat))

/-- An FP32 function of one operand. -/
def Dev.cellFp1 (d : Dev) (c : Nat) (cy : CyKind) (dd da : BitVec 4) (f : Nat → Nat × FFlags) : Dev :=
  d.issueR c { cy := cy, mulD := [da.toNat] } (fun b => b.putF dd (f (b.rD da).toNat))

/-- A conversion result as a word. -/
def cvtOut {w : Nat} (r : BitVec w × FFlags) : Nat × FFlags := (r.1.toNat, r.2)

/-- FABS in a format: the sign bit cleared. -/
def fabsBits (f : Fmt) (x : Nat) : Nat × FFlags := (x % 2 ^ (f.eb + f.fb), {})

/-- FNEG in a format: the sign bit inverted. -/
def fnegBits (f : Fmt) (x : Nat) : Nat × FFlags := ((x + 2 ^ (f.eb + f.fb)) % 2 ^ (f.eb + f.fb + 1), {})

/-- FADD (R46). -/
def execFadd (c : Fin 24) (dd da db : BitVec 4) (s : State) := act s (fun d => d.cellFp2 c dd da db f32.add)
/-- FSUB (R46). -/
def execFsub (c : Fin 24) (dd da db : BitVec 4) (s : State) := act s (fun d => d.cellFp2 c dd da db f32.sub)
/-- FMUL (R46). -/
def execFmul (c : Fin 24) (dd da db : BitVec 4) (s : State) := act s (fun d => d.cellFp2 c dd da db f32.mul)
/-- FMIN (R46). -/
def execFmin (c : Fin 24) (dd da db : BitVec 4) (s : State) := act s (fun d => d.cellFp2 c dd da db (f32.minmax false))
/-- FMAX (R46). -/
def execFmax (c : Fin 24) (dd da db : BitVec 4) (s : State) := act s (fun d => d.cellFp2 c dd da db (f32.minmax true))
/-- FMA (R46). -/
def execFma (c : Fin 24) (dd da db dc : BitVec 4) (s : State) :=
  act s (fun d => d.issueR c { cy := .fp, mulD := [da.toNat, db.toNat, dc.toNat] } (fun b =>
    b.putF dd (f32.fma (b.rD da).toNat (b.rD db).toNat (b.rD dc).toNat)))
/-- FMS (R46). -/
def execFms (c : Fin 24) (dd da db dc : BitVec 4) (s : State) :=
  act s (fun d => d.issueR c { cy := .fp, mulD := [da.toNat, db.toNat, dc.toNat] } (fun b =>
    b.putF dd (f32.fms (b.rD da).toNat (b.rD db).toNat (b.rD dc).toNat)))
/-- FABS (R46, R68). -/
def execFabs (c : Fin 24) (dd da : BitVec 4) (s : State) := act s (fun d => d.cellFp1 c .fp dd da (fabsBits f32))
/-- FNEG (R46, R68). -/
def execFneg (c : Fin 24) (dd da : BitVec 4) (s : State) := act s (fun d => d.cellFp1 c .fp dd da (fnegBits f32))
/-- FRCP (R46, R68). -/
def execFrcp (c : Fin 24) (dd da : BitVec 4) (s : State) := act s (fun d => d.cellFp1 c .frcp dd da f32.rcp)
/-- CVTQF (R46, R68). -/
def execCvtqf (c : Fin 24) (dd da : BitVec 4) (s : State) := act s (fun d => d.cellFp1 c .fp dd da (fun x => f32.ofInt false (sNat 32 x) (-31)))
/-- CVTFQ (R46, R68). -/
def execCvtfq (c : Fin 24) (dd da : BitVec 4) (s : State) := act s (fun d => d.cellFp1 c .fp dd da (fun x => cvtOut (f32.toInt 32 31 x)))
/-- CVTIF (R46, R68). -/
def execCvtif (c : Fin 24) (dd da : BitVec 4) (s : State) := act s (fun d => d.cellFp1 c .fp dd da (fun x => f32.ofInt false (sNat 32 x) 0))
/-- CVTFI (R46, R68). -/
def execCvtfi (c : Fin 24) (dd da : BitVec 4) (s : State) := act s (fun d => d.cellFp1 c .fp dd da (fun x => cvtOut (f32.toInt 32 0 x)))
/-- FCMP (R46). -/
def execFcmp (c : Fin 24) (da db : BitVec 4) (s : State) :=
  act s (fun d => d.issueR c { cy := .fp, mulD := [da.toNat, db.toNat] } (fun b =>
    { b with sr := fcmpSr b.sr (f32.cmp (b.rD da).toNat (b.rD db).toNat) }))

end Sys2Proof.Machine
end

