-- ==== Sys2Proof/Machine/CellMem.lean ====
section
/-!
DEFINITION. Cell loads and stores (R42, R43, R53) and address registers (R37, R42).
-/

namespace Sys2Proof.Machine

/-- The issue record of an L-format instruction (R42, R52). -/
def lIssue (p : BitVec 3) (am : BitVec 2) (m : BitVec 3) (ofs : BitVec 14) (wr : Hazard) : Issue :=
  { legal := lLegal am.toNat m.toNat ofs.toNat, rep := true, wr := wr,
    addr := if am.toNat % 2 = 1 then modUses p m else [(0, p.toNat)] }

/-- The issue record of a D-format instruction with X and Y (R42, R52). -/
def xyIssue (cy : CyKind) (px mx py my : BitVec 3) (ux uy : Bool) (ac : Nat) (mulD : List Nat) (wr : Hazard) : Issue :=
  { legal := dLegal mx.toNat my.toNat ac ux uy, cy := cy, rep := true, mulD := mulD, wr := wr,
    addr := (if ux then modUses px mx else [(0, px.toNat)]) ++ (if uy then modUses py my else [(0, py.toNat)]) }

/-- The issue record of a D-format instruction with X alone. -/
def xIssue (px mx : BitVec 3) (ux : Bool) (ac : Nat) (mulD : List Nat) (wr : Hazard) : Issue :=
  { legal := dLegal mx.toNat 0 ac ux false, cy := .one, rep := true, mulD := mulD, wr := wr,
    addr := if ux then modUses px mx else [(0, px.toNat)] }

/-- LD (R43, R53); `sec` says that SECDED corrected a single-bit error of the word read, which is counted and reported (R11, R49, R306). -/
def execLd (c : Fin 24) (dd : BitVec 4) (p : BitVec 3) (am : BitVec 2) (m : BitVec 3) (ofs : BitVec 14) (sec : Bool) (s : State) :=
  act s (fun d => d.issue c (lIssue p am m ofs (hzD [dd.toNat])) (fun d b =>
    let r := b.lAddr p am m ofs
    (if sec then (d.bumpSat .C_STAT_SEC_CNT c).report 0 (srcOf 1 0 c) 0x01 0x01 else d, r.2.wD dd (d.dmRead c r.1))))
/-- ST (R43, R53, R315). -/
def execSt (c : Fin 24) (dd : BitVec 4) (p : BitVec 3) (am : BitVec 2) (m : BitVec 3) (ofs : BitVec 14) (s : State) :=
  act s (fun d => d.issue c (lIssue p am m ofs (hzD [])) (fun d b =>
    let r := b.lAddr p am m ofs
    (d.dmWrite c r.1 (b.rD dd), r.2)))
/-- LD2: DA := X, then DB := Y (R43). -/
def execLd2 (c : Fin 24) (da db : BitVec 4) (px mx py my : BitVec 3) (ux uy : Bool) (s : State) :=
  act s (fun d => d.issue c (xyIssue .twoAccess px mx py my ux uy 0 [] (hzD [da.toNat, db.toNat])) (fun d b =>
    let r := b.dAddr px mx py my ux uy
    (d, (r.2.2.wD da (d.dmRead c r.1)).wD db (d.dmRead c r.2.1))))
/-- MVM: the word at PY := X, read before it is written (R43, R56). -/
def execMvm (c : Fin 24) (px mx py my : BitVec 3) (ux uy : Bool) (s : State) :=
  act s (fun d => d.issue c (xyIssue .twoAccess px mx py my ux uy 0 [] (hzD [])) (fun d b =>
    let r := b.dAddr px mx py my ux uy
    (d.dmWrite c r.2.1 (d.dmRead c r.1), r.2.2)))
/-- SETA: from IMM or from DS, bits 13 to 0 (R42, R43). -/
def execSeta (c : Fin 24) (cl : BitVec 2) (idx : BitVec 3) (src : Bool) (ds : BitVec 4) (imm : BitVec 16) (s : State) :=
  act s (fun d => d.issueR c { legal := if src then decide (imm = 0#16) else decide (ds = 0#4), wr := hzAddr [(cl.toNat, idx.toNat)] }
    (fun b => b.wAddr cl idx (if src then (b.rD ds).truncate 14 else imm.truncate 14)))
/-- LEA (R43). -/
def execLea (c : Fin 24) (pd ps : BitVec 3) (ofs : BitVec 14) (s : State) :=
  act s (fun d => d.issueR c { addr := [(0, ps.toNat)], wr := hzAddr [(0, pd.toNat)] } (fun b => b.wP pd (b.rP ps + ofs)))
/-- GETA: zero-extended, sign-extended for M (R43). -/
def execGeta (c : Fin 24) (cl : BitVec 2) (idx : BitVec 3) (ds : BitVec 4) (s : State) :=
  act s (fun d => d.issueR c ({} : Issue) (fun b =>
    let v := b.rAddr cl idx
    b.wD ds (if cl = 1#2 then v.signExtend 32 else v.zeroExtend 32)))

end Sys2Proof.Machine
end

