-- ==== Sys2Proof/Machine/CellMac.lean ====
section
/-!
DEFINITION. Cell multiply-accumulate instructions (R42, R58, R66) and accumulator functions (R45, R66).
-/

namespace Sys2Proof.Machine

/-- The product of R66: doubled when F = 1. -/
def macProd (fr : Bool) (x y : Word) : Int := (if fr then 2 else 1) * (x.toInt * y.toInt)

/-- An exact accumulator result reduced modulo 2^80; AV when it lay outside (R66). -/
def Bank.putA (b : Bank) (an : BitVec 2) (v : Int) : Bank :=
  { b.wA an (BitVec.ofInt 80 v) with sr := stick b.sr srAV (!fitsS 80 v) }

/-- The accumulator operation AC of R42. -/
def Bank.accumulate (b : Bank) (ac : BitVec 2) (an : BitVec 2) (p : Int) : Bank :=
  b.putA an (match ac.toNat with
    | 0 => (b.rA an).toInt + p
    | 1 => (b.rA an).toInt - p
    | _ => p)

/-- QMAC (R58). -/
def execQmac (c : Fin 24) (px mx py my : BitVec 3) (ux uy : Bool) (fr : Bool) (ac : BitVec 2) (s : State) :=
  act s (fun d => d.issue c (xyIssue .qmac px mx py my ux uy ac.toNat [0, 1, 2, 3] (hzA [0, 1, 2, 3])) (fun d b =>
    let r := b.dAddr px mx py my ux uy
    let x := d.dmRead c r.1
    let y := d.dmRead c r.2.1
    (d, (((r.2.2.accumulate ac 0#2 (macProd fr x (b.rD 0#4))).accumulate ac 1#2 (macProd fr x (b.rD 1#4))).accumulate ac 2#2
      (macProd fr y (b.rD 2#4))).accumulate ac 3#2 (macProd fr y (b.rD 3#4)))))
/-- DMAC (R58). -/
def execDmac (c : Fin 24) (px mx : BitVec 3) (ux fr : Bool) (ac : BitVec 2) (s : State) :=
  act s (fun d => d.issue c (xIssue px mx ux ac.toNat [0, 1] (hzA [0, 1])) (fun d b =>
    let r := b.dAddr px mx 0#3 0#3 ux false
    let x := d.dmRead c r.1
    (d, (r.2.2.accumulate ac 0#2 (macProd fr x (b.rD 0#4))).accumulate ac 1#2 (macProd fr x (b.rD 1#4)))))
/-- SMAC (R58). -/
def execSmac (c : Fin 24) (an : BitVec 2) (db : BitVec 4) (px mx : BitVec 3) (ux fr : Bool) (ac : BitVec 2) (s : State) :=
  act s (fun d => d.issue c (xIssue px mx ux ac.toNat [db.toNat] (hzA [an.toNat])) (fun d b =>
    let r := b.dAddr px mx 0#3 0#3 ux false
    (d, r.2.2.accumulate ac an (macProd fr (d.dmRead c r.1) (b.rD db)))))
/-- XMAC (R58). -/
def execXmac (c : Fin 24) (an : BitVec 2) (px mx py my : BitVec 3) (ux uy : Bool) (fr : Bool) (ac : BitVec 2) (s : State) :=
  act s (fun d => d.issue c (xyIssue .twoAccess px mx py my ux uy ac.toNat [] (hzA [an.toNat])) (fun d b =>
    let r := b.dAddr px mx py my ux uy
    (d, r.2.2.accumulate ac an (macProd fr (d.dmRead c r.1) (d.dmRead c r.2.1)))))
/-- FMAC2, DUALF only: D4 := fma(X, D0, D4), D5 := fma(Y, D1, D5) (R43, R58). -/
def execFmac2 (c : Fin 24) (px mx py my : BitVec 3) (ux uy : Bool) (s : State) :=
  act s (fun d => d.issue c (xyIssue .fmac2 px mx py my ux uy 0 [0, 1, 4, 5] (hzD [])) (fun d b =>
    let r := b.dAddr px mx py my ux uy
    let u := f32.fma (d.dmRead c r.1).toNat (b.rD 0#4).toNat (b.rD 4#4).toNat
    let v := f32.fma (d.dmRead c r.2.1).toNat (b.rD 1#4).toNat (b.rD 5#4).toNat
    (d, { (r.2.2.wD 4#4 (BitVec.ofNat 32 u.1)).wD 5#4 (BitVec.ofNat 32 v.1) with sr := fpSr (fpSr b.sr u.2) v.2 })))

/-- MVA: A × 2^SH divided by 2^32, rounded by RM, saturated (R66). -/
def mvaOut (a : Accu) (sh : Nat) (rm : Bool) : Word × Bool :=
  let v := a.toInt * 2 ^ sh
  satS 32 (if rm then v / 2 ^ 32 else rne v (2 ^ 32))

/-- MVA (R45, R66). -/
def execMva (c : Fin 24) (dd : BitVec 4) (an : BitVec 2) (sh : BitVec 4) (rm : Bool) (s : State) :=
  act s (fun d => d.issueR c { accs := [an.toNat], wr := hzD [dd.toNat] } (fun b =>
    let o := mvaOut (b.rA an) sh.toNat rm
    { b.wD dd o.1 with sr := stick b.sr srSV o.2 }))
/-- MVD (R45). -/
def execMvd (c : Fin 24) (dd : BitVec 4) (an : BitVec 2) (s : State) :=
  act s (fun d => d.issueR c ({} : Issue) (fun b => b.wA an (BitVec.ofInt 80 ((b.rD dd).toInt * 2 ^ 32))))
/-- CLRA (R45). -/
def execClra (c : Fin 24) (an : BitVec 2) (s : State) := act s (fun d => d.issueR c ({} : Issue) (fun b => b.wA an 0#80))
/-- ADDA (R45). -/
def execAdda (c : Fin 24) (an as_ : BitVec 2) (s : State) :=
  act s (fun d => d.issueR c { accs := [an.toNat, as_.toNat] } (fun b => b.putA an ((b.rA an).toInt + (b.rA as_).toInt)))
/-- SUBA (R45). -/
def execSuba (c : Fin 24) (an as_ : BitVec 2) (s : State) :=
  act s (fun d => d.issueR c { accs := [an.toNat, as_.toNat] } (fun b => b.putA an ((b.rA an).toInt - (b.rA as_).toInt)))
/-- ASHA (R45). -/
def execAsha (c : Fin 24) (an : BitVec 2) (sh : BitVec 4) (s : State) :=
  act s (fun d => d.issueR c { accs := [an.toNat] } (fun b => b.wA an ((b.rA an).sshiftRight sh.toNat)))
/-- MVAL (R45). -/
def execMval (c : Fin 24) (dd : BitVec 4) (an : BitVec 2) (s : State) :=
  act s (fun d => d.issueR c { accs := [an.toNat], wr := hzD [dd.toNat] } (fun b => b.wD dd ((b.rA an).truncate 32)))

end Sys2Proof.Machine
end

