-- ==== Sys2Proof/Machine/CellTok.lean ====
section
/-!
DEFINITION. Cell token instructions and END (R62 to R65, R97).
-/

namespace Sys2Proof.Machine

/-- The token an EMIT launches; FTAG is that of the tick of the firing's output instant (R63, R97). -/
def Dev.emitTok (d : Dev) (b : Bank) (ds dq : BitVec 4) (ty : BitVec 2) (dest : BitVec 16) : Token :=
  { dest := dest, ty := BitVec.ofNat 8 (tyCode ty.toNat), qual := (b.rD dq).truncate 8, val := b.rD ds,
    ftag := BitVec.ofNat 16 (d.outputAt b.slot b.tick / 1000) }

/-- A token leaves through the cell's emit buffer. -/
def Dev.emitLaunch (d : Dev) (c slot tick : Nat) (t : Token) : Dev := d.launch { tok := t, prod := .cell c, slot := slot, tick := tick }

/-- EMIT: with a full buffer it waits (R63, R64). -/
def execEmit (c : Fin 24) (ds dq : BitVec 4) (ty : BitVec 2) (dest : BitVec 16) (s : State) :=
  act s (fun d => d.issue c ({} : Issue) (fun d b =>
    let t := d.emitTok b ds dq ty dest
    if d.waitingAt (.cell c) ≥ 8 then (d, { b with waiting := some t }) else (d.emitLaunch c b.slot b.tick t, b)))
/-- EMIT_BUFFER_PLACE_FREED: the waiting EMIT completes (R64). -/
def execEmitBufferPlaceFreed (c : Fin 24) (s : State) :=
  act s (fun d =>
    let a := d.actBank c
    let b := d.bank c a
    match b.waiting with
    | some t =>
      if d.loopRuns && d.on .x_RUNB c && decide (d.waitingAt (.cell c) < 8) then
        (d.emitLaunch c b.slot b.tick t).setBank c a { b with waiting := none }
      else d
    | none => d)
/-- QTST (R62). -/
def execQtst (c : Fin 24) (k : BitVec 3) (mask : BitVec 8) (s : State) :=
  act s (fun d => d.issueR c ({} : Issue) (fun b => { b with sr := setBit b.sr srT (decide (b.rQ k &&& mask ≠ 0#8)) }))
/-- QOR (R43). -/
def execQor (c : Fin 24) (dd : BitVec 4) (mask : BitVec 8) (s : State) :=
  act s (fun d => d.issueR c ({} : Issue) (fun b =>
    b.wD dd (((List.range 8).foldl (fun (x : Byte) i => if mask.getLsbD i then x ||| vget b.q i 0#8 else x) 0#8).zeroExtend 32)))
/-- QGET (R43). -/
def execQget (c : Fin 24) (dd : BitVec 4) (k : BitVec 3) (s : State) :=
  act s (fun d => d.issueR c ({} : Issue) (fun b => b.wD dd ((b.rQ k).zeroExtend 32)))
/-- HTST (R62). -/
def execHtst (c : Fin 24) (s : State) :=
  act s (fun d => d.issueR c ({} : Issue) (fun b => { b with sr := setBit b.sr srT (bitOf b.fst 8) }))

/-- The executing firing ends: OVR by its measured cycles, its fate by the cut-off, its bank released (R55, R65, R70, R72). The
dispatcher's cycles among them, up to the bound of R55, are a free value. -/
def Dev.endFiring (d : Dev) (c : Nat) : Dev :=
  let b := d.bank c (d.actBank c)
  let n := b.cycles + 1
  let (v, d) := d.fresh
  let d := if n + v % ((n + 14) / 15 + 1) > d.get .SLOT_WCET_WCET b.slot then d.put .SLOT_WCET_OVR b.slot 1 else d
  (d.setFate b.slot b.tick (if d.now ≤ d.cutoffAt b.slot b.tick then .inTime else .ended)).release c

/-- END (R43, R65). A REP never precedes it (R59). -/
def execEnd_ (c : Fin 24) (s : State) :=
  act s (fun d =>
    if d.canIssue c then
      let b := d.bank c (d.actBank c)
      if b.rep ≠ 0 then d.abort c 0x03 (b.pc - 1#13) else d.endFiring c
    else d)

end Sys2Proof.Machine
end

