-- ==== Sys2Proof/Machine/TaskAlu.lean ====
section
/-!
DEFINITION. Task register arithmetic and logic at 64 bits (R112).
-/

namespace Sys2Proof.Machine

/-- A function of two registers with SR. -/
def Dev.taskAlu (d : Dev) (k cyc : Nat) (xd xa xb : BitVec 5) (f : DWord → DWord → AluOut 64) : Dev :=
  d.issueX k true cyc (fun c =>
    let o := f (c.rX xa) (c.rX xb)
    { c.wX xd o.res with sr := aluSr c.sr o })

/-- A function of one register with SR. -/
def Dev.taskAlu1 (d : Dev) (k : Nat) (xd xa : BitVec 5) (f : DWord → AluOut 64) : Dev :=
  d.issueX k true 1 (fun c =>
    let o := f (c.rX xa)
    { c.wX xd o.res with sr := aluSr c.sr o })

/-- A result with SR, and V set where a condition holds (R112). -/
def Dev.taskDiv (d : Dev) (k : Nat) (xd xa xb : BitVec 5) (f : DWord → DWord → DWord × Bool) : Dev :=
  d.issueX k true 34 (fun c =>
    let o := f (c.rX xa) (c.rX xb)
    { c.wX xd o.1 with sr := stick (aluSr c.sr (plain o.1)) srV o.2 })

/-- MULH: bits 127 to 64 of the signed product. -/
def opMulh (a b : DWord) : AluOut 64 := plain (BitVec.ofInt 64 (a.toInt * b.toInt / 2 ^ 64))

/-- DIV: truncated towards zero; 0 with V for a division by zero; −2^63 with V for −2^63 by −1. -/
def opDiv (a b : DWord) : DWord × Bool :=
  if b = 0#64 then (0#64, true)
  else (BitVec.ofInt 64 (a.toInt.tdiv b.toInt), decide (a.toInt = minS 64) && decide (b.toInt = -1))

/-- DIVU. -/
def opDivu (a b : DWord) : DWord × Bool := if b = 0#64 then (0#64, true) else (BitVec.ofNat 64 (a.toNat / b.toNat), false)

/-- REM: the sign of the dividend; the dividend with V for a division by zero. -/
def opRem (a b : DWord) : DWord × Bool :=
  if b = 0#64 then (a, true) else (BitVec.ofInt 64 (a.toInt.tmod b.toInt), false)

/-- ADD (R112). -/
def execTaskAdd (k : Fin 4) (xd xa xb : BitVec 5) (s : State) := act s (fun d => d.taskAlu k 1 xd xa xb opAdd)
/-- ADDS (R112). -/
def execTaskAdds (k : Fin 4) (xd xa xb : BitVec 5) (s : State) := act s (fun d => d.taskAlu k 1 xd xa xb opAdds)
/-- SUB (R112). -/
def execTaskSub (k : Fin 4) (xd xa xb : BitVec 5) (s : State) := act s (fun d => d.taskAlu k 1 xd xa xb opSub)
/-- SUBS (R112). -/
def execTaskSubs (k : Fin 4) (xd xa xb : BitVec 5) (s : State) := act s (fun d => d.taskAlu k 1 xd xa xb opSubs)
/-- AND (R112). -/
def execTaskAnd (k : Fin 4) (xd xa xb : BitVec 5) (s : State) := act s (fun d => d.taskAlu k 1 xd xa xb opAnd)
/-- OR (R112). -/
def execTaskOr (k : Fin 4) (xd xa xb : BitVec 5) (s : State) := act s (fun d => d.taskAlu k 1 xd xa xb opOr)
/-- XOR (R112). -/
def execTaskXor (k : Fin 4) (xd xa xb : BitVec 5) (s : State) := act s (fun d => d.taskAlu k 1 xd xa xb opXor)
/-- MIN (R112). -/
def execTaskMin (k : Fin 4) (xd xa xb : BitVec 5) (s : State) := act s (fun d => d.taskAlu k 1 xd xa xb opMin)
/-- MAX (R112). -/
def execTaskMax (k : Fin 4) (xd xa xb : BitVec 5) (s : State) := act s (fun d => d.taskAlu k 1 xd xa xb opMax)
/-- CMP (R112). -/
def execTaskCmp (k : Fin 4) (xa xb : BitVec 5) (s : State) :=
  act s (fun d => d.issueX k true 1 (fun c => { c with sr := aluSr c.sr (opSub (c.rX xa) (c.rX xb)) }))
/-- ABS (R112). -/
def execTaskAbs (k : Fin 4) (xd xa : BitVec 5) (s : State) := act s (fun d => d.taskAlu1 k xd xa opAbs)
/-- NEG (R112). -/
def execTaskNeg (k : Fin 4) (xd xa : BitVec 5) (s : State) := act s (fun d => d.taskAlu1 k xd xa opNeg)
/-- NEGS (R112). -/
def execTaskNegs (k : Fin 4) (xd xa : BitVec 5) (s : State) := act s (fun d => d.taskAlu1 k xd xa opNegs)
/-- MOV (R112). -/
def execTaskMov (k : Fin 4) (xd xa : BitVec 5) (s : State) := act s (fun d => d.taskAlu1 k xd xa plain)
/-- ASR by XB[6:0] (R112). -/
def execTaskAsr (k : Fin 4) (xd xa xb : BitVec 5) (s : State) :=
  act s (fun d => d.taskAlu k 1 xd xa xb (fun x y => opAsr x (y.toNat % 128)))
/-- LSR by XB[6:0] (R112). -/
def execTaskLsr (k : Fin 4) (xd xa xb : BitVec 5) (s : State) :=
  act s (fun d => d.taskAlu k 1 xd xa xb (fun x y => opLsr x (y.toNat % 128)))
/-- LSL by XB[6:0] (R112). -/
def execTaskLsl (k : Fin 4) (xd xa xb : BitVec 5) (s : State) :=
  act s (fun d => d.taskAlu k 1 xd xa xb (fun x y => opLsl x (y.toNat % 128)))
/-- MUL (R112). -/
def execTaskMul (k : Fin 4) (xd xa xb : BitVec 5) (s : State) := act s (fun d => d.taskAlu k 3 xd xa xb opMul)
/-- MULH (R112). -/
def execMulh (k : Fin 4) (xd xa xb : BitVec 5) (s : State) := act s (fun d => d.taskAlu k 3 xd xa xb opMulh)
/-- DIV (R112). -/
def execDiv (k : Fin 4) (xd xa xb : BitVec 5) (s : State) := act s (fun d => d.taskDiv k xd xa xb opDiv)
/-- DIVU (R112). -/
def execDivu (k : Fin 4) (xd xa xb : BitVec 5) (s : State) := act s (fun d => d.taskDiv k xd xa xb opDivu)
/-- REM (R112). -/
def execRem (k : Fin 4) (xd xa xb : BitVec 5) (s : State) := act s (fun d => d.taskDiv k xd xa xb opRem)
/-- ADDI (R112). -/
def execTaskAddi (k : Fin 4) (xd xa : BitVec 5) (imm : BitVec 16) (s : State) :=
  act s (fun d => d.taskAlu1 k xd xa (fun x => opAdd x (imm.signExtend 64)))
/-- MOVL (R112). -/
def execTaskMovl (k : Fin 4) (xd : BitVec 5) (imm : BitVec 16) (s : State) :=
  act s (fun d => d.taskAlu1 k xd xd (fun _ => plain (imm.signExtend 64)))
/-- ANDI (R112). -/
def execTaskAndi (k : Fin 4) (xd xa : BitVec 5) (imm : BitVec 16) (s : State) :=
  act s (fun d => d.taskAlu1 k xd xa (fun x => opAnd x (imm.zeroExtend 64)))
/-- ORI (R112). -/
def execTaskOri (k : Fin 4) (xd xa : BitVec 5) (imm : BitVec 16) (s : State) :=
  act s (fun d => d.taskAlu1 k xd xa (fun x => opOr x (imm.zeroExtend 64)))
/-- The low `n` bits of a 64-bit mask. -/
def mask64 (n : Nat) : DWord := BitVec.ofNat 64 (2 ^ n - 1)
/-- MOVK: the part k is 0 to 3; flags are not written (R44, R112). -/
def execMovk (k : Fin 4) (xd part : BitVec 5) (imm : BitVec 16) (s : State) :=
  act s (fun d => d.issueX k (decide (part.toNat ≤ 3)) 1 (fun c =>
    let sh := 16 * part.toNat
    c.wX xd ((c.rX xd &&& ~~~(mask64 16 <<< sh)) ||| (imm.zeroExtend 64 <<< sh))))

end Sys2Proof.Machine
end

