-- ==== Sys2Proof/Machine/TaskCtl.lean ====
section
/-!
DEFINITION. Task bit logic and control flow (R112, R113).
-/

namespace Sys2Proof.Machine

/-- A bit-logic function of two registers; no flags (R44, R113). -/
def Dev.taskBit (d : Dev) (k : Nat) (xd xa xb : BitVec 5) (f : DWord → Nat → DWord) : Dev :=
  d.issueX k true 1 (fun c => c.wX xd (f (c.rX xa) ((c.rX xb).toNat % 64)))

/-- A bit-logic function of one register. -/
def Dev.taskBit1 (d : Dev) (k : Nat) (xd xa : BitVec 5) (f : DWord → DWord) : Dev :=
  d.issueX k true 1 (fun c => c.wX xd (f (c.rX xa)))

/-- BSET (R113). -/
def execBset (k : Fin 4) (xd xa xb : BitVec 5) (s : State) := act s (fun d => d.taskBit k xd xa xb (fun x i => setBit x i true))
/-- BCLR (R113). -/
def execBclr (k : Fin 4) (xd xa xb : BitVec 5) (s : State) := act s (fun d => d.taskBit k xd xa xb (fun x i => setBit x i false))
/-- BTST: T (R113). -/
def execBtst (k : Fin 4) (xa xb : BitVec 5) (s : State) :=
  act s (fun d => d.issueX k true 1 (fun c => { c with sr := setBit c.sr srT (bitOf (c.rX xa) ((c.rX xb).toNat % 64)) }))
/-- BFX: bits beyond bit 63 read 0 (R113). -/
def execBfx (k : Fin 4) (xd xa xb xc : BitVec 5) (s : State) :=
  act s (fun d => d.issueX k true 1 (fun c =>
    c.wX xd ((c.rX xa >>> ((c.rX xb).toNat % 64)) &&& mask64 ((c.rX xc).toNat % 64 + 1))))
/-- BFI: bits beyond bit 63 are not written (R113). -/
def execBfi (k : Fin 4) (xd xa xb xc : BitVec 5) (s : State) :=
  act s (fun d => d.issueX k true 1 (fun c =>
    let sh := (c.rX xb).toNat % 64
    let m := mask64 ((c.rX xc).toNat % 64 + 1) <<< sh
    c.wX xd ((c.rX xd &&& ~~~m) ||| ((c.rX xa <<< sh) &&& m))))
/-- CLZ (R113). -/
def execClz (k : Fin 4) (xd xa : BitVec 5) (s : State) := act s (fun d => d.taskBit1 k xd xa (fun x => BitVec.ofNat 64 (clzNat 64 x.toNat)))
/-- POPC (R113). -/
def execPopc (k : Fin 4) (xd xa : BitVec 5) (s : State) := act s (fun d => d.taskBit1 k xd xa (fun x => BitVec.ofNat 64 (popcNat 64 x.toNat)))
/-- ROL (R113). -/
def execRol (k : Fin 4) (xd xa xb : BitVec 5) (s : State) := act s (fun d => d.taskBit k xd xa xb (fun x i => x.rotateLeft i))
/-- ROR (R113). -/
def execRor (k : Fin 4) (xd xa xb : BitVec 5) (s : State) := act s (fun d => d.taskBit k xd xa xb (fun x i => x.rotateRight i))
/-- SXW (R113). -/
def execSxw (k : Fin 4) (xd xa : BitVec 5) (s : State) := act s (fun d => d.taskBit1 k xd xa (fun x => (x.truncate 32).signExtend 64))
/-- ZXW (R113). -/
def execZxw (k : Fin 4) (xd xa : BitVec 5) (s : State) := act s (fun d => d.taskBit1 k xd xa (fun x => (x.truncate 32).zeroExtend 64))
/-- SXH (R113). -/
def execSxh (k : Fin 4) (xd xa : BitVec 5) (s : State) := act s (fun d => d.taskBit1 k xd xa (fun x => (x.truncate 16).signExtend 64))
/-- SXB (R113). -/
def execSxb (k : Fin 4) (xd xa : BitVec 5) (s : State) := act s (fun d => d.taskBit1 k xd xa (fun x => (x.truncate 8).signExtend 64))

/-- The address `ofs` words from the instruction at `pc` (R111). -/
def relTarget (pc : Nat) (ofs : BitVec 22) : Nat := uInt 28 ((pc : Int) + 4 * ofs.toInt)

/-- BR: PC-relative from its own address (R111, R112). -/
def execTaskBr (k : Fin 4) (cond : BitVec 4) (ofs : BitVec 22) (s : State) :=
  act s (fun d => d.issueT k (condLegal cond) 1 (fun n d =>
    if condHolds (d.ctx n).sr cond then
      (d.put .TASK_STAT_PC n (relTarget (d.get .TASK_STAT_PC n + 2 ^ 28 - 4) ofs)).bump .TASK_RUN n 1
    else d))
/-- CALL: X31 := PC + 4 (R112). -/
def execTaskCall (k : Fin 4) (ofs : BitVec 22) (s : State) :=
  act s (fun d => d.issueT k true 2 (fun n d =>
    let pc := d.get .TASK_STAT_PC n
    (d.setX n 31#5 (BitVec.ofNat 64 pc)).put .TASK_STAT_PC n (relTarget (pc + 2 ^ 28 - 4) ofs)))
/-- RET: PC := X31[27:0] (R112). -/
def execTaskRet (k : Fin 4) (cond : BitVec 4) (s : State) :=
  act s (fun d => d.issueT k (condLegal cond) 1 (fun n d =>
    if condHolds (d.ctx n).sr cond then (d.put .TASK_STAT_PC n ((d.ctx n).rX 31#5).toNat).bump .TASK_RUN n 1 else d))
/-- JR: PC := XA[27:0] (R112). -/
def execJr (k : Fin 4) (xa : BitVec 5) (s : State) :=
  act s (fun d => d.issueT k true 2 (fun n d => d.put .TASK_STAT_PC n ((d.ctx n).rX xa).toNat))
/-- MFS (R109). -/
def execTaskMfs (k : Fin 4) (xd : BitVec 5) (s : State) := act s (fun d => d.issueX k true 1 (fun c => c.wX xd (c.sr.zeroExtend 64)))
/-- MTS: reserved bits and AV ignored (R109). -/
def execTaskMts (k : Fin 4) (xa : BitVec 5) (s : State) :=
  act s (fun d => d.issueX k true 1 (fun c => { c with sr := (c.rX xa).truncate 32 &&& 0xF7CF#32 }))
/-- NOP. -/
def execTaskNop (k : Fin 4) (s : State) := act s (fun d => d.issueX k true 1 (fun c => c))

end Sys2Proof.Machine
end

