-- ==== Sys2Proof/Machine/TaskFp.lean ====
section
/-!
DEFINITION. Task FP32 and FP64 functions (R112, R113).
-/

namespace Sys2Proof.Machine

/-- A floating-point result, zero-extended, with SR. -/
def TaskCtx.putF (c : TaskCtx) (xd : BitVec 5) (r : Nat × FFlags) : TaskCtx :=
  { c.wX xd (BitVec.ofNat 64 r.1) with sr := fpSr c.sr r.2 }

/-- The bits of a register that a format reads: 31 to 0 for binary32. -/
def TaskCtx.rF (c : TaskCtx) (f : Fmt) (i : BitVec 5) : Nat := (c.rX i).toNat % 2 ^ (f.eb + f.fb + 1)

/-- A function of two operands in a format. -/
def Dev.taskFp2 (d : Dev) (k : Nat) (f : Fmt) (cyc : Nat) (xd xa xb : BitVec 5) (op : Nat → Nat → Nat × FFlags) : Dev :=
  d.issueX k true cyc (fun c => c.putF xd (op (c.rF f xa) (c.rF f xb)))

/-- A function of three operands in a format. -/
def Dev.taskFp3 (d : Dev) (k : Nat) (f : Fmt) (xd xa xb xc : BitVec 5) (op : Nat → Nat → Nat → Nat × FFlags) : Dev :=
  d.issueX k true 4 (fun c => c.putF xd (op (c.rF f xa) (c.rF f xb) (c.rF f xc)))

/-- A function of one operand in a format. -/
def Dev.taskFp1 (d : Dev) (k : Nat) (f : Fmt) (cyc : Nat) (xd xa : BitVec 5) (op : Nat → Nat × FFlags) : Dev :=
  d.issueX k true cyc (fun c => c.putF xd (op (c.rF f xa)))

/-- FCMP in a format. -/
def Dev.taskFcmp (d : Dev) (k : Nat) (f : Fmt) (xa xb : BitVec 5) : Dev :=
  d.issueX k true 4 (fun c => { c with sr := fcmpSr c.sr (f.cmp (c.rF f xa) (c.rF f xb)) })

/-- FADD in f32 (R112, R113). -/
def execTaskFadd (k : Fin 4) (xd xa xb : BitVec 5) (s : State) := act s (fun d => d.taskFp2 k f32 4 xd xa xb (f32.add))
/-- FSUB in f32 (R112, R113). -/
def execTaskFsub (k : Fin 4) (xd xa xb : BitVec 5) (s : State) := act s (fun d => d.taskFp2 k f32 4 xd xa xb (f32.sub))
/-- FMUL in f32 (R112, R113). -/
def execTaskFmul (k : Fin 4) (xd xa xb : BitVec 5) (s : State) := act s (fun d => d.taskFp2 k f32 4 xd xa xb (f32.mul))
/-- FMIN in f32 (R112, R113). -/
def execTaskFmin (k : Fin 4) (xd xa xb : BitVec 5) (s : State) := act s (fun d => d.taskFp2 k f32 4 xd xa xb (f32.minmax false))
/-- FMAX in f32 (R112, R113). -/
def execTaskFmax (k : Fin 4) (xd xa xb : BitVec 5) (s : State) := act s (fun d => d.taskFp2 k f32 4 xd xa xb (f32.minmax true))
/-- FMA in f32. -/
def execTaskFma (k : Fin 4) (xd xa xb xc : BitVec 5) (s : State) := act s (fun d => d.taskFp3 k f32 xd xa xb xc f32.fma)
/-- FMS in f32. -/
def execTaskFms (k : Fin 4) (xd xa xb xc : BitVec 5) (s : State) := act s (fun d => d.taskFp3 k f32 xd xa xb xc f32.fms)
/-- FABS in f32. -/
def execTaskFabs (k : Fin 4) (xd xa : BitVec 5) (s : State) := act s (fun d => d.taskFp1 k f32 4 xd xa (fabsBits f32))
/-- FNEG in f32. -/
def execTaskFneg (k : Fin 4) (xd xa : BitVec 5) (s : State) := act s (fun d => d.taskFp1 k f32 4 xd xa (fnegBits f32))
/-- FRCP in f32. -/
def execTaskFrcp (k : Fin 4) (xd xa : BitVec 5) (s : State) := act s (fun d => d.taskFp1 k f32 20 xd xa f32.rcp)
/-- CVTFQ in f32. -/
def execTaskCvtfq (k : Fin 4) (xd xa : BitVec 5) (s : State) := act s (fun d => d.taskFp1 k f32 4 xd xa (fun x => cvtOut (f32.toInt 32 31 x)))
/-- CVTFI in f32. -/
def execTaskCvtfi (k : Fin 4) (xd xa : BitVec 5) (s : State) := act s (fun d => d.taskFp1 k f32 4 xd xa (fun x => cvtOut (f32.toInt 32 0 x)))
/-- CVTQF in f32: from bits 31 to 0. -/
def execTaskCvtqf (k : Fin 4) (xd xa : BitVec 5) (s : State) := act s (fun d => d.taskFp1 k f32 4 xd xa (fun x => f32.ofInt false (sNat 32 x) (-31)))
/-- CVTIF in f32: from bits 31 to 0. -/
def execTaskCvtif (k : Fin 4) (xd xa : BitVec 5) (s : State) := act s (fun d => d.taskFp1 k f32 4 xd xa (fun x => f32.ofInt false (sNat 32 x) 0))
/-- FCMP in f32. -/
def execTaskFcmp (k : Fin 4) (xa xb : BitVec 5) (s : State) := act s (fun d => d.taskFcmp k f32 xa xb)
/-- FADD in f64 (R112, R113). -/
def execFp64Fadd (k : Fin 4) (xd xa xb : BitVec 5) (s : State) := act s (fun d => d.taskFp2 k f64 4 xd xa xb (f64.add))
/-- FSUB in f64 (R112, R113). -/
def execFp64Fsub (k : Fin 4) (xd xa xb : BitVec 5) (s : State) := act s (fun d => d.taskFp2 k f64 4 xd xa xb (f64.sub))
/-- FMUL in f64 (R112, R113). -/
def execFp64Fmul (k : Fin 4) (xd xa xb : BitVec 5) (s : State) := act s (fun d => d.taskFp2 k f64 4 xd xa xb (f64.mul))
/-- FMIN in f64 (R112, R113). -/
def execFp64Fmin (k : Fin 4) (xd xa xb : BitVec 5) (s : State) := act s (fun d => d.taskFp2 k f64 4 xd xa xb (f64.minmax false))
/-- FMAX in f64 (R112, R113). -/
def execFp64Fmax (k : Fin 4) (xd xa xb : BitVec 5) (s : State) := act s (fun d => d.taskFp2 k f64 4 xd xa xb (f64.minmax true))
/-- FMA in f64. -/
def execFp64Fma (k : Fin 4) (xd xa xb xc : BitVec 5) (s : State) := act s (fun d => d.taskFp3 k f64 xd xa xb xc f64.fma)
/-- FMS in f64. -/
def execFp64Fms (k : Fin 4) (xd xa xb xc : BitVec 5) (s : State) := act s (fun d => d.taskFp3 k f64 xd xa xb xc f64.fms)
/-- FABS in f64. -/
def execFp64Fabs (k : Fin 4) (xd xa : BitVec 5) (s : State) := act s (fun d => d.taskFp1 k f64 4 xd xa (fabsBits f64))
/-- FNEG in f64. -/
def execFp64Fneg (k : Fin 4) (xd xa : BitVec 5) (s : State) := act s (fun d => d.taskFp1 k f64 4 xd xa (fnegBits f64))
/-- FRCP in f64. -/
def execFp64Frcp (k : Fin 4) (xd xa : BitVec 5) (s : State) := act s (fun d => d.taskFp1 k f64 20 xd xa f64.rcp)
/-- CVTFQ in f64. -/
def execFp64Cvtfq (k : Fin 4) (xd xa : BitVec 5) (s : State) := act s (fun d => d.taskFp1 k f64 4 xd xa (fun x => cvtOut (f64.toInt 32 31 x)))
/-- CVTFI in f64. -/
def execFp64Cvtfi (k : Fin 4) (xd xa : BitVec 5) (s : State) := act s (fun d => d.taskFp1 k f64 4 xd xa (fun x => cvtOut (f64.toInt 32 0 x)))
/-- CVTQF in f64: from bits 31 to 0. -/
def execFp64Cvtqf (k : Fin 4) (xd xa : BitVec 5) (s : State) := act s (fun d => d.taskFp1 k f32 4 xd xa (fun x => f64.ofInt false (sNat 32 x) (-31)))
/-- CVTIF in f64: from bits 31 to 0. -/
def execFp64Cvtif (k : Fin 4) (xd xa : BitVec 5) (s : State) := act s (fun d => d.taskFp1 k f32 4 xd xa (fun x => f64.ofInt false (sNat 32 x) 0))
/-- FCMP in f64. -/
def execFp64Fcmp (k : Fin 4) (xa xb : BitVec 5) (s : State) := act s (fun d => d.taskFcmp k f64 xa xb)
/-- FDIV (R113). -/
def execFdiv (k : Fin 4) (xd xa xb : BitVec 5) (s : State) := act s (fun d => d.taskFp2 k f64 20 xd xa xb f64.div)
/-- FSQRT (R113). -/
def execFsqrt (k : Fin 4) (xd xa : BitVec 5) (s : State) := act s (fun d => d.taskFp1 k f64 24 xd xa f64.sqrt)
/-- CVTDS (R113). -/
def execCvtds (k : Fin 4) (xd xa : BitVec 5) (s : State) := act s (fun d => d.taskFp1 k f64 4 xd xa (f64.conv f32))
/-- CVTSD (R113). -/
def execCvtsd (k : Fin 4) (xd xa : BitVec 5) (s : State) := act s (fun d => d.taskFp1 k f32 4 xd xa (f32.conv f64))
/-- CVTLD (R113). -/
def execCvtld (k : Fin 4) (xd xa : BitVec 5) (s : State) := act s (fun d => d.taskFp1 k f64 4 xd xa (fun x => f64.ofInt false (sNat 64 x) 0))
/-- CVTDL (R113). -/
def execCvtdl (k : Fin 4) (xd xa : BitVec 5) (s : State) := act s (fun d => d.taskFp1 k f64 4 xd xa (fun x => cvtOut (f64.toInt 64 0 x)))

end Sys2Proof.Machine
end

