-- ==== Sys2Proof/Machine/TaskIllegal.lean ====
section
/-!
DEFINITION. Which words a task core executes (R111 to R113), and the fault that any other word takes (R115).
-/

namespace Sys2Proof.Machine

/-- The fields of format TR that a function leaves unused, XD, XA, XB and XC in this order, are 0 (R111). -/
def trUnused (w : Nat) (xd xa xb xc : Bool) : Bool :=
  (!xd || decide (fld w 25 21 = 0)) && (!xa || decide (fld w 20 16 = 0)) && (!xb || decide (fld w 15 11 = 0)) && (!xc || decide (fld w 10 6 = 0))

/-- Legal functions of the ALU group (R44, R112): MULQ and RCPQ are illegal in a task. -/
def taskAluLegal (w : Nat) : Bool :=
  let fn := fld w 5 0
  if fn = 0x04 then trUnused w true false false true
  else if fn = 0x0A ∨ fn = 0x0B ∨ fn = 0x0C ∨ fn = 0x13 then trUnused w false false true true
  else if fn = 0x11 ∨ fn = 0x12 then false
  else decide (fn ≤ 0x17) && trUnused w false false false true

/-- Legal functions of R46 in a task. -/
def taskFpLegal (w : Nat) : Bool :=
  let fn := fld w 5 0
  if fn = 0x03 ∨ fn = 0x04 then true
  else if fn = 0x09 then trUnused w true false false true
  else if fn ≤ 0x06 then trUnused w false false false true
  else decide (fn ≤ 0x0E) && trUnused w false false true true

/-- Legal functions of the FP64 group (R113). -/
def taskFp64Legal (w : Nat) : Bool :=
  let fn := fld w 5 0
  if fn = 0x10 then trUnused w false false false true
  else if 0x11 ≤ fn ∧ fn ≤ 0x15 then trUnused w false false true true
  else taskFpLegal w

/-- Legal functions of the BIT group (R113). -/
def taskBitLegal (w : Nat) : Bool :=
  let fn := fld w 5 0
  if fn = 0x02 then trUnused w true false false true
  else if fn = 0x03 ∨ fn = 0x04 then true
  else if fn = 0x05 ∨ fn = 0x06 then trUnused w false false true true
  else if fn = 0x00 ∨ fn = 0x01 ∨ fn = 0x07 ∨ fn = 0x08 then trUnused w false false false true
  else decide (fn ≤ 0x0C) && trUnused w false false true true

/-- Legal functions of the FLAG group (R113). -/
def taskFlagLegal (w : Nat) : Bool :=
  let fn := fld w 5 0
  if fn = 0x00 then trUnused w true false false true
  else if fn = 0x01 then trUnused w true true false true
  else if fn = 0x06 then trUnused w false true true true
  else decide (fn ≤ 0x05) && trUnused w false false false true

/-- Legal functions of the TIME group (R113). -/
def taskTimeLegal (w : Nat) : Bool :=
  let fn := fld w 5 0
  if fn ≤ 0x01 then trUnused w true false true true
  else if fn = 0x03 then trUnused w false true true true
  else decide (fn ≤ 0x04) && trUnused w true true true true

/-- Legal functions of the QUEUE group (R113). -/
def taskQueueLegal (w : Nat) : Bool :=
  let fn := fld w 5 0
  if fn = 0x00 then trUnused w true false false false
  else if fn = 0x01 then trUnused w false false true false
  else if fn ≤ 0x03 then trUnused w true false true true
  else decide (fn ≤ 0x05) && trUnused w false false true true

/-- Legal functions of the TOKEN group (R113). -/
def taskTokenLegal (w : Nat) : Bool :=
  let fn := fld w 5 0
  if fn = 0x00 then trUnused w true false false true else decide (fn = 0x01) && trUnused w true false false false

/-- A condition of BR or RET that the cell profile lists. -/
def condField (w : Nat) : Bool := condLegal (BitVec.ofNat 4 (fld w 25 22))

/-- A word that is a legal task instruction (R111 to R113). -/
def taskWordLegal (x : Word) : Bool :=
  let w := x.toNat
  let fn0 := decide (fld w 5 0 = 0)
  match fld w 31 26 with
  | 0x01 => taskAluLegal w
  | 0x02 => true
  | 0x03 => decide (fld w 20 16 = 0)
  | 0x05 => true
  | 0x06 => true
  | 0x07 => decide (fld w 20 16 ≤ 3)
  | 0x08 => true
  | 0x09 => true
  | 0x0A => true
  | 0x0B => true
  | 0x0C => true
  | 0x0D => true
  | 0x0E => true
  | 0x0F => true
  | 0x10 => true
  | 0x11 => true
  | 0x18 => taskFpLegal w
  | 0x1A => taskFp64Legal w
  | 0x1B => taskBitLegal w
  | 0x1C => condField w
  | 0x1D => decide (fld w 25 22 = 0)
  | 0x1E => condField w && decide (fld w 21 0 = 0)
  | 0x1F => fn0 && trUnused w true false true true
  | 0x27 => fn0 && trUnused w false true true true
  | 0x28 => fn0 && trUnused w true false true true
  | 0x32 => fn0 && trUnused w true true true true
  | 0x38 => taskFlagLegal w
  | 0x39 => taskTimeLegal w
  | 0x3A => taskQueueLegal w
  | 0x3B => taskTokenLegal w
  | 0x3C => fn0 && trUnused w false false false true
  | _ => false

/-- TASK_ILLEGAL_INSTRUCTION: the core's running task fetches a word. Outside the program memories the fetch is the fault 0x04, an
illegal word the fault 0x01 (R115); a legal word is executed by its own command. -/
def execTaskIllegalInstruction (k : Fin 4) (w : BitVec 32) (s : State) :=
  act s (fun d =>
    match d.running k with
    | none => d
    | some n =>
      if !d.canIssueT k then d
      else if !inProgMem (d.get .TASK_STAT_PC n) then d.taskFault n 0x04
      else if taskWordLegal w then d else d.taskFault n 0x01)

end Sys2Proof.Machine
end

