-- ==== Sys2Proof/Machine/Dispatch.lean ====
section
/-!
DEFINITION. The command dispatch: one arm per constructor, each one call of the command's meaning.
-/

namespace Sys2Proof.Machine

/-- The effect of a command on everything but the queue. -/
def exec (i : Instr) (s : State) : Host.Outcome State Fault Refusal :=
  match i with
  | .registerWrite ini a size v => Sys2Proof.Machine.execRegisterWrite ini a size v s
  | .cfgCommit r => Sys2Proof.Machine.execCfgCommit r s
  | .snapshotTakesEffect r => Sys2Proof.Machine.execSnapshotTakesEffect r s
  | .por => Sys2Proof.Machine.execPor s
  | .bor => Sys2Proof.Machine.execBor s
  | .pinReset clksel => Sys2Proof.Machine.execPinReset clksel s
  | .warm key => Sys2Proof.Machine.execWarm key s
  | .regionReset key regions => Sys2Proof.Machine.execRegionReset key regions s
  | .regionResetEnd r readFail => Sys2Proof.Machine.execRegionResetEnd r readFail s
  | .sequencerWatchdogExpiry b => Sys2Proof.Machine.execSequencerWatchdogExpiry b s
  | .regionWatchdogExpiry r => Sys2Proof.Machine.execRegionWatchdogExpiry r s
  | .pathMonitorFailure p => Sys2Proof.Machine.execPathMonitorFailure p s
  | .tokenAccepted b k => Sys2Proof.Machine.execTokenAccepted b k s
  | .stalledTokenAccepted b => Sys2Proof.Machine.execStalledTokenAccepted b s
  | .cometLaneRelease g => Sys2Proof.Machine.execCometLaneRelease g s
  | .handoverEntry g => Sys2Proof.Machine.execHandoverEntry g s
  | .dispatch c => Sys2Proof.Machine.execDispatch c s
  | .preemption c => Sys2Proof.Machine.execPreemption c s
  | .deadlineMiss g => Sys2Proof.Machine.execDeadlineMiss g s
  | .outputInstant g => Sys2Proof.Machine.execOutputInstant g s
  | .tokenAtOutputStage k => Sys2Proof.Machine.execTokenAtOutputStage k s
  | .blockStop b => Sys2Proof.Machine.execBlockStop b s
  | .reqEn g => Sys2Proof.Machine.execReqEn g s
  | .reqDis g => Sys2Proof.Machine.execReqDis g s
  | .reqSwap g => Sys2Proof.Machine.execReqSwap g s
  | .admissionCheck b => Sys2Proof.Machine.execAdmissionCheck b s
  | .slotEnable g => Sys2Proof.Machine.execSlotEnable g s
  | .slotDisable g => Sys2Proof.Machine.execSlotDisable g s
  | .swapTakesEffect g => Sys2Proof.Machine.execSwapTakesEffect g s
  | .msStatFullseenClear b => Sys2Proof.Machine.execMsStatFullseenClear b s
  | .tokInRead g => Sys2Proof.Machine.execTokInRead g s
  | .add c dd da db => Sys2Proof.Machine.execAdd c dd da db s
  | .adds c dd da db => Sys2Proof.Machine.execAdds c dd da db s
  | .sub c dd da db => Sys2Proof.Machine.execSub c dd da db s
  | .subs c dd da db => Sys2Proof.Machine.execSubs c dd da db s
  | .cmp c da db => Sys2Proof.Machine.execCmp c da db s
  | .and_ c dd da db => Sys2Proof.Machine.execAnd_ c dd da db s
  | .or_ c dd da db => Sys2Proof.Machine.execOr_ c dd da db s
  | .xor c dd da db => Sys2Proof.Machine.execXor c dd da db s
  | .min c dd da db => Sys2Proof.Machine.execMin c dd da db s
  | .max c dd da db => Sys2Proof.Machine.execMax c dd da db s
  | .abs c dd da => Sys2Proof.Machine.execAbs c dd da s
  | .neg c dd da => Sys2Proof.Machine.execNeg c dd da s
  | .negs c dd da => Sys2Proof.Machine.execNegs c dd da s
  | .asr c dd da db => Sys2Proof.Machine.execAsr c dd da db s
  | .lsr c dd da db => Sys2Proof.Machine.execLsr c dd da db s
  | .lsl c dd da db => Sys2Proof.Machine.execLsl c dd da db s
  | .mul c dd da db => Sys2Proof.Machine.execMul c dd da db s
  | .mulq c dd da db sh => Sys2Proof.Machine.execMulq c dd da db sh s
  | .rcpq c dd da => Sys2Proof.Machine.execRcpq c dd da s
  | .mov c dd da => Sys2Proof.Machine.execMov c dd da s
  | .addi c dd da imm => Sys2Proof.Machine.execAddi c dd da imm s
  | .movl c dd imm => Sys2Proof.Machine.execMovl c dd imm s
  | .movh c dd imm => Sys2Proof.Machine.execMovh c dd imm s
  | .andi c dd da imm => Sys2Proof.Machine.execAndi c dd da imm s
  | .ori c dd da imm => Sys2Proof.Machine.execOri c dd da imm s
  | .ld c dd p am m ofs sec => Sys2Proof.Machine.execLd c dd p am m ofs sec s
  | .st c dd p am m ofs => Sys2Proof.Machine.execSt c dd p am m ofs s
  | .ld2 c da db px mx py my ux uy => Sys2Proof.Machine.execLd2 c da db px mx py my ux uy s
  | .mvm c px mx py my ux uy => Sys2Proof.Machine.execMvm c px mx py my ux uy s
  | .qmac c px mx py my ux uy fr ac => Sys2Proof.Machine.execQmac c px mx py my ux uy fr ac s
  | .dmac c px mx ux fr ac => Sys2Proof.Machine.execDmac c px mx ux fr ac s
  | .smac c an db px mx ux fr ac => Sys2Proof.Machine.execSmac c an db px mx ux fr ac s
  | .xmac c an px mx py my ux uy fr ac => Sys2Proof.Machine.execXmac c an px mx py my ux uy fr ac s
  | .fmac2 c px mx py my ux uy => Sys2Proof.Machine.execFmac2 c px mx py my ux uy s
  | .mva c dd an sh rm => Sys2Proof.Machine.execMva c dd an sh rm s
  | .mvd c dd an => Sys2Proof.Machine.execMvd c dd an s
  | .clra c an => Sys2Proof.Machine.execClra c an s
  | .adda c an as_ => Sys2Proof.Machine.execAdda c an as_ s
  | .suba c an as_ => Sys2Proof.Machine.execSuba c an as_ s
  | .asha c an sh => Sys2Proof.Machine.execAsha c an sh s
  | .mval c dd an => Sys2Proof.Machine.execMval c dd an s
  | .fadd c dd da db => Sys2Proof.Machine.execFadd c dd da db s
  | .fsub c dd da db => Sys2Proof.Machine.execFsub c dd da db s
  | .fmul c dd da db => Sys2Proof.Machine.execFmul c dd da db s
  | .fma c dd da db dc => Sys2Proof.Machine.execFma c dd da db dc s
  | .fms c dd da db dc => Sys2Proof.Machine.execFms c dd da db dc s
  | .fmin c dd da db => Sys2Proof.Machine.execFmin c dd da db s
  | .fmax c dd da db => Sys2Proof.Machine.execFmax c dd da db s
  | .fabs c dd da => Sys2Proof.Machine.execFabs c dd da s
  | .fneg c dd da => Sys2Proof.Machine.execFneg c dd da s
  | .fcmp c da db => Sys2Proof.Machine.execFcmp c da db s
  | .frcp c dd da => Sys2Proof.Machine.execFrcp c dd da s
  | .cvtqf c dd da => Sys2Proof.Machine.execCvtqf c dd da s
  | .cvtfq c dd da => Sys2Proof.Machine.execCvtfq c dd da s
  | .cvtif c dd da => Sys2Proof.Machine.execCvtif c dd da s
  | .cvtfi c dd da => Sys2Proof.Machine.execCvtfi c dd da s
  | .br c cond target => Sys2Proof.Machine.execBr c cond target s
  | .call c target => Sys2Proof.Machine.execCall c target s
  | .ret c cond => Sys2Proof.Machine.execRet c cond s
  | .repN c cnt nextWord => Sys2Proof.Machine.execRepN c cnt nextWord s
  | .repDs c ds nextWord => Sys2Proof.Machine.execRepDs c ds nextWord s
  | .seta c cl idx src ds imm => Sys2Proof.Machine.execSeta c cl idx src ds imm s
  | .lea c pd ps ofs => Sys2Proof.Machine.execLea c pd ps ofs s
  | .geta c cl idx ds => Sys2Proof.Machine.execGeta c cl idx ds s
  | .mfs c dd k => Sys2Proof.Machine.execMfs c dd k s
  | .mts c dd => Sys2Proof.Machine.execMts c dd s
  | .emit c ds dq ty dest => Sys2Proof.Machine.execEmit c ds dq ty dest s
  | .emitBufferPlaceFreed c => Sys2Proof.Machine.execEmitBufferPlaceFreed c s
  | .qtst c k mask => Sys2Proof.Machine.execQtst c k mask s
  | .qor c dd mask => Sys2Proof.Machine.execQor c dd mask s
  | .qget c dd k => Sys2Proof.Machine.execQget c dd k s
  | .htst c => Sys2Proof.Machine.execHtst c s
  | .end_ c => Sys2Proof.Machine.execEnd_ c s
  | .nop c => Sys2Proof.Machine.execNop c s
  | .illegalInstructionAbort c word => Sys2Proof.Machine.execIllegalInstructionAbort c word s
  | .cellFault u ded ipar => Sys2Proof.Machine.execCellFault u ded ipar s
  | .mirrorRebuild b => Sys2Proof.Machine.execMirrorRebuild b s
  | .blockFault u ms => Sys2Proof.Machine.execBlockFault u ms s
  | .regionFault r => Sys2Proof.Machine.execRegionFault r s
  | .spareReadmit b cell => Sys2Proof.Machine.execSpareReadmit b cell s
  | .spareSelfTestEnd b result => Sys2Proof.Machine.execSpareSelfTestEnd b result s
  | .restore b cell => Sys2Proof.Machine.execRestore b cell s
  | .restoreSwitch b => Sys2Proof.Machine.execRestoreSwitch b s
  | .taskAdd k xd xa xb => Sys2Proof.Machine.execTaskAdd k xd xa xb s
  | .taskAdds k xd xa xb => Sys2Proof.Machine.execTaskAdds k xd xa xb s
  | .taskSub k xd xa xb => Sys2Proof.Machine.execTaskSub k xd xa xb s
  | .taskSubs k xd xa xb => Sys2Proof.Machine.execTaskSubs k xd xa xb s
  | .taskCmp k xa xb => Sys2Proof.Machine.execTaskCmp k xa xb s
  | .taskAnd k xd xa xb => Sys2Proof.Machine.execTaskAnd k xd xa xb s
  | .taskOr k xd xa xb => Sys2Proof.Machine.execTaskOr k xd xa xb s
  | .taskXor k xd xa xb => Sys2Proof.Machine.execTaskXor k xd xa xb s
  | .taskMin k xd xa xb => Sys2Proof.Machine.execTaskMin k xd xa xb s
  | .taskMax k xd xa xb => Sys2Proof.Machine.execTaskMax k xd xa xb s
  | .taskAbs k xd xa => Sys2Proof.Machine.execTaskAbs k xd xa s
  | .taskNeg k xd xa => Sys2Proof.Machine.execTaskNeg k xd xa s
  | .taskNegs k xd xa => Sys2Proof.Machine.execTaskNegs k xd xa s
  | .taskAsr k xd xa xb => Sys2Proof.Machine.execTaskAsr k xd xa xb s
  | .taskLsr k xd xa xb => Sys2Proof.Machine.execTaskLsr k xd xa xb s
  | .taskLsl k xd xa xb => Sys2Proof.Machine.execTaskLsl k xd xa xb s
  | .taskMul k xd xa xb => Sys2Proof.Machine.execTaskMul k xd xa xb s
  | .taskMov k xd xa => Sys2Proof.Machine.execTaskMov k xd xa s
  | .mulh k xd xa xb => Sys2Proof.Machine.execMulh k xd xa xb s
  | .div k xd xa xb => Sys2Proof.Machine.execDiv k xd xa xb s
  | .divu k xd xa xb => Sys2Proof.Machine.execDivu k xd xa xb s
  | .rem k xd xa xb => Sys2Proof.Machine.execRem k xd xa xb s
  | .taskAddi k xd xa imm => Sys2Proof.Machine.execTaskAddi k xd xa imm s
  | .taskMovl k xd imm => Sys2Proof.Machine.execTaskMovl k xd imm s
  | .taskAndi k xd xa imm => Sys2Proof.Machine.execTaskAndi k xd xa imm s
  | .taskOri k xd xa imm => Sys2Proof.Machine.execTaskOri k xd xa imm s
  | .movk k xd part imm => Sys2Proof.Machine.execMovk k xd part imm s
  | .ldd k xd xa imm => Sys2Proof.Machine.execLdd k xd xa imm s
  | .std k xd xa imm => Sys2Proof.Machine.execStd k xd xa imm s
  | .ldw k xd xa imm => Sys2Proof.Machine.execLdw k xd xa imm s
  | .ldwu k xd xa imm => Sys2Proof.Machine.execLdwu k xd xa imm s
  | .stw k xd xa imm => Sys2Proof.Machine.execStw k xd xa imm s
  | .ldh k xd xa imm => Sys2Proof.Machine.execLdh k xd xa imm s
  | .ldhu k xd xa imm => Sys2Proof.Machine.execLdhu k xd xa imm s
  | .sth k xd xa imm => Sys2Proof.Machine.execSth k xd xa imm s
  | .ldb k xd xa imm => Sys2Proof.Machine.execLdb k xd xa imm s
  | .stb k xd xa imm => Sys2Proof.Machine.execStb k xd xa imm s
  | .taskFadd k xd xa xb => Sys2Proof.Machine.execTaskFadd k xd xa xb s
  | .taskFsub k xd xa xb => Sys2Proof.Machine.execTaskFsub k xd xa xb s
  | .taskFmul k xd xa xb => Sys2Proof.Machine.execTaskFmul k xd xa xb s
  | .taskFma k xd xa xb xc => Sys2Proof.Machine.execTaskFma k xd xa xb xc s
  | .taskFms k xd xa xb xc => Sys2Proof.Machine.execTaskFms k xd xa xb xc s
  | .taskFmin k xd xa xb => Sys2Proof.Machine.execTaskFmin k xd xa xb s
  | .taskFmax k xd xa xb => Sys2Proof.Machine.execTaskFmax k xd xa xb s
  | .taskFabs k xd xa => Sys2Proof.Machine.execTaskFabs k xd xa s
  | .taskFneg k xd xa => Sys2Proof.Machine.execTaskFneg k xd xa s
  | .taskFcmp k xa xb => Sys2Proof.Machine.execTaskFcmp k xa xb s
  | .taskFrcp k xd xa => Sys2Proof.Machine.execTaskFrcp k xd xa s
  | .taskCvtqf k xd xa => Sys2Proof.Machine.execTaskCvtqf k xd xa s
  | .taskCvtfq k xd xa => Sys2Proof.Machine.execTaskCvtfq k xd xa s
  | .taskCvtif k xd xa => Sys2Proof.Machine.execTaskCvtif k xd xa s
  | .taskCvtfi k xd xa => Sys2Proof.Machine.execTaskCvtfi k xd xa s
  | .fp64Fadd k xd xa xb => Sys2Proof.Machine.execFp64Fadd k xd xa xb s
  | .fp64Fsub k xd xa xb => Sys2Proof.Machine.execFp64Fsub k xd xa xb s
  | .fp64Fmul k xd xa xb => Sys2Proof.Machine.execFp64Fmul k xd xa xb s
  | .fp64Fma k xd xa xb xc => Sys2Proof.Machine.execFp64Fma k xd xa xb xc s
  | .fp64Fms k xd xa xb xc => Sys2Proof.Machine.execFp64Fms k xd xa xb xc s
  | .fp64Fmin k xd xa xb => Sys2Proof.Machine.execFp64Fmin k xd xa xb s
  | .fp64Fmax k xd xa xb => Sys2Proof.Machine.execFp64Fmax k xd xa xb s
  | .fp64Fabs k xd xa => Sys2Proof.Machine.execFp64Fabs k xd xa s
  | .fp64Fneg k xd xa => Sys2Proof.Machine.execFp64Fneg k xd xa s
  | .fp64Fcmp k xa xb => Sys2Proof.Machine.execFp64Fcmp k xa xb s
  | .fp64Frcp k xd xa => Sys2Proof.Machine.execFp64Frcp k xd xa s
  | .fp64Cvtqf k xd xa => Sys2Proof.Machine.execFp64Cvtqf k xd xa s
  | .fp64Cvtfq k xd xa => Sys2Proof.Machine.execFp64Cvtfq k xd xa s
  | .fp64Cvtif k xd xa => Sys2Proof.Machine.execFp64Cvtif k xd xa s
  | .fp64Cvtfi k xd xa => Sys2Proof.Machine.execFp64Cvtfi k xd xa s
  | .fdiv k xd xa xb => Sys2Proof.Machine.execFdiv k xd xa xb s
  | .fsqrt k xd xa => Sys2Proof.Machine.execFsqrt k xd xa s
  | .cvtds k xd xa => Sys2Proof.Machine.execCvtds k xd xa s
  | .cvtsd k xd xa => Sys2Proof.Machine.execCvtsd k xd xa s
  | .cvtld k xd xa => Sys2Proof.Machine.execCvtld k xd xa s
  | .cvtdl k xd xa => Sys2Proof.Machine.execCvtdl k xd xa s
  | .bset k xd xa xb => Sys2Proof.Machine.execBset k xd xa xb s
  | .bclr k xd xa xb => Sys2Proof.Machine.execBclr k xd xa xb s
  | .btst k xa xb => Sys2Proof.Machine.execBtst k xa xb s
  | .bfx k xd xa xb xc => Sys2Proof.Machine.execBfx k xd xa xb xc s
  | .bfi k xd xa xb xc => Sys2Proof.Machine.execBfi k xd xa xb xc s
  | .clz k xd xa => Sys2Proof.Machine.execClz k xd xa s
  | .popc k xd xa => Sys2Proof.Machine.execPopc k xd xa s
  | .rol k xd xa xb => Sys2Proof.Machine.execRol k xd xa xb s
  | .ror k xd xa xb => Sys2Proof.Machine.execRor k xd xa xb s
  | .sxw k xd xa => Sys2Proof.Machine.execSxw k xd xa s
  | .zxw k xd xa => Sys2Proof.Machine.execZxw k xd xa s
  | .sxh k xd xa => Sys2Proof.Machine.execSxh k xd xa s
  | .sxb k xd xa => Sys2Proof.Machine.execSxb k xd xa s
  | .taskBr k cond ofs => Sys2Proof.Machine.execTaskBr k cond ofs s
  | .taskCall k ofs => Sys2Proof.Machine.execTaskCall k ofs s
  | .taskRet k cond => Sys2Proof.Machine.execTaskRet k cond s
  | .jr k xa => Sys2Proof.Machine.execJr k xa s
  | .taskMfs k xd => Sys2Proof.Machine.execTaskMfs k xd s
  | .taskMts k xa => Sys2Proof.Machine.execTaskMts k xa s
  | .taskNop k => Sys2Proof.Machine.execTaskNop k s
  | .fset k xa xb => Sys2Proof.Machine.execFset k xa xb s
  | .fclr k xb => Sys2Proof.Machine.execFclr k xb s
  | .fwaito k xd xa xb => Sys2Proof.Machine.execFwaito k xd xa xb s
  | .fwaita k xd xa xb => Sys2Proof.Machine.execFwaita k xd xa xb s
  | .fwaitoc k xd xa xb => Sys2Proof.Machine.execFwaitoc k xd xa xb s
  | .fwaitac k xd xa xb => Sys2Proof.Machine.execFwaitac k xd xa xb s
  | .fget k xd => Sys2Proof.Machine.execFget k xd s
  | .flagWaitWake n => Sys2Proof.Machine.execFlagWaitWake n s
  | .dly k xa => Sys2Proof.Machine.execDly k xa s
  | .dlyu k xa => Sys2Proof.Machine.execDlyu k xa s
  | .delayRelease k => Sys2Proof.Machine.execDelayRelease k s
  | .yield k => Sys2Proof.Machine.execYield k s
  | .tnum k xd => Sys2Proof.Machine.execTnum k xd s
  | .exit k => Sys2Proof.Machine.execExit k s
  | .qpush k xa xb xc => Sys2Proof.Machine.execQpush k xa xb xc s
  | .qpop k xd xa xc => Sys2Proof.Machine.execQpop k xd xa xc s
  | .qcmt k xa => Sys2Proof.Machine.execQcmt k xa s
  | .qrwd k xa => Sys2Proof.Machine.execQrwd k xa s
  | .qdrop k xd xa => Sys2Proof.Machine.execQdrop k xd xa s
  | .qlvl k xd xa => Sys2Proof.Machine.execQlvl k xd xa s
  | .queueWaiterServed q => Sys2Proof.Machine.execQueueWaiterServed q s
  | .tok k xa xb => Sys2Proof.Machine.execTok k xa xb s
  | .tokt k xa xb xc => Sys2Proof.Machine.execTokt k xa xb xc s
  | .tokenPortPlaceFreed k => Sys2Proof.Machine.execTokenPortPlaceFreed k s
  | .tmr k xd xa xb => Sys2Proof.Machine.execTmr k xd xa xb s
  | .timerNotification u => Sys2Proof.Machine.execTimerNotification u s
  | .taskPreemption k => Sys2Proof.Machine.execTaskPreemption k s
  | .taskContextSwitch k => Sys2Proof.Machine.execTaskContextSwitch k s
  | .reqStart n => Sys2Proof.Machine.execReqStart n s
  | .reqKill n => Sys2Proof.Machine.execReqKill n s
  | .killAtBoundary n => Sys2Proof.Machine.execKillAtBoundary n s
  | .taskFset n bits => Sys2Proof.Machine.execTaskFset n bits s
  | .tokenAtResultRegister k => Sys2Proof.Machine.execTokenAtResultRegister k s
  | .queueInRead q => Sys2Proof.Machine.execQueueInRead q s
  | .cycleStart n => Sys2Proof.Machine.execCycleStart n s
  | .watchdogExpiry n => Sys2Proof.Machine.execWatchdogExpiry n s
  | .loopRegionStopSignal => Sys2Proof.Machine.execLoopRegionStopSignal s
  | .changeGo => Sys2Proof.Machine.execChangeGo s
  | .changeCheckEnd => Sys2Proof.Machine.execChangeCheckEnd s
  | .changeAbort => Sys2Proof.Machine.execChangeAbort s
  | .quadStateChange e a b => Sys2Proof.Machine.execQuadStateChange e a b s
  | .stepEdge e dir b => Sys2Proof.Machine.execStepEdge e dir b s
  | .hallSectorChange e u v w => Sys2Proof.Machine.execHallSectorChange e u v w s
  | .pulseEmit k => Sys2Proof.Machine.execPulseEmit k s
  | .enAdd e v => Sys2Proof.Machine.execEnAdd e v s
  | .encoderSampleInstant e => Sys2Proof.Machine.execEncoderSampleInstant e s
  | .serialFrameEnd e ack data nerr nwarn chk => Sys2Proof.Machine.execSerialFrameEnd e ack data nerr nwarn chk s
  | .latchEvent e rising => Sys2Proof.Machine.execLatchEvent e rising s
  | .latchCountRead e => Sys2Proof.Machine.execLatchCountRead e s
  | .encoderCountRead e => Sys2Proof.Machine.execEncoderCountRead e s
  | .poutRead k => Sys2Proof.Machine.execPoutRead k s
  | .axisGo a => Sys2Proof.Machine.execAxisGo a s
  | .axisStop a => Sys2Proof.Machine.execAxisStop a s
  | .axisQstop a => Sys2Proof.Machine.execAxisQstop a s
  | .axisClr a => Sys2Proof.Machine.execAxisClr a s
  | .planTakesEffect a => Sys2Proof.Machine.execPlanTakesEffect a s
  | .axisAtRest a => Sys2Proof.Machine.execAxisAtRest a s
  | .axisSampleInstant a => Sys2Proof.Machine.execAxisSampleInstant a s
  | .axisPosRead a => Sys2Proof.Machine.execAxisPosRead a s
  | .groupStart g => Sys2Proof.Machine.execGroupStart g s
  | .groupStop g => Sys2Proof.Machine.execGroupStop g s
  | .groupQstop g => Sys2Proof.Machine.execGroupQstop g s
  | .flush g => Sys2Proof.Machine.execFlush g s
  | .segmentStart g => Sys2Proof.Machine.execSegmentStart g s
  | .segmentComplete g => Sys2Proof.Machine.execSegmentComplete g s
  | .pathStarved g => Sys2Proof.Machine.execPathStarved g s
  | .compareUpdate a => Sys2Proof.Machine.execCompareUpdate a s
  | .trip a asserted => Sys2Proof.Machine.execTrip a asserted s
  | .trippedClear a => Sys2Proof.Machine.execTrippedClear a s
  | .gatesResume a => Sys2Proof.Machine.execGatesResume a s
  | .stepperReplan n => Sys2Proof.Machine.execStepperReplan n s
  | .microstep n => Sys2Proof.Machine.execMicrostep n s
  | .chopComparatorTrip n ph => Sys2Proof.Machine.execChopComparatorTrip n ph s
  | .chopDecayEnd n ph => Sys2Proof.Machine.execChopDecayEnd n ph s
  | .hysteresisWindowEnd n => Sys2Proof.Machine.execHysteresisWindowEnd n s
  | .holdCurrent n => Sys2Proof.Machine.execHoldCurrent n s
  | .conversionResult k raw ovl => Sys2Proof.Machine.execConversionResult k raw ovl s
  | .urgentReq k => Sys2Proof.Machine.execUrgentReq k s
  | .urgentTrigger k => Sys2Proof.Machine.execUrgentTrigger k s
  | .urgentResult k raw ovl => Sys2Proof.Machine.execUrgentResult k raw ovl s
  | .uresRead k => Sys2Proof.Machine.execUresRead k s
  | .resRead n => Sys2Proof.Machine.execResRead n s
  | .inputTokenInstant n => Sys2Proof.Machine.execInputTokenInstant n s
  | .zero tgt ch gain navg => Sys2Proof.Machine.execZero tgt ch gain navg s
  | .span tgt ch gain navg => Sys2Proof.Machine.execSpan tgt ch gain navg s
  | .store tgt ch gain navg => Sys2Proof.Machine.execStore tgt ch gain navg s
  | .cancel tgt ch gain navg => Sys2Proof.Machine.execCancel tgt ch gain navg s
  | .outlo tgt ch gain navg => Sys2Proof.Machine.execOutlo tgt ch gain navg s
  | .outhi tgt ch gain navg => Sys2Proof.Machine.execOuthi tgt ch gain navg s
  | .calCommandDone avg => Sys2Proof.Machine.execCalCommandDone avg s
  | .sarSampleInstant p => Sys2Proof.Machine.execSarSampleInstant p s
  | .sarConversionEnd p codeA codeB => Sys2Proof.Machine.execSarConversionEnd p codeA codeB s
  | .dacUpdate n => Sys2Proof.Machine.execDacUpdate n s
  | .aforceWrite n x => Sys2Proof.Machine.execAforceWrite n x s
  | .headroomChange n x => Sys2Proof.Machine.execHeadroomChange n x s
  | .carrierDetectChange b cd => Sys2Proof.Machine.execCarrierDetectChange b cd s
  | .fskBurstStart b => Sys2Proof.Machine.execFskBurstStart b s
  | .fskBurstEnd b => Sys2Proof.Machine.execFskBurstEnd b s
  | .fskByteReceived b data par frm => Sys2Proof.Machine.execFskByteReceived b data par frm s
  | .chanChangeTakesEffect b => Sys2Proof.Machine.execChanChangeTakesEffect b s
  | .linkCycleStart k => Sys2Proof.Machine.execLinkCycleStart k s
  | .outputImageSnapshot k => Sys2Proof.Machine.execOutputImageSnapshot k s
  | .frameTransmit k => Sys2Proof.Machine.execFrameTransmit k s
  | .stationBlockReceived k st bytes rtt => Sys2Proof.Machine.execStationBlockReceived k st bytes rtt s
  | .completionInstant k => Sys2Proof.Machine.execCompletionInstant k s
  | .inputTokenMap k m => Sys2Proof.Machine.execInputTokenMap k m s
  | .symbolLockChange k x => Sys2Proof.Machine.execSymbolLockChange k x s
  | .framePassThrough k bytes => Sys2Proof.Machine.execFramePassThrough k bytes s
  | .cyclesRead k st => Sys2Proof.Machine.execCyclesRead k st s
  | .ethFrameReceived p bytes fcs age => Sys2Proof.Machine.execEthFrameReceived p bytes fcs age s
  | .ethFrameTransmit p => Sys2Proof.Machine.execEthFrameTransmit p s
  | .ethFrameTransmitEnd p => Sys2Proof.Machine.execEthFrameTransmitEnd p s
  | .tsqIdRead p => Sys2Proof.Machine.execTsqIdRead p s
  | .txokRead p => Sys2Proof.Machine.execTxokRead p s
  | .gateControlEntry p => Sys2Proof.Machine.execGateControlEntry p s
  | .swap p => Sys2Proof.Machine.execSwap p s
  | .gclSwapTakesEffect p => Sys2Proof.Machine.execGclSwapTakesEffect p s
  | .txreq c bits => Sys2Proof.Machine.execTxreq c bits s
  | .txcan c req bits => Sys2Proof.Machine.execTxcan c req bits s
  | .canTransmitStart c tdcv => Sys2Proof.Machine.execCanTransmitStart c tdcv s
  | .canTransmitEnd c lost => Sys2Proof.Machine.execCanTransmitEnd c lost s
  | .canFrameReceived c xtd rtr id fdf brs esi dlc data age => Sys2Proof.Machine.execCanFrameReceived c xtd rtr id fdf brs esi dlc data age s
  | .canBusError c lec dom => Sys2Proof.Machine.execCanBusError c lec dom s
  | .recov c => Sys2Proof.Machine.execRecov c s
  | .busOffRecoveryComplete c => Sys2Proof.Machine.execBusOffRecoveryComplete c s
  | .basicCycleStart c b age => Sys2Proof.Machine.execBasicCycleStart c b age s
  | .columnStart c => Sys2Proof.Machine.execColumnStart c s
  | .missref c => Sys2Proof.Machine.execMissref c s
  | .canRxokRead c => Sys2Proof.Machine.execCanRxokRead c s
  | .pcieBarAccess bar2 write off len data => Sys2Proof.Machine.execPcieBarAccess bar2 write off len data s
  | .hostWrite h v => Sys2Proof.Machine.execHostWrite h v s
  | .hostQueueTransfer h item => Sys2Proof.Machine.execHostQueueTransfer h item s
  | .msixVector v => Sys2Proof.Machine.execMsixVector v s
  | .perstN => Sys2Proof.Machine.execPerstN s
  | .xspiRead len => Sys2Proof.Machine.execXspiRead len s
  | .xspiProgram len => Sys2Proof.Machine.execXspiProgram len s
  | .xspiEraseSector => Sys2Proof.Machine.execXspiEraseSector s
  | .xspiEraseBlock => Sys2Proof.Machine.execXspiEraseBlock s
  | .xspiDone => Sys2Proof.Machine.execXspiDone s
  | .rateWrite k v => Sys2Proof.Machine.execRateWrite k v s
  | .set_ k => Sys2Proof.Machine.execSet_ k s
  | .step k => Sys2Proof.Machine.execStep k s
  | .setStepActs k => Sys2Proof.Machine.execSetStepActs k s
  | .snap => Sys2Proof.Machine.execSnap s
  | .tbNsRead k => Sys2Proof.Machine.execTbNsRead k s
  | .tapCopy => Sys2Proof.Machine.execTapCopy s
  | .captureFifoWrite u => Sys2Proof.Machine.execCaptureFifoWrite u s
  | .arm u => Sys2Proof.Machine.execArm u s
  | .fire u => Sys2Proof.Machine.execFire u s
  | .captureStop u => Sys2Proof.Machine.execCaptureStop u s
  | .armNetChange pin => Sys2Proof.Machine.execArmNetChange pin s
  | .fireNetAssertion pin => Sys2Proof.Machine.execFireNetAssertion pin s
  | .fireNetRelease pin => Sys2Proof.Machine.execFireNetRelease pin s
  | .segmentRearm u => Sys2Proof.Machine.execSegmentRearm u s
  | .streamFlush u => Sys2Proof.Machine.execStreamFlush u s
  | .streamBlockSend => Sys2Proof.Machine.execStreamBlockSend s
  | .dcsHostWrite v => Sys2Proof.Machine.execDcsHostWrite v s
  | .seenRead u => Sys2Proof.Machine.execSeenRead u s
  | .logEvent => Sys2Proof.Machine.execLogEvent s
  | .floodWindowEnd => Sys2Proof.Machine.execFloodWindowEnd s
  | .freezeSet => Sys2Proof.Machine.execFreezeSet s
  | .freezeClear => Sys2Proof.Machine.execFreezeClear s
  | .freezeTimeout => Sys2Proof.Machine.execFreezeTimeout s
  | .logReady => Sys2Proof.Machine.execLogReady s
  | .sedEvtRead => Sys2Proof.Machine.execSedEvtRead s
  | .heartbeat => Sys2Proof.Machine.execHeartbeat s
  | .heartbeatMissed => Sys2Proof.Machine.execHeartbeatMissed s
  | .partnerActiveSeen pref epoch tb0 => Sys2Proof.Machine.execPartnerActiveSeen pref epoch tb0 s
  | .pairingTimeout => Sys2Proof.Machine.execPairingTimeout s
  | .checkpointBoundary => Sys2Proof.Machine.execCheckpointBoundary s
  | .areaFlip u => Sys2Proof.Machine.execAreaFlip u s
  | .commitMarker => Sys2Proof.Machine.execCommitMarker s
  | .checkpointApply cp => Sys2Proof.Machine.execCheckpointApply cp s
  | .checkpointAck standby => Sys2Proof.Machine.execCheckpointAck standby s
  | .checkpointAbandon staging => Sys2Proof.Machine.execCheckpointAbandon staging s
  | .timeMessage => Sys2Proof.Machine.execTimeMessage s
  | .resign => Sys2Proof.Machine.execResign s
  | .resignMessage => Sys2Proof.Machine.execResignMessage s
  | .takeover => Sys2Proof.Machine.execTakeover s
  | .takeoverExecutionStart => Sys2Proof.Machine.execTakeoverExecutionStart s
  | .higherEpochReaction seen => Sys2Proof.Machine.execHigherEpochReaction seen s
  | .handBackRequest => Sys2Proof.Machine.execHandBackRequest s
  | .pairReadmit => Sys2Proof.Machine.execPairReadmit s
  | .pairSelfTestEnd pass => Sys2Proof.Machine.execPairSelfTestEnd pass s
  | .cpBegunRead => Sys2Proof.Machine.execCpBegunRead s
  | .pfailN => Sys2Proof.Machine.execPfailN s
  | .pfailQuiesce => Sys2Proof.Machine.execPfailQuiesce s
  | .quiesce => Sys2Proof.Machine.execQuiesce s
  | .run_ host => Sys2Proof.Machine.execRun_ host s
  | .deep => Sys2Proof.Machine.execDeep s
  | .safetyCycle raw stable fb agree memOk clkOk => Sys2Proof.Machine.execSafetyCycle raw stable fb agree memOk clkOk s
  | .stop1Timeout f => Sys2Proof.Machine.execStop1Timeout f s
  | .testPulse k zeros => Sys2Proof.Machine.execTestPulse k zeros s
  | .offPulse m low => Sys2Proof.Machine.execOffPulse m low s
  | .safetyPreResetComplete => Sys2Proof.Machine.execSafetyPreResetComplete s
  | .safetyInitEnd crcEqual => Sys2Proof.Machine.execSafetyInitEnd crcEqual s
  | .pllLock => Sys2Proof.Machine.execPllLock s
  | .clockFault ref => Sys2Proof.Machine.execClockFault ref s
  | .heldFrequencyExpiry => Sys2Proof.Machine.execHeldFrequencyExpiry s
  | .sscPeriodStart => Sys2Proof.Machine.execSscPeriodStart s
  | .companionSupplyLow => Sys2Proof.Machine.execCompanionSupplyLow s
  | .twarn tj => Sys2Proof.Machine.execTwarn tj s
  | .overtemperatureFault => Sys2Proof.Machine.execOvertemperatureFault s
  | .bootRom readFail => Sys2Proof.Machine.execBootRom readFail s
  | .loopGo => Sys2Proof.Machine.execLoopGo s
  | .rollfwd r fail => Sys2Proof.Machine.execRollfwd r fail s
  | .serviceChallenge => Sys2Proof.Machine.execServiceChallenge s
  | .serviceResponse sig => Sys2Proof.Machine.execServiceResponse sig s
  | .svcEnd => Sys2Proof.Machine.execSvcEnd s
  | .sessionTimeout => Sys2Proof.Machine.execSessionTimeout s
  | .portLockExpiry => Sys2Proof.Machine.execPortLockExpiry s
  | .clrlog => Sys2Proof.Machine.execClrlog s
  | .force u en key val => Sys2Proof.Machine.execForce u en key val s
  | .testMultiplexerSelection pin off r code => Sys2Proof.Machine.execTestMultiplexerSelection pin off r code s
  | .taskIllegalInstruction k w => Sys2Proof.Machine.execTaskIllegalInstruction k w s
  | .sgmiiLinkChange p up speed => Sys2Proof.Machine.execSgmiiLinkChange p up speed s
  | .pcieLinkTrained gen width => Sys2Proof.Machine.execPcieLinkTrained gen width s
  | .pairLinkChange up role => Sys2Proof.Machine.execPairLinkChange up role s
  | .partnerHeartbeatReceived => Sys2Proof.Machine.execPartnerHeartbeatReceived s

end Sys2Proof.Machine
end

