-- ==== Sys2Proof/Machine/Tick.lean ====
section
/-!
DEFINITION. What passes with time alone: one TIME_CLK cycle, which is 4 ns.
-/

namespace Sys2Proof.Machine

/-- MSb_STALL counts the LOOP_CLK cycles, two in one TIME_CLK cycle, in which a producer is stalled on the block (R106). -/
def Dev.countStalls (d : Dev) : Dev :=
  if d.held 0 || !d.clocked then d
  else forN 4 (fun d b => if d.stalled.any (Flight.toBlock b) then d.bump .MS_STALL b 2 else d) d

/-- Bytes that a modem holds for RXQ go on as places become free (R232). -/
def Dev.drainModems (d : Dev) : Dev := forN 4 (fun d b => if d.fmOn b then d.fskDrain b else d) d

/-- One cycle of TIME_CLK in which no command is taken. -/
def Dev.idle (d : Dev) : Dev := d.countStalls.drainModems.timeCycle

end Sys2Proof.Machine
end

