-- ==== Sys2Proof/Safety.lean ====
section
/-!
DEFINITION. The terms that claims use: the canonical form of the stored data, when a unit takes a command, and what a command leaves.
-/

namespace Sys2Proof.Machine

/-! Canonical form. -/

/-- Register file: keys strictly rising, each value within its field's width and different from its Reset value. -/
def regsWf (l : List ((F × Nat) × Nat)) : Bool :=
  mapOrdered ltReg l && l.all (fun e => decide (e.1.1.fit e.2 = e.2) && !decide (e.2 = e.1.1.resetAt e.1.2))

/-- Flash memory: addresses strictly rising, no cell that holds the erased value. -/
def flashWf (l : List Host.Cell) : Bool := mapOrdered ltNat l && l.all (fun c => !decide (c.2 = 0xFF#8))

/-- Shadow copies and snapshots: keys strictly rising, of fields with shadows alone (R7). -/
def shadowWf (l : List ((F × Nat) × Nat)) : Bool := mapOrdered ltReg l && l.all (fun e => decide (e.1.1.desc.acc = Acc.ST))

/-- The stored data of the device are in canonical form. -/
def Dev.wf (d : Dev) : Prop :=
  regsWf d.regs = true ∧ memWf d.mem = true ∧ flashWf d.flash = true ∧ shadowWf d.shadow = true ∧ shadowWf d.snap = true ∧
  mapOrdered ltReg d.caps = true

/-- The stored data are in canonical form. -/
def State.wf (s : State) : Prop := s.dev.wf

/-! What a command leaves. -/

/-- Several fields set, in order. -/
def Dev.puts (d : Dev) (l : List (F × Nat × Nat)) : Dev := l.foldl (fun d e => d.put e.1 e.2.1 e.2.2) d

/-- The state with another device and the same queue. -/
def State.setDev (s : State) (d : Dev) : State := { s with dev := d }

/-- Two devices agree but for the fields listed. -/
def Dev.sameBut (d d' : Dev) (w : List (F × Nat)) : Prop :=
  (∀ f i, (f, i) ∉ w → d'.get f i = d.get f i) ∧ { d' with regs := d.regs } = d

/-- One bit of a status register each. -/
def srSet (sr : Word) (l : List (Nat × Bool)) : Word := l.foldl (fun r e => setBit r e.1 e.2) sr

/-! Cells. -/

/-- The executing bank of a cell. -/
def Dev.cur (d : Dev) (c : Nat) : Bank := d.bank c (d.actBank c)

/-- A cell issues its executing firing's next instruction, and no REP stands before it. -/
def Dev.cellReady (d : Dev) (c : Nat) : Prop := d.canIssue c = true ∧ (d.cur c).rep = 0

/-- No hazard recorded. -/
def noHz : Hazard := { d := [], a := [], ad := [] }

/-- The bank of a firing that has issued one instruction of `cy` cycles that wrote `wr`. -/
def Bank.issued (b : Bank) (cy : Nat) (wr : Hazard) : Bank :=
  { b with started := true, pc := b.pc + 1#13, rep := 0, cycles := b.cycles + cy, hz := wr }

/-- The state with another executing bank of cell c and no other change. -/
def State.setCur (s : State) (c : Nat) (b : Bank) : State := s.setDev (s.dev.setBank c (s.dev.actBank c) b)

/-- One cycle more where a condition holds. -/
def oneIf (p : Bool) : Nat := if p then 1 else 0

/-! Task cores. -/

/-- Core k issues the next instruction of its running task n from program memory. -/
def Dev.taskReady (d : Dev) (k n : Nat) : Prop := d.canIssueT k = true ∧ d.running k = some n ∧ inProgMem (d.get .TASK_STAT_PC n) = true

/-- Task n has issued one instruction of `cyc` cycles: PC and RUN alone have changed. -/
def Dev.stepped (d : Dev) (n cyc : Nat) : Dev := (d.put .TASK_STAT_PC n (d.get .TASK_STAT_PC n + 4)).bump .TASK_RUN n cyc

/-- Of the registers, PC and RUN of task n alone have changed. -/
def Dev.stepRegs (d d' : Dev) (n pc cyc : Nat) : Prop :=
  d'.get .TASK_STAT_PC n = pc ∧ d'.get .TASK_RUN n = (d.get .TASK_RUN n + cyc) % 2 ^ 32 ∧
  ∀ f i, (f, i) ≠ (F.TASK_STAT_PC, n) → (f, i) ≠ (F.TASK_RUN, n) → d'.get f i = d.get f i

/-- Task n has issued an instruction and its context is `c`. -/
def State.taskDone (s : State) (n cyc : Nat) (c : TaskCtx) : State := s.setDev ((s.dev.stepped n cyc).setCtx n c)

end Sys2Proof.Machine
end

