-- ==== Sys2Proof/WellFormed.lean ====
section
/-!
DEFINITION. Which commands the device's surroundings can give: operands that the types of `Instr` admit and the spec does not.
-/

namespace Sys2Proof

/-- Data bytes of a CAN frame by DLC (R269). -/
def canDataLen (fdf : Bool) (dlc : Nat) : Nat :=
  if dlc ≤ 8 then dlc
  else if fdf then (if dlc = 9 then 12 else if dlc = 10 then 16 else if dlc = 11 then 20 else if dlc = 12 then 24 else if dlc = 13 then 32
    else if dlc = 14 then 48 else 64)
  else 8

/-- A CAN frame that can stand on the bus: a base identifier has 11 bits, a remote frame is no FD frame and carries no data, only an FD
frame switches its bit rate, and DLC gives the number of data bytes. -/
def canFrameOk (xtd rtr : Bool) (id : BitVec 29) (fdf brs : Bool) (dlc : BitVec 4) (data : List (BitVec 8)) : Bool :=
  (xtd || decide (id.toNat < 2048)) && !(rtr && fdf) && (!brs || fdf) &&
    decide (data.length = if rtr then 0 else canDataLen fdf dlc.toNat)

/-- The largest frame of the Olisol link, in bytes (R237). -/
def olisolFrameMax : Nat := 4012

/-- Well-formed commands. -/
def Instr.wellFormed : Instr → Bool
  | .canFrameReceived _ xtd rtr id fdf brs _ dlc data _ => canFrameOk xtd rtr id fdf brs dlc data
  | .stationBlockReceived _ _ bytes _ => decide (bytes.length ≤ 252)
  | .framePassThrough _ bytes => decide (bytes.length ≤ olisolFrameMax)
  | .pcieBarAccess _ write _ len data => decide (0 < len.toNat) && decide (len.toNat ≤ 4096) && decide (data.length = if write then len.toNat else 0)
  | .checkpointApply cp => decide (cp.live < 2 ^ 64) && cp.lines.all (fun l => decide (l.2 < 2 ^ 512))
  | _ => true

end Sys2Proof
end

