-- ==== Sys2Proof/Certificates/Slice0/Obligations.lean ====
section
/-!
DEFINITION. The statements for the provers. A statement `exec c s = .next t` gives the whole next state, so it also says what the command
leaves unchanged.
-/

open Sys2Proof Sys2Proof.Machine

/-! Cells. In each statement `b` is the executing bank, and the next state differs from `s` in that bank alone unless it says more. -/

/-- R44, R51, R52: the two-operand functions of OP 0x01. Each writes DD and the flags of SR that R44 names for it, advances PC and counts
its cycles; only MUL waits for an operand register that the instruction before it loaded. -/
def Obligations.CellTwoOperandResult : Prop :=
  ∀ (s : State) (c : Fin 24) (dd da db : BitVec 4), s.dev.cellReady c →
    let b := s.dev.cur c
    let x := b.rD da
    let y := b.rD db
    let b1 := b.issued 1 noHz
    let nz := fun (r : Word) => srSet b.sr [(srN, r.msb), (srZ, decide (r = 0#32))]
    let add := fun (r : Word) => srSet (nz r)
      [(srC, decide (2 ^ 32 ≤ x.toNat + y.toNat)), (srV, !(decide (-(2 ^ 31) ≤ x.toInt + y.toInt) && decide (x.toInt + y.toInt ≤ 2 ^ 31 - 1)))]
    let sub := fun (r : Word) => srSet (nz r)
      [(srC, decide (y.toNat ≤ x.toNat)), (srV, !(decide (-(2 ^ 31) ≤ x.toInt - y.toInt) && decide (x.toInt - y.toInt ≤ 2 ^ 31 - 1)))]
    let put := fun (r sr : Word) => s.setCur c { b1.wD dd r with sr := sr }
    exec (.add c dd da db) s = .next (put (x + y) (add (x + y))) ∧
    exec (.sub c dd da db) s = .next (put (x - y) (sub (x - y))) ∧
    (let r := satS 32 (x.toInt + y.toInt)
     exec (.adds c dd da db) s = .next (put r.1 (stick (add r.1) srSV r.2))) ∧
    (let r := satS 32 (x.toInt - y.toInt)
     exec (.subs c dd da db) s = .next (put r.1 (stick (sub r.1) srSV r.2))) ∧
    exec (.cmp c da db) s = .next (s.setCur c { b1 with sr := sub (x - y) }) ∧
    exec (.and_ c dd da db) s = .next (put (x &&& y) (nz (x &&& y))) ∧
    exec (.or_ c dd da db) s = .next (put (x ||| y) (nz (x ||| y))) ∧
    exec (.xor c dd da db) s = .next (put (x ^^^ y) (nz (x ^^^ y))) ∧
    (let r := if y.toInt < x.toInt then y else x
     exec (.min c dd da db) s = .next (put r (nz r))) ∧
    (let r := if y.toInt < x.toInt then x else y
     exec (.max c dd da db) s = .next (put r (nz r))) ∧
    (let n := y.toNat % 64
     let r := if n < 32 then x.sshiftRight n else if x.msb then 0xFFFFFFFF#32 else 0#32
     exec (.asr c dd da db) s = .next (put r (nz r))) ∧
    (let r := x >>> (y.toNat % 64)
     exec (.lsr c dd da db) s = .next (put r (nz r))) ∧
    (let r := x <<< (y.toNat % 64)
     exec (.lsl c dd da db) s = .next (put r (nz r))) ∧
    (let cy := 1 + oneIf (b.hz.d.contains da.toNat || b.hz.d.contains db.toNat)
     exec (.mul c dd da db) s = .next (s.setCur c { (b.issued cy noHz).wD dd (x * y) with sr := nz (x * y) }))

/-- R43, R44: the one-operand functions and the immediate forms.
Rests on log entry 58. -/
def Obligations.CellOneOperandResult : Prop :=
  ∀ (s : State) (c : Fin 24) (dd da : BitVec 4) (imm : BitVec 18) (im : BitVec 16), s.dev.cellReady c →
    let b := s.dev.cur c
    let x := b.rD da
    let b1 := b.issued 1 noHz
    let nz := fun (r : Word) => srSet b.sr [(srN, r.msb), (srZ, decide (r = 0#32))]
    let put := fun (r sr : Word) => s.setCur c { b1.wD dd r with sr := sr }
    let neg := fun (r : Word) => srSet (nz r) [(srC, decide (x = 0#32)), (srV, decide (x = 0x80000000#32))]
    (let r := if x = 0x80000000#32 then 0x7FFFFFFF#32 else if x.msb then -x else x
     exec (.abs c dd da) s = .next (put r (stick (nz r) srSV (decide (x = 0x80000000#32))))) ∧
    exec (.neg c dd da) s = .next (put (-x) (neg (-x))) ∧
    (let r := if x = 0x80000000#32 then 0x7FFFFFFF#32 else -x
     exec (.negs c dd da) s = .next (put r (stick (neg r) srSV (decide (x = 0x80000000#32))))) ∧
    exec (.mov c dd da) s = .next (put x (nz x)) ∧
    (let y := imm.signExtend 32
     let r := x + y
     exec (.addi c dd da imm) s = .next (put r (srSet (nz r)
      [(srC, decide (2 ^ 32 ≤ x.toNat + y.toNat)), (srV, !(decide (-(2 ^ 31) ≤ x.toInt + y.toInt) && decide (x.toInt + y.toInt ≤ 2 ^ 31 - 1)))]))) ∧
    (let r := im.signExtend 32
     exec (.movl c dd im) s = .next (put r (nz r))) ∧
    (let r := im ++ (b.rD dd).extractLsb' 0 16
     exec (.movh c dd im) s = .next (put r (nz r))) ∧
    (let r := x &&& imm.zeroExtend 32
     exec (.andi c dd da imm) s = .next (put r (nz r))) ∧
    (let r := x ||| imm.zeroExtend 32
     exec (.ori c dd da imm) s = .next (put r (nz r)))

/-- R67: MULQ and RCPQ. The product with its shift, and the quotient 2^46 / DA, are rounded once to nearest even and saturated; a
reciprocal of 0 gives the largest value and sets SV. -/
def Obligations.CellFixedPointResult : Prop :=
  ∀ (s : State) (c : Fin 24) (dd da db : BitVec 4) (sh : BitVec 5), s.dev.cellReady c →
    let b := s.dev.cur c
    let x := b.rD da
    let y := b.rD db
    let nz := fun (r : Word) => srSet b.sr [(srN, r.msb), (srZ, decide (r = 0#32))]
    let cy := 1 + oneIf (b.hz.d.contains da.toNat || b.hz.d.contains db.toNat)
    (sh.toNat ≤ 16 →
      let v := rne (x.toInt * y.toInt * 2 ^ sh.toNat) (2 ^ 31)
      let r := satS 32 v
      exec (.mulq c dd da db sh) s =
        .next (s.setCur c { (b.issued cy noHz).wD dd r.1 with sr := stick (nz r.1) srSV r.2 })) ∧
    (x ≠ 0#32 →
      let v := rneInt (2 ^ 46) x.toInt
      let r := satS 32 v
      exec (.rcpq c dd da) s = .next (s.setCur c { (b.issued 4 noHz).wD dd r.1 with sr := stick (nz r.1) srSV r.2 })) ∧
    (x = 0#32 →
      exec (.rcpq c dd da) s =
        .next (s.setCur c { (b.issued 4 noHz).wD dd 0x7FFFFFFF#32 with sr := stick (nz 0x7FFFFFFF#32) srSV true }))

/-- R46, R68: FP32 outside COMET mode. Every function writes DD (FCMP writes Z, N, V and C) and sets the sticky exception bits it raises.
Rests on log entries 55, 56, 57. -/
def Obligations.CellFloatResult : Prop :=
  ∀ (s : State) (c : Fin 24) (dd da db dc : BitVec 4), s.dev.cellReady c → s.dev.get .C_STAT_MODE c ≠ 3 →
    let b := s.dev.cur c
    let dualf := s.dev.get .C_STAT_MODE c = 1
    let x := (b.rD da).toNat
    let y := (b.rD db).toNat
    let z := (b.rD dc).toNat
    let h := fun (r : BitVec 4) => b.hz.d.contains r.toNat
    let cy1 := (if dualf then 1 else 4) + oneIf (h da)
    let cy2 := (if dualf then 1 else 4) + oneIf (h da || h db)
    let cy3 := (if dualf then 1 else 4) + oneIf (h da || (h db || h dc))
    let put := fun (cy : Nat) (r : Nat × FFlags) =>
      s.setCur c { (b.issued cy noHz).wD dd (BitVec.ofNat 32 r.1) with sr := fpSr b.sr r.2 }
    exec (.fadd c dd da db) s = .next (put cy2 (f32.add x y)) ∧
    exec (.fsub c dd da db) s = .next (put cy2 (f32.sub x y)) ∧
    exec (.fmul c dd da db) s = .next (put cy2 (f32.mul x y)) ∧
    exec (.fma c dd da db dc) s = .next (put cy3 (f32.fma x y z)) ∧
    exec (.fms c dd da db dc) s = .next (put cy3 (f32.fms x y z)) ∧
    exec (.fmin c dd da db) s = .next (put cy2 (f32.minmax false x y)) ∧
    exec (.fmax c dd da db) s = .next (put cy2 (f32.minmax true x y)) ∧
    exec (.fabs c dd da) s = .next (put cy1 (x % 2 ^ 31, {})) ∧
    exec (.fneg c dd da) s = .next (put cy1 ((x + 2 ^ 31) % 2 ^ 32, {})) ∧
    exec (.frcp c dd da) s = .next (put ((if dualf then 4 else 8) + oneIf (h da)) (f32.div 0x3F800000 x)) ∧
    exec (.cvtqf c dd da) s = .next (put cy1 (f32.ofInt false (b.rD da).toInt (-31))) ∧
    exec (.cvtif c dd da) s = .next (put cy1 (f32.ofInt false (b.rD da).toInt 0)) ∧
    exec (.cvtfq c dd da) s = .next (put cy1 ((f32.toInt 32 31 x).1.toNat, (f32.toInt 32 31 x).2)) ∧
    exec (.cvtfi c dd da) s = .next (put cy1 ((f32.toInt 32 0 x).1.toNat, (f32.toInt 32 0 x).2)) ∧
    (let r := f32.cmp x y
     exec (.fcmp c da db) s = .next (s.setCur c { b.issued cy2 noHz with
       sr := fpSr (srSet b.sr [(srZ, r.1.1), (srN, r.1.2.1), (srC, false), (srV, r.1.2.2)]) r.2 }))

/-- R37, R42, R43, R53: loads and stores of data memory. LD and LD2 read 32-bit words at the addresses their P registers give, ST and MVM
write one; the P registers move by their modifies under L and B. After a REP an LD is carried out that often, and an instruction that may not be repeated aborts. The word written is the one at `cellBase c + 4 × address`; every
other byte of memory keeps its value (bytes of a mirrored state area are written in C5 too, R315: those are excluded by the last premise).
Rests on log entries 45, 54, 66, 150. -/
def Obligations.CellMemoryAccess : Prop :=
  ∀ (s : State) (c : Fin 24) (dd da db : BitVec 4) (p m : BitVec 3) (am : BitVec 2) (ofs : BitVec 14)
    (px mx py my : BitVec 3) (ux uy : Bool), s.dev.canIssue c = true →
    let b := s.dev.cur c
    let la := b.lAddr p am m ofs
    let xy := b.dAddr px mx py my ux uy
    let word := fun (w : BitVec 14) => BitVec.ofNat 32 (s.dev.rd (cellBase c + 4 * w.toNat) 4)
    let lst := oneIf ((if am.toNat % 2 = 1 then modUses p m else [(0, p.toNat)]).any (fun r => b.hz.ad.contains r))
    let dst := oneIf (((if ux then modUses px mx else [(0, px.toNat)]) ++ (if uy then modUses py my else [(0, py.toNat)])).any
      (fun r => b.hz.ad.contains r))
    let two := (if s.dev.get .C_STAT_MODE c = 2 then 2 else 1) + dst
    (b.rep = 0 → lLegal am.toNat m.toNat ofs.toNat = true →
      exec (.ld c dd p am m ofs false) s = .next (s.setCur c (((la.2).issued (1 + lst) (hzD [dd.toNat])).wD dd (word la.1))) ∧
      (let d1 := (s.dev.bumpSat .C_STAT_SEC_CNT c).report 0 (srcOf 1 0 c) 0x01 0x01
       exec (.ld c dd p am m ofs true) s =
         .next (s.setDev (d1.setBank c (s.dev.actBank c) (((la.2).issued (1 + lst) (hzD [dd.toNat])).wD dd (word la.1))))) ∧
      ∃ t, exec (.st c dd p am m ofs) s = .next t ∧ t.dev.cur c = (la.2).issued (1 + lst) noHz ∧
        (s.dev.on .SPARE_MIRROK (c / 6) = false → s.dev.on .x_RST_COPY (c / 6) = false →
          t.dev.rd (cellBase c + 4 * la.1.toNat) 4 = (b.rD dd).toNat ∧
          ∀ a, (a < cellBase c + 4 * la.1.toNat ∨ cellBase c + 4 * la.1.toNat + 4 ≤ a) → t.dev.byte a = s.dev.byte a)) ∧
    (b.rep = 0 → dLegal mx.toNat my.toNat 0 ux uy = true →
      exec (.ld2 c da db px mx py my ux uy) s =
        .next (s.setCur c ((((xy.2.2).issued two (hzD [da.toNat, db.toNat])).wD da (word xy.1)).wD db (word xy.2.1))) ∧
      ∃ t, exec (.mvm c px mx py my ux uy) s = .next t ∧ t.dev.cur c = (xy.2.2).issued two noHz ∧
        (s.dev.on .SPARE_MIRROK (c / 6) = false → s.dev.on .x_RST_COPY (c / 6) = false →
          t.dev.rd (cellBase c + 4 * xy.2.1.toNat) 4 = (word xy.1).toNat ∧
          ∀ a, (a < cellBase c + 4 * xy.2.1.toNat ∨ cellBase c + 4 * xy.2.1.toNat + 4 ≤ a) → t.dev.byte a = s.dev.byte a)) ∧
    (b.rep ≠ 0 →
      (let one := fun (x : Bank) => (x.modP p m).wD dd (word (x.rP p))
       let st := oneIf ((modUses p m).any (fun r => b.hz.ad.contains r))
       exec (.ld c dd p 1#2 m 0#14 false) s = .next (s.setCur c (one^[b.rep] (b.issued (st + b.rep) (hzD [dd.toNat]))))) ∧
      exec (.nop c) s = .next (s.setDev (s.dev.abort c 0x03 (b.pc - 1#13))))

/-- R42, R58, R66: the multiply-accumulate instructions. Each product is exact, doubled for F = 1; AC adds it to the accumulator, subtracts
it or replaces the accumulator, modulo 2^80, and AV is set when the exact result lies outside 80 bits.
Rests on log entry 54. -/
def Obligations.CellMultiplyAccumulate : Prop :=
  ∀ (s : State) (c : Fin 24) (an : BitVec 2) (db : BitVec 4) (px mx py my : BitVec 3) (ux uy fr : Bool) (ac : BitVec 2),
    s.dev.cellReady c → ac ≠ 3#2 →
    let b := s.dev.cur c
    let xy := b.dAddr px mx py my ux uy
    let xo := b.dAddr px mx 0#3 0#3 ux false
    let word := fun (w : BitVec 14) => BitVec.ofNat 32 (s.dev.rd (cellBase c + 4 * w.toNat) 4)
    let prod := fun (u v : Word) => (if fr then 2 else 1) * (u.toInt * v.toInt)
    let exact := fun (n : BitVec 2) (q : Int) => if ac = 0#2 then (b.rA n).toInt + q else if ac = 1#2 then (b.rA n).toInt - q else q
    let wide := fun (v : Int) => !(decide (-(2 ^ 79) ≤ v) && decide (v ≤ 2 ^ 79 - 1))
    let into := fun (k : Bank) (n : BitVec 2) (v : Int) => { k.wA n (BitVec.ofInt 80 v) with sr := stick k.sr srAV (wide v) }
    let hx := (if ux then modUses px mx else [(0, px.toNat)]).any (fun r => b.hz.ad.contains r)
    let hy := (if uy then modUses py my else [(0, py.toNat)]).any (fun r => b.hz.ad.contains r)
    let hd := fun (l : List Nat) => l.any (fun r => b.hz.d.contains r)
    let mode := s.dev.get .C_STAT_MODE c
    let qcy := if mode = 1 ∨ mode = 2 then 2 else 1
    let xcy := if mode = 2 then 2 else 1
    (dLegal mx.toNat my.toNat ac.toNat ux uy = true →
      (let x := word xy.1
       let y := word xy.2.1
       let k0 := (xy.2.2).issued (qcy + oneIf (hd [0, 1, 2, 3] || (hx || hy))) (hzA [0, 1, 2, 3])
       let k1 := into k0 0#2 (exact 0#2 (prod x (b.rD 0#4)))
       let k2 := into k1 1#2 (exact 1#2 (prod x (b.rD 1#4)))
       let k3 := into k2 2#2 (exact 2#2 (prod y (b.rD 2#4)))
       exec (.qmac c px mx py my ux uy fr ac) s = .next (s.setCur c (into k3 3#2 (exact 3#2 (prod y (b.rD 3#4)))))) ∧
      (let k0 := (xy.2.2).issued (xcy + oneIf (hx || hy)) (hzA [an.toNat])
       exec (.xmac c an px mx py my ux uy fr ac) s = .next (s.setCur c (into k0 an (exact an (prod (word xy.1) (word xy.2.1))))))) ∧
    (dLegal mx.toNat 0 ac.toNat ux false = true →
      (let x := word xo.1
       let k0 := (xo.2.2).issued (1 + oneIf (hd [0, 1] || hx)) (hzA [0, 1])
       let k1 := into k0 0#2 (exact 0#2 (prod x (b.rD 0#4)))
       exec (.dmac c px mx ux fr ac) s = .next (s.setCur c (into k1 1#2 (exact 1#2 (prod x (b.rD 1#4)))))) ∧
      (let k0 := (xo.2.2).issued (1 + oneIf (hd [db.toNat] || hx)) (hzA [an.toNat])
       exec (.smac c an db px mx ux fr ac) s = .next (s.setCur c (into k0 an (exact an (prod (word xo.1) (b.rD db))))))) ∧
    (mode = 1 → dLegal mx.toNat my.toNat 0 ux uy = true →
      let u := f32.fma (word xy.1).toNat (b.rD 0#4).toNat (b.rD 4#4).toNat
      let v := f32.fma (word xy.2.1).toNat (b.rD 1#4).toNat (b.rD 5#4).toNat
      let k0 := (xy.2.2).issued (1 + oneIf (hd [0, 1, 4, 5] || (hx || hy))) noHz
      exec (.fmac2 c px mx py my ux uy) s =
        .next (s.setCur c { (k0.wD 4#4 (BitVec.ofNat 32 u.1)).wD 5#4 (BitVec.ofNat 32 v.1) with sr := fpSr (fpSr b.sr u.2) v.2 }))

/-- R45, R66: the accumulator functions. -/
def Obligations.CellAccumulatorFunctions : Prop :=
  ∀ (s : State) (c : Fin 24) (dd : BitVec 4) (an as_ : BitVec 2) (sh : BitVec 4) (rm : Bool), s.dev.cellReady c →
    let b := s.dev.cur c
    let ha := 1 + oneIf (b.hz.a.contains an.toNat)
    let hs := 1 + oneIf (b.hz.a.contains an.toNat || b.hz.a.contains as_.toNat)
    let wide := fun (v : Int) => !(decide (-(2 ^ 79) ≤ v) && decide (v ≤ 2 ^ 79 - 1))
    (let v := (b.rA an).toInt * 2 ^ sh.toNat
     let r := satS 32 (if rm then v / 2 ^ 32 else rne v (2 ^ 32))
     exec (.mva c dd an sh rm) s =
       .next (s.setCur c { (b.issued ha (hzD [dd.toNat])).wD dd r.1 with sr := stick b.sr srSV r.2 })) ∧
    exec (.mvd c dd an) s = .next (s.setCur c ((b.issued 1 noHz).wA an (BitVec.ofInt 80 ((b.rD dd).toInt * 2 ^ 32)))) ∧
    exec (.clra c an) s = .next (s.setCur c ((b.issued 1 noHz).wA an 0#80)) ∧
    exec (.adda c an as_) s = .next (s.setCur c { (b.issued hs noHz).wA an (b.rA an + b.rA as_) with
      sr := stick b.sr srAV (wide ((b.rA an).toInt + (b.rA as_).toInt)) }) ∧
    exec (.suba c an as_) s = .next (s.setCur c { (b.issued hs noHz).wA an (b.rA an - b.rA as_) with
      sr := stick b.sr srAV (wide ((b.rA an).toInt - (b.rA as_).toInt)) }) ∧
    exec (.asha c an sh) s = .next (s.setCur c ((b.issued ha noHz).wA an ((b.rA an).sshiftRight sh.toNat))) ∧
    exec (.mval c dd an) s = .next (s.setCur c ((b.issued ha (hzD [dd.toNat])).wD dd ((b.rA an).extractLsb' 0 32)))

/-- R42, R43: SETA, LEA and GETA. -/
def Obligations.CellAddressRegisters : Prop :=
  ∀ (s : State) (c : Fin 24) (cl : BitVec 2) (idx pd ps : BitVec 3) (ds : BitVec 4) (imm : BitVec 16) (ofs : BitVec 14),
    s.dev.cellReady c →
    let b := s.dev.cur c
    let wr := hzAddr [(cl.toNat, idx.toNat)]
    exec (.seta c cl idx false 0#4 imm) s = .next (s.setCur c ((b.issued 1 wr).wAddr cl idx (imm.extractLsb' 0 14))) ∧
    exec (.seta c cl idx true ds 0#16) s = .next (s.setCur c ((b.issued 1 wr).wAddr cl idx ((b.rD ds).extractLsb' 0 14))) ∧
    exec (.lea c pd ps ofs) s = .next (s.setCur c
      ((b.issued (1 + oneIf (b.hz.ad.contains (0, ps.toNat))) (hzAddr [(0, pd.toNat)])).wP pd (b.rP ps + ofs))) ∧
    exec (.geta c cl idx ds) s = .next (s.setCur c ((b.issued 1 noHz).wD ds
      (if cl = 1#2 then (b.rAddr cl idx).signExtend 32 else (b.rAddr cl idx).zeroExtend 32)))

/-- R43, R47, R48, R59, R60: control flow, REP, MFS, MTS and NOP. COND holds as R47 lists, and its codes 0xD to 0xF are illegal. A branch taken costs a cycle more; a full or empty return stack aborts
with CAUSE 0x05 or 0x06; REP checks the word after it before it counts.
Rests on log entry 66. -/
def Obligations.CellControlFlow : Prop :=
  ∀ (s : State) (c : Fin 24) (cond dd ds : BitVec 4) (target : BitVec 13) (cnt : BitVec 10) (word : BitVec 32),
    s.dev.canIssue c = true →
    let b := s.dev.cur c
    let next := b.pc + 1#13
    let ill := fun (cause : Nat) (pc : BitVec 13) => Host.Outcome.next (φ := Fault) (ρ := Refusal) (s.setDev (s.dev.abort c cause pc))
    let fl := bitOf b.sr
    (∀ code holds, (code, holds) ∈ [(0x0#4, true), (0x1#4, fl srZ), (0x2#4, !fl srZ), (0x3#4, fl srN != fl srV), (0x4#4, fl srN == fl srV),
      (0x5#4, !fl srZ && (fl srN == fl srV)), (0x6#4, fl srZ || (fl srN != fl srV)), (0x7#4, fl srC), (0x8#4, !fl srC), (0x9#4, fl srT), (0xA#4, !fl srT),
      (0xB#4, fl srN), (0xC#4, !fl srN)] → condHolds b.sr code = holds) ∧
    (12 < cond.toNat → exec (.br c cond target) s = ill 0x01 b.pc ∧ exec (.ret c cond) s = ill 0x01 b.pc) ∧
    (b.rep = 0 →
      (cond.toNat ≤ 12 →
        exec (.br c cond target) s = .next (s.setCur c
          (if condHolds b.sr cond then { b.issued 2 noHz with pc := target } else b.issued 1 noHz)) ∧
        (condHolds b.sr cond = false → exec (.ret c cond) s = .next (s.setCur c (b.issued 1 noHz))) ∧
        (condHolds b.sr cond = true → ∀ r t, b.stack = r :: t →
          exec (.ret c cond) s = .next (s.setCur c { b.issued 2 noHz with pc := r, stack := t })) ∧
        (condHolds b.sr cond = true → b.stack = [] → exec (.ret c cond) s = ill 0x06 b.pc)) ∧
      (b.stack.length < 4 → exec (.call c target) s = .next (s.setCur c { b.issued 2 noHz with pc := target, stack := next :: b.stack })) ∧
      (4 ≤ b.stack.length → exec (.call c target) s = ill 0x05 b.pc) ∧
      (repCheck (s.dev.get .C_STAT_MODE c) (cnt.toNat + 1) word = none →
        exec (.repN c cnt word) s = .next (s.setCur c { b.issued 1 noHz with rep := cnt.toNat + 1 })) ∧
      (repCheck (s.dev.get .C_STAT_MODE c) (b.rD ds).toNat word = none →
        exec (.repDs c ds word) s = .next (s.setCur c { b.issued 1 noHz with rep := (b.rD ds).toNat })) ∧
      (∀ cause at_, repCheck (s.dev.get .C_STAT_MODE c) (cnt.toNat + 1) word = some (cause, at_) →
        exec (.repN c cnt word) s = ill cause (if at_ then next else b.pc)) ∧
      exec (.mfs c dd 0#3) s = .next (s.setCur c ((b.issued 1 noHz).wD dd b.sr)) ∧
      exec (.mfs c dd 1#3) s = .next (s.setCur c ((b.issued 1 noHz).wD dd b.fst)) ∧
      exec (.mts c dd) s = .next (s.setCur c { b.issued 1 noHz with sr := b.rD dd &&& 0x3FCF#32 }) ∧
      exec (.nop c) s = .next (s.setCur c (b.issued 1 noHz)))

/-- R62 to R65, R97: token instructions, END, and the place that frees in the emit buffer. EMIT launches a token with the firing tag of the
tick of its firing's output instant, or waits when eight tokens are in the buffer; END releases the bank. Whether END sets OVR rests on the
dispatcher's own cycles, which are free up to the bound of R55.
Rests on log entries 15, 65. -/
def Obligations.CellTokenInstructions : Prop :=
  ∀ (s : State) (c : Fin 24) (dd ds dq : BitVec 4) (ty : BitVec 2) (dest : BitVec 16) (k : BitVec 3) (mask : BitVec 8),
    let b := s.dev.cur c
    let a := s.dev.actBank c
    let b1 := b.issued 1 noHz
    let tok : Token := { dest := dest, ty := BitVec.ofNat 8 (ty.toNat + 1), qual := (b.rD dq).extractLsb' 0 8, val := b.rD ds,
                         ftag := BitVec.ofNat 16 (s.dev.outputAt b.slot b.tick / 1000) }
    let fl := fun (t : Token) => Flight.mk t (.cell c) b.slot b.tick
    (s.dev.cellReady c →
      (s.dev.waitingAt (.cell c) < 8 → exec (.emit c ds dq ty dest) s = .next (s.setDev ((s.dev.launch (fl tok)).setBank c a b1))) ∧
      (8 ≤ s.dev.waitingAt (.cell c) → exec (.emit c ds dq ty dest) s = .next (s.setCur c { b1 with waiting := some tok })) ∧
      exec (.qtst c k mask) s = .next (s.setCur c { b1 with sr := setBit b.sr srT (decide (b.rQ k &&& mask ≠ 0#8)) }) ∧
      exec (.qget c dd k) s = .next (s.setCur c (b1.wD dd ((b.rQ k).zeroExtend 32))) ∧
      (let q := fun (i : Nat) => if mask.getLsbD i then vget b.q i 0#8 else 0#8
       exec (.qor c dd mask) s = .next (s.setCur c (b1.wD dd
         ((q 0 ||| q 1 ||| q 2 ||| q 3 ||| q 4 ||| q 5 ||| q 6 ||| q 7).zeroExtend 32)))) ∧
      exec (.htst c) s = .next (s.setCur c { b1 with sr := setBit b.sr srT (b.fst.getLsbD 8) }) ∧
      ∃ (t : Dev) (slow : Bool), exec (.end_ c) s = .next (s.setDev t) ∧
        (let d1 := { s.dev with free := s.dev.free + 1 }
         let d2 := if slow then d1.put .SLOT_WCET_OVR b.slot 1 else d1
         t = (d2.setFate b.slot b.tick (if s.dev.now ≤ s.dev.cutoffAt b.slot b.tick then .inTime else .ended)).release c) ∧
        (s.dev.get .SLOT_WCET_WCET b.slot < b.cycles + 1 → slow = true) ∧
        (b.cycles + 1 + (b.cycles + 15) / 15 ≤ s.dev.get .SLOT_WCET_WCET b.slot → slow = false)) ∧
    (∀ t, s.dev.loopRuns = true → s.dev.on .x_RUNB c = true → b.waiting = some t → s.dev.waitingAt (.cell c) < 8 →
      exec (.emitBufferPlaceFreed c) s = .next (s.setDev ((s.dev.launch (fl t)).setBank c a { b with waiting := none })))

/-- R41, R42, R48, R51: what aborts a firing. A word that is no instruction, or one not available in the cell's mode (FP32 in COMET mode, FMAC2
outside DUALF mode), is recorded in Cc_ILL with its address, ends the firing as aborted and is counted up to 255; so are SH above 16 in
MULQ, a reserved AC, K above 1 in MFS and a condition code above 0xC.
Rests on log entries 54, 142. -/
def Obligations.CellIllegalWordAborts : Prop :=
  ∀ (s : State) (c : Fin 24) (word : BitVec 32) (dd da db cond : BitVec 4) (sh : BitVec 5) (k : BitVec 3) (target : BitVec 13)
    (px mx py my : BitVec 3) (ux uy fr : Bool), s.dev.cellReady c →
    let b := s.dev.cur c
    let mode := s.dev.get .C_STAT_MODE c
    let t := fun (cause : Nat) => s.setDev (s.dev.abort c cause b.pc)
    let ill := fun (cause : Nat) => Host.Outcome.next (φ := Fault) (ρ := Refusal) (t cause)
    (cellWord word = none → exec (.illegalInstructionAbort c word) s = ill 0x01) ∧
    (∀ kd r, cellWord word = some (kd, r) → kd.cycles mode = none → exec (.illegalInstructionAbort c word) s = ill 0x02) ∧
    (16 < sh.toNat → exec (.mulq c dd da db sh) s = ill 0x01) ∧
    (12 < cond.toNat → exec (.br c cond target) s = ill 0x01 ∧ exec (.ret c cond) s = ill 0x01) ∧
    (1 < k.toNat → exec (.mfs c dd k) s = ill 0x01) ∧
    exec (.qmac c px mx py my ux uy fr 3#2) s = ill 0x01 ∧
    (ux = false → mx ≠ 0#3 → exec (.ld2 c da db px mx py my ux uy) s = ill 0x01) ∧
    (mode = 3 →
      exec (.fadd c dd da db) s = ill 0x02 ∧ exec (.fmul c dd da db) s = ill 0x02 ∧ exec (.frcp c dd da) s = ill 0x02 ∧
      exec (.fcmp c da db) s = ill 0x02) ∧
    (mode ≠ 1 → dLegal mx.toNat my.toNat 0 ux uy = true → exec (.fmac2 c px mx py my ux uy) s = ill 0x02) ∧
    ∀ cause, 0 < cause → cause < 16 →
      let d := (t cause).dev
      d.get .C_ILL_CAUSE c = cause ∧ d.get .C_ILL_PC c = b.pc.toNat ∧ d.get .C_ILL_SLOT c = b.slot % 64 ∧
      d.fate b.slot b.tick = some .aborted ∧
      d.get .C_STAT_ILL_CNT c = (if s.dev.get .C_STAT_ILL_CNT c + 1 < 256 then s.dev.get .C_STAT_ILL_CNT c + 1 else s.dev.get .C_STAT_ILL_CNT c)

/-! Task cores. In each statement `x` is the context of the running task n; the next state differs from `s` in PC, RUN and the context of that
task alone unless it says more. -/

/-- R44, R112: the 64-bit functions of two or one register.
Rests on log entry 58. -/
def Obligations.TaskRegisterResult : Prop :=
  ∀ (s : State) (k : Fin 4) (n : Nat) (xd xa xb : BitVec 5), s.dev.taskReady k n →
    let x := s.dev.ctx n
    let a := x.rX xa
    let b := x.rX xb
    let nz := fun (r : DWord) => srSet x.sr [(srN, r.msb), (srZ, decide (r = 0#64))]
    let out := fun (i : Int) => !(decide (-(2 ^ 63) ≤ i) && decide (i ≤ 2 ^ 63 - 1))
    let add := fun (r : DWord) => srSet (nz r) [(srC, decide (2 ^ 64 ≤ a.toNat + b.toNat)), (srV, out (a.toInt + b.toInt))]
    let sub := fun (r : DWord) => srSet (nz r) [(srC, decide (b.toNat ≤ a.toNat)), (srV, out (a.toInt - b.toInt))]
    let neg := fun (r : DWord) => srSet (nz r) [(srC, decide (a = 0#64)), (srV, decide (a = 0x8000000000000000#64))]
    let put := fun (r : DWord) (sr : Word) => s.taskDone n 1 { x.wX xd r with sr := sr }
    exec (.taskAdd k xd xa xb) s = .next (put (a + b) (add (a + b))) ∧
    exec (.taskSub k xd xa xb) s = .next (put (a - b) (sub (a - b))) ∧
    (let r := satS 64 (a.toInt + b.toInt)
     exec (.taskAdds k xd xa xb) s = .next (put r.1 (stick (add r.1) srSV r.2))) ∧
    (let r := satS 64 (a.toInt - b.toInt)
     exec (.taskSubs k xd xa xb) s = .next (put r.1 (stick (sub r.1) srSV r.2))) ∧
    exec (.taskCmp k xa xb) s = .next (s.taskDone n 1 { x with sr := sub (a - b) }) ∧
    exec (.taskAnd k xd xa xb) s = .next (put (a &&& b) (nz (a &&& b))) ∧
    exec (.taskOr k xd xa xb) s = .next (put (a ||| b) (nz (a ||| b))) ∧
    exec (.taskXor k xd xa xb) s = .next (put (a ^^^ b) (nz (a ^^^ b))) ∧
    (let r := if b.toInt < a.toInt then b else a
     exec (.taskMin k xd xa xb) s = .next (put r (nz r))) ∧
    (let r := if b.toInt < a.toInt then a else b
     exec (.taskMax k xd xa xb) s = .next (put r (nz r))) ∧
    (let r := if a = 0x8000000000000000#64 then 0x7FFFFFFFFFFFFFFF#64 else if a.msb then -a else a
     exec (.taskAbs k xd xa) s = .next (put r (stick (nz r) srSV (decide (a = 0x8000000000000000#64))))) ∧
    exec (.taskNeg k xd xa) s = .next (put (-a) (neg (-a))) ∧
    (let r := if a = 0x8000000000000000#64 then 0x7FFFFFFFFFFFFFFF#64 else -a
     exec (.taskNegs k xd xa) s = .next (put r (stick (neg r) srSV (decide (a = 0x8000000000000000#64))))) ∧
    exec (.taskMov k xd xa) s = .next (put a (nz a)) ∧
    (let m := b.toNat % 128
     let r := if m < 64 then a.sshiftRight m else if a.msb then 0xFFFFFFFFFFFFFFFF#64 else 0#64
     exec (.taskAsr k xd xa xb) s = .next (put r (nz r))) ∧
    (let r := a >>> (b.toNat % 128)
     exec (.taskLsr k xd xa xb) s = .next (put r (nz r))) ∧
    (let r := a <<< (b.toNat % 128)
     exec (.taskLsl k xd xa xb) s = .next (put r (nz r)))

/-- R112: multiplication, division and the immediate forms. A division by zero gives 0 (REM: the dividend) and sets V; −2^63 by −1 gives −2^63 and sets
V. MOVK replaces one 16-bit field and writes no flag; a part above 3 is an illegal word.
Rests on log entry 59. -/
def Obligations.TaskMultiplyDivideImmediate : Prop :=
  (∀ (s : State) (k : Fin 4) (n : Nat) (xd xa xb : BitVec 5), s.dev.taskReady k n →
      let x := s.dev.ctx n
      let a := x.rX xa
      let b := x.rX xb
      let nz := fun (r : DWord) => srSet x.sr [(srN, r.msb), (srZ, decide (r = 0#64))]
      let put := fun (cyc : Nat) (r : DWord) (v : Bool) => s.taskDone n cyc { x.wX xd r with sr := stick (nz r) srV v }
      exec (.taskMul k xd xa xb) s = .next (put 3 (a * b) false) ∧
      exec (.mulh k xd xa xb) s = .next (put 3 (BitVec.ofInt 64 (a.toInt * b.toInt / 2 ^ 64)) false) ∧
      (b = 0#64 →
        exec (.div k xd xa xb) s = .next (put 34 0#64 true) ∧ exec (.divu k xd xa xb) s = .next (put 34 0#64 true) ∧
        exec (.rem k xd xa xb) s = .next (put 34 a true)) ∧
      (b ≠ 0#64 →
        (¬(a = 0x8000000000000000#64 ∧ b = 0xFFFFFFFFFFFFFFFF#64) → exec (.div k xd xa xb) s = .next (put 34 (BitVec.ofInt 64 (a.toInt.tdiv b.toInt)) false)) ∧
        (a = 0x8000000000000000#64 → b = 0xFFFFFFFFFFFFFFFF#64 → exec (.div k xd xa xb) s = .next (put 34 0x8000000000000000#64 true)) ∧
        exec (.divu k xd xa xb) s = .next (put 34 (BitVec.ofNat 64 (a.toNat / b.toNat)) false) ∧
        exec (.rem k xd xa xb) s = .next (put 34 (BitVec.ofInt 64 (a.toInt.tmod b.toInt)) false))) ∧
  (∀ (s : State) (k : Fin 4) (n : Nat) (xd xa part : BitVec 5) (imm : BitVec 16), s.dev.taskReady k n →
      let x := s.dev.ctx n
      let a := x.rX xa
      let nz := fun (r : DWord) => srSet x.sr [(srN, r.msb), (srZ, decide (r = 0#64))]
      let put := fun (r : DWord) (sr : Word) => s.taskDone n 1 { x.wX xd r with sr := sr }
      (let b := imm.signExtend 64
       let r := a + b
       exec (.taskAddi k xd xa imm) s = .next (put r (srSet (nz r) [(srC, decide (2 ^ 64 ≤ a.toNat + b.toNat)),
         (srV, !(decide (-(2 ^ 63) ≤ a.toInt + b.toInt) && decide (a.toInt + b.toInt ≤ 2 ^ 63 - 1)))]))) ∧
      (let r := imm.signExtend 64
       exec (.taskMovl k xd imm) s = .next (put r (nz r))) ∧
      (let r := a &&& imm.zeroExtend 64
       exec (.taskAndi k xd xa imm) s = .next (put r (nz r))) ∧
      (let r := a ||| imm.zeroExtend 64
       exec (.taskOri k xd xa imm) s = .next (put r (nz r))) ∧
      (part.toNat ≤ 3 → ∃ r : DWord,
        (∀ i, i < 64 → r.getLsbD i = if i / 16 = part.toNat then imm.getLsbD (i % 16) else (x.rX xd).getLsbD i) ∧
        exec (.movk k xd part imm) s = .next (s.taskDone n 1 (x.wX xd r))) ∧
      (3 < part.toNat → exec (.movk k xd part imm) s = .next (s.setDev (s.dev.taskFault n 0x01))))

/-- R46, R68, R112: FP32 on bits 31 to 0, the result zero-extended, with the sticky exception bits.
Rests on log entries 55, 56, 57. -/
def Obligations.TaskFloat32Result : Prop :=
  ∀ (s : State) (k : Fin 4) (n : Nat) (xd xa xb xc : BitVec 5), s.dev.taskReady k n →
    let x := s.dev.ctx n
    let low := fun (i : BitVec 5) => (x.rX i).toNat % 2 ^ 32
    let sgn := ((x.rX xa).extractLsb' 0 32).toInt
    let put := fun (cyc : Nat) (r : Nat × FFlags) => s.taskDone n cyc { x.wX xd (BitVec.ofNat 64 r.1) with sr := fpSr x.sr r.2 }
    exec (.taskFadd k xd xa xb) s = .next (put 4 (f32.add (low xa) (low xb))) ∧
    exec (.taskFsub k xd xa xb) s = .next (put 4 (f32.sub (low xa) (low xb))) ∧
    exec (.taskFmul k xd xa xb) s = .next (put 4 (f32.mul (low xa) (low xb))) ∧
    exec (.taskFma k xd xa xb xc) s = .next (put 4 (f32.fma (low xa) (low xb) (low xc))) ∧
    exec (.taskFms k xd xa xb xc) s = .next (put 4 (f32.fms (low xa) (low xb) (low xc))) ∧
    exec (.taskFmin k xd xa xb) s = .next (put 4 (f32.minmax false (low xa) (low xb))) ∧
    exec (.taskFmax k xd xa xb) s = .next (put 4 (f32.minmax true (low xa) (low xb))) ∧
    exec (.taskFabs k xd xa) s = .next (put 4 (low xa % 2 ^ 31, {})) ∧
    exec (.taskFneg k xd xa) s = .next (put 4 ((low xa + 2 ^ 31) % 2 ^ 32, {})) ∧
    exec (.taskFrcp k xd xa) s = .next (put 20 (f32.div 0x3F800000 (low xa))) ∧
    exec (.taskCvtqf k xd xa) s = .next (put 4 (f32.ofInt false sgn (-31))) ∧
    exec (.taskCvtif k xd xa) s = .next (put 4 (f32.ofInt false sgn 0)) ∧
    exec (.taskCvtfq k xd xa) s = .next (put 4 ((f32.toInt 32 31 (low xa)).1.toNat, (f32.toInt 32 31 (low xa)).2)) ∧
    exec (.taskCvtfi k xd xa) s = .next (put 4 ((f32.toInt 32 0 (low xa)).1.toNat, (f32.toInt 32 0 (low xa)).2)) ∧
    (let r := f32.cmp (low xa) (low xb)
     exec (.taskFcmp k xa xb) s = .next (s.taskDone n 4 { x with
       sr := fpSr (srSet x.sr [(srZ, r.1.1), (srN, r.1.2.1), (srC, false), (srV, r.1.2.2)]) r.2 }))

/-- R46, R68, R113: FP64, division, square root and the conversions.
Rests on log entries 55, 56, 57. -/
def Obligations.TaskFloat64Result : Prop :=
  ∀ (s : State) (k : Fin 4) (n : Nat) (xd xa xb xc : BitVec 5), s.dev.taskReady k n →
    let x := s.dev.ctx n
    let v := fun (i : BitVec 5) => (x.rX i).toNat
    let low := (x.rX xa).toNat % 2 ^ 32
    let sgn := ((x.rX xa).extractLsb' 0 32).toInt
    let put := fun (cyc : Nat) (r : Nat × FFlags) => s.taskDone n cyc { x.wX xd (BitVec.ofNat 64 r.1) with sr := fpSr x.sr r.2 }
    exec (.fp64Fadd k xd xa xb) s = .next (put 4 (f64.add (v xa) (v xb))) ∧
    exec (.fp64Fsub k xd xa xb) s = .next (put 4 (f64.sub (v xa) (v xb))) ∧
    exec (.fp64Fmul k xd xa xb) s = .next (put 4 (f64.mul (v xa) (v xb))) ∧
    exec (.fp64Fma k xd xa xb xc) s = .next (put 4 (f64.fma (v xa) (v xb) (v xc))) ∧
    exec (.fp64Fms k xd xa xb xc) s = .next (put 4 (f64.fms (v xa) (v xb) (v xc))) ∧
    exec (.fp64Fmin k xd xa xb) s = .next (put 4 (f64.minmax false (v xa) (v xb))) ∧
    exec (.fp64Fmax k xd xa xb) s = .next (put 4 (f64.minmax true (v xa) (v xb))) ∧
    exec (.fp64Fabs k xd xa) s = .next (put 4 (v xa % 2 ^ 63, {})) ∧
    exec (.fp64Fneg k xd xa) s = .next (put 4 ((v xa + 2 ^ 63) % 2 ^ 64, {})) ∧
    exec (.fp64Frcp k xd xa) s = .next (put 20 (f64.div 0x3FF0000000000000 (v xa))) ∧
    exec (.fp64Cvtqf k xd xa) s = .next (put 4 (f64.ofInt false sgn (-31))) ∧
    exec (.fp64Cvtif k xd xa) s = .next (put 4 (f64.ofInt false sgn 0)) ∧
    exec (.fp64Cvtfq k xd xa) s = .next (put 4 ((f64.toInt 32 31 (v xa)).1.toNat, (f64.toInt 32 31 (v xa)).2)) ∧
    exec (.fp64Cvtfi k xd xa) s = .next (put 4 ((f64.toInt 32 0 (v xa)).1.toNat, (f64.toInt 32 0 (v xa)).2)) ∧
    (let r := f64.cmp (v xa) (v xb)
     exec (.fp64Fcmp k xa xb) s = .next (s.taskDone n 4 { x with
       sr := fpSr (srSet x.sr [(srZ, r.1.1), (srN, r.1.2.1), (srC, false), (srV, r.1.2.2)]) r.2 })) ∧
    exec (.fdiv k xd xa xb) s = .next (put 20 (f64.div (v xa) (v xb))) ∧
    exec (.fsqrt k xd xa) s = .next (put 24 (f64.sqrt (v xa))) ∧
    exec (.cvtds k xd xa) s = .next (put 4 (f64.conv f32 (v xa))) ∧
    exec (.cvtsd k xd xa) s = .next (put 4 (f32.conv f64 low)) ∧
    exec (.cvtld k xd xa) s = .next (put 4 (f64.ofInt false (x.rX xa).toInt 0)) ∧
    exec (.cvtdl k xd xa) s = .next (put 4 ((f64.toInt 64 0 (v xa)).1.toNat, (f64.toInt 64 0 (v xa)).2))

/-- R113: bit logic. Bits beyond bit 63 read 0 in BFX and are not written in BFI; BTST writes T, the others no flag. -/
def Obligations.TaskBitResult : Prop :=
  ∀ (s : State) (k : Fin 4) (n : Nat) (xd xa xb xc : BitVec 5), s.dev.taskReady k n →
    let x := s.dev.ctx n
    let a := x.rX xa
    let i := (x.rX xb).toNat % 64
    let w := (x.rX xc).toNat % 64 + 1
    let put := fun (r : DWord) => s.taskDone n 1 (x.wX xd r)
    (∃ r : DWord, (∀ j, j < 64 → r.getLsbD j = (a.getLsbD j || decide (j = i))) ∧ exec (.bset k xd xa xb) s = .next (put r)) ∧
    (∃ r : DWord, (∀ j, j < 64 → r.getLsbD j = (a.getLsbD j && !decide (j = i))) ∧ exec (.bclr k xd xa xb) s = .next (put r)) ∧
    exec (.btst k xa xb) s = .next (s.taskDone n 1 { x with sr := setBit x.sr srT (a.getLsbD i) }) ∧
    (∃ r : DWord, (∀ j, j < 64 → r.getLsbD j = (decide (j < w) && a.getLsbD (i + j))) ∧ exec (.bfx k xd xa xb xc) s = .next (put r)) ∧
    (∃ r : DWord, (∀ j, j < 64 → r.getLsbD j = if i ≤ j ∧ j < i + w then a.getLsbD (j - i) else (x.rX xd).getLsbD j) ∧
      exec (.bfi k xd xa xb xc) s = .next (put r)) ∧
    (∃ z, z ≤ 64 ∧ a.toNat < 2 ^ (64 - z) ∧ (z < 64 → 2 ^ (63 - z) ≤ a.toNat) ∧ exec (.clz k xd xa) s = .next (put (BitVec.ofNat 64 z))) ∧
    exec (.popc k xd xa) s = .next (put (BitVec.ofNat 64 ((List.range 64).filter (fun j => a.getLsbD j)).length)) ∧
    exec (.rol k xd xa xb) s = .next (put (a <<< i ||| a >>> (64 - i))) ∧
    exec (.ror k xd xa xb) s = .next (put (a >>> i ||| a <<< (64 - i))) ∧
    exec (.sxw k xd xa) s = .next (put ((a.extractLsb' 0 32).signExtend 64)) ∧
    exec (.zxw k xd xa) s = .next (put ((a.extractLsb' 0 32).zeroExtend 64)) ∧
    exec (.sxh k xd xa) s = .next (put ((a.extractLsb' 0 16).signExtend 64)) ∧
    exec (.sxb k xd xa) s = .next (put ((a.extractLsb' 0 8).signExtend 64))

/-- R109, R111, R112: control flow and SR. The target of BR and CALL is counted from the instruction's own address, modulo 2^28; a transfer of
control taken costs a second cycle.
Rests on log entry 61. -/
def Obligations.TaskControlFlow : Prop :=
  ∀ (s : State) (k : Fin 4) (n : Nat) (xd xa : BitVec 5) (cond : BitVec 4) (ofs : BitVec 22), s.dev.taskReady k n →
    let x := s.dev.ctx n
    let pc := s.dev.get .TASK_STAT_PC n
    let rel := (((pc : Int) + 4 * ofs.toInt) % 2 ^ 28).toNat
    let to_ := fun (t : State) (p : Nat) => s.dev.stepRegs t.dev n p 2 ∧ t = s.setDev { s.dev with regs := t.dev.regs, tasks := t.dev.tasks }
    (cond.toNat ≤ 12 → condHolds x.sr cond = false →
      exec (.taskBr k cond ofs) s = .next (s.setDev (s.dev.stepped n 1)) ∧ exec (.taskRet k cond) s = .next (s.setDev (s.dev.stepped n 1))) ∧
    (cond.toNat ≤ 12 → condHolds x.sr cond = true →
      (∃ t, exec (.taskBr k cond ofs) s = .next t ∧ to_ t rel ∧ t.dev.tasks = s.dev.tasks) ∧
      (∃ t, exec (.taskRet k cond) s = .next t ∧ to_ t ((x.rX 31#5).toNat % 2 ^ 28) ∧ t.dev.tasks = s.dev.tasks)) ∧
    (12 < cond.toNat →
      exec (.taskBr k cond ofs) s = .next (s.setDev (s.dev.taskFault n 0x01)) ∧ exec (.taskRet k cond) s = .next (s.setDev (s.dev.taskFault n 0x01))) ∧
    (∃ t, exec (.taskCall k ofs) s = .next t ∧ to_ t rel ∧ t.dev.ctx n = x.wX 31#5 (BitVec.ofNat 64 ((pc + 4) % 2 ^ 28)) ∧
      ∀ m, m ≠ n → t.dev.ctx m = s.dev.ctx m) ∧
    (∃ t, exec (.jr k xa) s = .next t ∧ to_ t ((x.rX xa).toNat % 2 ^ 28) ∧ t.dev.tasks = s.dev.tasks) ∧
    exec (.taskMfs k xd) s = .next (s.taskDone n 1 (x.wX xd (x.sr.zeroExtend 64))) ∧
    exec (.taskMts k xa) s = .next (s.taskDone n 1 { x with sr := (x.rX xa).extractLsb' 0 32 &&& 0xF7CF#32 }) ∧
    exec (.taskNop k) s = .next (s.taskDone n 1 x)

/-- R112, R114, R134: loads from memory and from a register. The value is extended as the mnemonic says; a load from the core's own tightly
coupled memory takes 2 cycles, any other at least 10 (how many more is free, log entry 9). Memory and every other register keep their values.
Rests on log entry 9. -/
def Obligations.TaskLoads : Prop :=
  ∀ (s : State) (k : Fin 4) (n : Nat) (xd xa : BitVec 5) (imm : BitVec 16), s.dev.taskReady k n →
    let x := s.dev.ctx n
    let a := (x.rX xa + imm.signExtend 64).toNat
    let v := fun (w : Nat) => s.dev.rd a w
    let done := fun (i : Instr) (r : DWord) =>
      ∃ t cyc, exec i s = .next t ∧ t.dev.ctx n = x.wX xd r ∧ (∀ m, m ≠ n → t.dev.ctx m = s.dev.ctx m) ∧
        s.dev.stepRegs t.dev n ((s.dev.get .TASK_STAT_PC n + 4) % 2 ^ 28) cyc ∧ (ownMem k a = true → cyc = 2) ∧ (ownMem k a = false → 10 ≤ cyc) ∧
        t = s.setDev { s.dev with regs := t.dev.regs, tasks := t.dev.tasks, free := t.dev.free }
    a < 2 ^ 40 →
    (access false a 8 = .mem → done (.ldd k xd xa imm) (BitVec.ofNat 64 (v 8))) ∧
    (access false a 4 = .mem →
      done (.ldw k xd xa imm) ((BitVec.ofNat 32 (v 4)).signExtend 64) ∧ done (.ldwu k xd xa imm) (BitVec.ofNat 64 (v 4))) ∧
    (access false a 2 = .mem →
      done (.ldh k xd xa imm) ((BitVec.ofNat 16 (v 2)).signExtend 64) ∧ done (.ldhu k xd xa imm) (BitVec.ofNat 64 (v 2))) ∧
    (access false a 1 = .mem → done (.ldb k xd xa imm) (BitVec.ofNat 64 (v 1))) ∧
    (∀ r i, access false a 4 = .reg r i → (∀ d : Dev, d.readEffect r.key i = d) → deadReg r.key i = false →
      ∃ t, exec (.ldwu k xd xa imm) s = .next t ∧ t.dev.ctx n = x.wX xd (BitVec.ofNat 64 (((s.dev.stepped n 0).readWord r i))))

/-- R112, R114: stores to memory. The bytes stored are the low bytes of XD, little-endian; outside the memories of the cells and of the field
region every other byte of memory is unchanged.
Rests on log entries 43, 44. -/
def Obligations.TaskStores : Prop :=
  ∀ (s : State) (k : Fin 4) (n : Nat) (xd xa : BitVec 5) (imm : BitVec 16), s.dev.taskReady k n →
    let x := s.dev.ctx n
    let a := (x.rX xa + imm.signExtend 64).toNat
    let stored := fun (i : Instr) (w : Nat) =>
      access true a w = .mem → s.dev.areaOpen a = true →
        let v := (x.rX xd).toNat % 2 ^ (8 * w)
        exec i s = .next (s.setDev ((s.dev.stepped n 1).memWrite a w v)) ∧
        (inCellMem a = false → inFieldMem a = false →
          ∃ t, exec i s = .next t ∧ t.dev.rd a w = v ∧ (∀ b, b < a ∨ a + w ≤ b → t.dev.byte b = s.dev.byte b) ∧
            s.dev.stepRegs t.dev n ((s.dev.get .TASK_STAT_PC n + 4) % 2 ^ 28) 1 ∧
            t = s.setDev { s.dev with regs := t.dev.regs, mem := t.dev.mem, dirty := t.dev.dirty })
    a < 2 ^ 40 →
    stored (.std k xd xa imm) 8 ∧ stored (.stw k xd xa imm) 4 ∧ stored (.sth k xd xa imm) 2 ∧ stored (.stb k xd xa imm) 1 ∧
    (∀ r i, access true a 4 = .reg r i →
      exec (.stw k xd xa imm) s = .next (s.setDev ((s.dev.stepped n 1).writeReg false false r i ((x.rX xd).toNat % 2 ^ 32))))

/-- R111, R115, R147: task faults. A fetch outside program memory, an illegal word, an address that is answered with an error and an unaligned
access put the task in FAULT with their cause and its own PC, and stop the program region; the stop marks every other live task STOPPED.
Rests on log entries 63, 142. -/
def Obligations.TaskFaultsStopTheRegion : Prop :=
  ∀ (s : State) (k : Fin 4) (n : Nat) (xd xa : BitVec 5) (imm : BitVec 16) (word : BitVec 32), n < 64 →
    s.dev.canIssueT k = true → s.dev.running k = some n →
    let x := s.dev.ctx n
    let pc := s.dev.get .TASK_STAT_PC n
    let a := (x.rX xa + imm.signExtend 64).toNat
    let faults := fun (i : Instr) (cause : Nat) =>
      ∃ t, exec i s = .next t ∧ t.dev.get .TASK_STAT_STATE n = 7 ∧ t.dev.get .TASK_FAULT n = cause ∧ t.dev.get .TASK_STAT_PC n = pc % 2 ^ 28 ∧
        t.dev.get .WD_STAT_STOPPED 0 = 1 ∧ t.dev.get .WD_STAT_CAUSE 0 = 2 ∧ t.dev.get .WD_STAT_TASK 0 = n ∧ t.dev.ctx n = x ∧
        ∀ m, m < 64 → m ≠ n → t.dev.get .TASK_STAT_STATE m =
          if s.dev.get .TASK_STAT_STATE m = 0 ∨ s.dev.get .TASK_STAT_STATE m = 7 then s.dev.get .TASK_STAT_STATE m else 6
    (inProgMem pc = false → pc < 2 ^ 28 → faults (.taskIllegalInstruction k word) 0x04 ∧ faults (.taskNop k) 0x04) ∧
    (inProgMem pc = true → taskWordLegal word = false → faults (.taskIllegalInstruction k word) 0x01) ∧
    (inProgMem pc = true → 2 ^ 40 ≤ a → faults (.ldd k xd xa imm) 0x02 ∧ faults (.stb k xd xa imm) 0x02) ∧
    (inProgMem pc = true → a < 2 ^ 40 → access false a 8 = .unaligned → faults (.ldd k xd xa imm) 0x03) ∧
    (inProgMem pc = true → a < 2 ^ 40 → access true a 8 = .unaligned → faults (.std k xd xa imm) 0x03) ∧
    (inProgMem pc = true → a < 2 ^ 40 → access false a 4 = .err → faults (.ldw k xd xa imm) 0x02)

/-- R113, R117, R120, R121: event flags. FSET sets flags of a task, FCLR and FGET act on the task's own; a wait whose condition holds ends at once, a
wait with time 0 that does not hold sets TO, any other blocks; TASKn_FSET sets flags; a waiting task whose condition is met becomes READY with
its flags in XD.
Rests on log entries 60, 62. -/
def Obligations.TaskEventFlags : Prop :=
  (∀ (s : State) (k : Fin 4) (n : Nat) (xd xa xb : BitVec 5), s.dev.taskReady k n →
      let x := s.dev.ctx n
      let d := s.dev.stepped n 4
      let fl := s.dev.get .TASK_FLAGS n
      let m := (x.rX xa).toNat % 2 ^ 32
      let t := (x.rX xb).toNat % 2 ^ 32
      let any_ := m = 0 ∨ fl &&& m ≠ 0
      let all_ := fl &&& m = m
      let got := fun (to_ : Bool) => (d.setX n xd (BitVec.ofNat 64 fl)).srBit n srTO to_
      let cleared := (got false).put .TASK_FLAGS n (fl &&& (2 ^ 32 - 1 - m))
      let blocked := fun (all clear : Bool) =>
        let d1 := (((d.put .TASK_WMASK n m).put .x_RUNT k 0).setCtx n { x with wait := .flag all clear xd }).put .TASK_STAT_STATE n 3
        if t = 0xFFFFFFFF then d1 else ((d1.put .x_WAKE n (s.dev.tick + t)).put .TASK_WAKE n (s.dev.tick + t)).put .x_TIMED n 1
      ((x.rX xa).toNat ≤ 63 →
        let to_ := (x.rX xa).toNat
        exec (.fset k xa xb) s = .next (s.setDev (d.put .TASK_FLAGS to_ (s.dev.get .TASK_FLAGS to_ ||| t)))) ∧
      exec (.fclr k xb) s = .next (s.setDev (d.put .TASK_FLAGS n (fl &&& (2 ^ 32 - 1 - t)))) ∧
      exec (.fget k xd) s = .next (s.taskDone n 4 (x.wX xd (BitVec.ofNat 64 fl))) ∧
      (any_ → exec (.fwaito k xd xa xb) s = .next (s.setDev (got false)) ∧ exec (.fwaitoc k xd xa xb) s = .next (s.setDev cleared)) ∧
      (all_ → exec (.fwaita k xd xa xb) s = .next (s.setDev (got false)) ∧ exec (.fwaitac k xd xa xb) s = .next (s.setDev cleared)) ∧
      (¬any_ → t = 0 → exec (.fwaito k xd xa xb) s = .next (s.setDev (got true)) ∧ exec (.fwaitoc k xd xa xb) s = .next (s.setDev (got true))) ∧
      (¬all_ → t = 0 → exec (.fwaita k xd xa xb) s = .next (s.setDev (got true)) ∧ exec (.fwaitac k xd xa xb) s = .next (s.setDev (got true))) ∧
      (s.dev.get .TASK_CTL_CORE n = k → ¬any_ → t ≠ 0 →
        exec (.fwaito k xd xa xb) s = .next (s.setDev (blocked false false)) ∧ exec (.fwaitoc k xd xa xb) s = .next (s.setDev (blocked false true))) ∧
      (s.dev.get .TASK_CTL_CORE n = k → ¬all_ → t ≠ 0 →
        exec (.fwaita k xd xa xb) s = .next (s.setDev (blocked true false)) ∧ exec (.fwaitac k xd xa xb) s = .next (s.setDev (blocked true true)))) ∧
  (∀ (s : State) (n : Fin 64) (bits : BitVec 32),
      (s.dev.held 1 = false → exec (.taskFset n bits) s = .next (s.setDev (s.dev.put .TASK_FLAGS n (s.dev.get .TASK_FLAGS n ||| bits.toNat)))) ∧
      (s.dev.held 1 = true → exec (.taskFset n bits) s = .next s) ∧
      ∀ all clear rd, s.dev.progRuns = true → (s.dev.ctx n).wait = .flag all clear rd → s.dev.get .TASK_STAT_STATE n = 3 →
        let fl := s.dev.get .TASK_FLAGS n
        let m := s.dev.get .TASK_WMASK n
        let met := m = 0 ∨ (all = true ∧ fl &&& m = m) ∨ (all = false ∧ fl &&& m ≠ 0)
        (¬met → exec (.flagWaitWake n) s = .next s) ∧
        (met → ∃ t, exec (.flagWaitWake n) s = .next t ∧ t.dev.get .TASK_STAT_STATE n = 1 ∧ t.dev.get .x_TIMED n = 0 ∧
          (t.dev.ctx n).rX rd = BitVec.ofNat 64 fl ∧ (t.dev.ctx n).sr.getLsbD 15 = false ∧ (t.dev.ctx n).wait = .none ∧
          n.val ∈ t.dev.readyt ∧ t.dev.get .TASK_FLAGS n = (if clear then (fl &&& (2 ^ 32 - 1 - m % 2 ^ 32)) % 2 ^ 32 else fl) ∧
          t.dev.mem = s.dev.mem ∧ ∀ j : Fin 64, j ≠ n → t.dev.ctx j = s.dev.ctx j ∧ t.dev.get .TASK_STAT_STATE j = s.dev.get .TASK_STAT_STATE j))

/-- R113, R118, R122, R123: delays, YIELD, TNUM and the release at the wake tick. A delay of 0 stands for 2^32 ticks; DLYU wakes at the first
tick after now whose low 32 bits match.
Rests on log entry 74. -/
def Obligations.TaskDelays : Prop :=
  ∀ (s : State) (k : Fin 4) (n : Nat) (xd xa : BitVec 5),
    (s.dev.taskReady k n → s.dev.get .TASK_CTL_CORE n = k →
      let x := s.dev.ctx n
      let d := s.dev.stepped n 4
      let low := (x.rX xa).toNat % 2 ^ 32
      let out := ((d.put .x_RUNT k 0).setCtx n { x with wait := .delay }).put .TASK_STAT_STATE n 4
      let wake := fun (w : Nat) => s.setDev (((out.put .x_WAKE n w).put .TASK_WAKE n w).put .x_TIMED n 1)
      exec (.dly k xa) s = .next (wake (s.dev.tick + (if low = 0 then 2 ^ 32 else low))) ∧
      (∃ w, s.dev.tick < w ∧ w ≤ s.dev.tick + 2 ^ 32 ∧ w % 2 ^ 32 = low ∧ exec (.dlyu k xa) s = .next (wake w)) ∧
      exec (.yield k) s = .next (s.setDev ((d.put .x_RUNT k 0).ready n)) ∧
      exec (.tnum k xd) s = .next (s.taskDone n 2 (x.wX xd (BitVec.ofNat 64 s.dev.tick)))) ∧
    (∀ m, m < 64 → s.dev.progRuns = true → s.dev.stopped = false → s.dev.on .x_TIMED m = true → s.dev.get .TASK_CTL_CORE m = k →
      s.dev.get .x_WAKE m ≤ s.dev.tick → s.dev.get .TASK_STAT_STATE m = 4 → (s.dev.ctx m).wait = .delay →
      (∀ j, j < 64 → j ≠ m → s.dev.on .x_TIMED j = false) →
      exec (.delayRelease k) s = .next (s.setDev (s.dev.ready m)))

/-- R124 to R126: software timers. TMR of a TON instance: a rising input starts the timing, a running one answers the elapsed time up to PT and
Q at PT, a low input resets; XD is Q and ET. An index above 1,023 or a FREE instance is a task fault. A running instance with NOTE notifies its task once.
Rests on log entry 60. -/
def Obligations.TimerInstances : Prop :=
  ∀ (s : State) (k : Fin 4) (n : Nat) (xd xa xb : BitVec 5),
    (s.dev.taskReady k n →
      let x := s.dev.ctx n
      let d := s.dev.stepped n 4
      let i := (x.rX xa).toNat
      let inp := (x.rX xb).getLsbD 0
      let pt := s.dev.get .TIM_PT i
      let el := let e := s.dev.tick - s.dev.get .x_TIMST i; if s.dev.on .TIM_CFG_UNIT i then e / 1000 else e
      let out := fun (e : Dev) (q et : Nat) => exec (.tmr k xd xa xb) s = .next (s.setDev (e.setCtx n (x.wX xd (BitVec.ofNat 64 (q * 2 ^ 32 + et)))))
      (1023 < i ∨ s.dev.get .TIM_CFG_TYPE i = 0 → exec (.tmr k xd xa xb) s = .next (s.setDev (d.faultBack n 0x05))) ∧
      (i ≤ 1023 → s.dev.get .TIM_CFG_TYPE i = 1 →
        (inp = true → s.dev.on .TIM_CFG_IN_LAST i = false →
          out (d.puts [(.x_TIMST, i, s.dev.tick), (.x_TIMNT, i, 0), (.TIM_CFG_RUN, i, 1), (.TIM_ET, i, 0),
            (.TIM_CFG_Q, i, if pt = 0 then 1 else 0), (.TIM_CFG_IN_LAST, i, 1)]) (if pt = 0 then 1 else 0) 0) ∧
        (inp = true → s.dev.on .TIM_CFG_IN_LAST i = true → s.dev.on .TIM_CFG_RUN i = true → pt < 2 ^ 32 →
          out (d.puts [(.TIM_ET, i, min el pt), (.TIM_CFG_Q, i, if pt ≤ el then 1 else 0), (.TIM_CFG_IN_LAST, i, 1)])
            (if pt ≤ el then 1 else 0) (min el pt)) ∧
        (inp = false →
          out (d.puts [(.TIM_CFG_RUN, i, 0), (.TIM_ET, i, 0), (.TIM_CFG_Q, i, 0), (.TIM_CFG_IN_LAST, i, 0)]) 0 0))) ∧
    (∀ i : Fin 1024, s.dev.held 1 = false → s.dev.clocked = true → s.dev.on .TIM_CFG_RUN i = true → s.dev.on .TIM_CFG_NOTE i = true →
      let el := let e := s.dev.tick - s.dev.get .x_TIMST i; if s.dev.on .TIM_CFG_UNIT i then e / 1000 else e
      let who := s.dev.get .TIM_CFG_NTASK i
      (s.dev.on .x_TIMNT i = false → s.dev.get .TIM_PT i ≤ el →
        exec (.timerNotification i) s = .next (s.setDev ((s.dev.put .x_TIMNT i 1).put .TASK_FLAGS who
          (s.dev.get .TASK_FLAGS who ||| 2 ^ s.dev.get .TIM_CFG_NFLAG i)))) ∧
      (s.dev.on .x_TIMNT i = true ∨ el < s.dev.get .TIM_PT i → exec (.timerNotification i) s = .next s))

/-- R127 to R131: queues in item mode. QPUSH stores the item behind the others and commits it, QPOP takes the oldest; an instruction on a queue with EN =
0 is a task fault; with XC = 0 one that would wait sets TO instead. QDROP and QLVL answer counts; QCMT and QRWD end the packet under
construction. An item that becomes available goes to the waiting reader (here the only one), a place that frees to a waiting writer.
Rests on log entries 60, 74. -/
def Obligations.QueueInstructions : Prop :=
  (∀ (s : State) (k : Fin 4) (n : Nat) (xd xa xb xc : BitVec 5), s.dev.taskReady k n →
      let x := s.dev.ctx n
      let d := s.dev.stepped n 4
      let q := (x.rX xa).toNat % 64
      let z := s.dev.queue q
      let cap := s.dev.get .Q_CFG_SIZE q + 1
      let addr := fun (j : Nat) => 0x1100000 + 8 * (s.dev.get .Q_BASE q + (z.rd + j) % cap)
      let popped := fun (e : Dev) (eop : Bool) => ((e.setX n xd (BitVec.ofNat 64 (s.dev.rd (addr 0) 8))).srBit n srTO false).srBit n srEOP eop
      (s.dev.on .Q_CFG_EN q = false →
        let f := s.setDev (d.faultBack n 0x06)
        exec (.qpush k xa xb xc) s = .next f ∧ exec (.qpop k xd xa xc) s = .next f ∧ exec (.qcmt k xa) s = .next f ∧ exec (.qrwd k xa) s = .next f ∧
        exec (.qdrop k xd xa) s = .next f ∧ exec (.qlvl k xd xa) s = .next f) ∧
      (s.dev.on .Q_CFG_EN q = true →
        (s.dev.isSink q = false → s.dev.on .Q_CFG_PKT q = false → z.level + z.unc < cap →
          exec (.qpush k xa xb xc) s = .next (s.setDev ((((d.wr (addr (z.level + z.unc)) 8 (x.rX xb).toNat).bump .Q_IN q 1).setQueue q
            { z with pkts := z.pkts ++ [1] }).setCtx n { x with sr := setBit x.sr srTO false }))) ∧
        (s.dev.isSink q = false → s.dev.on .Q_CFG_PKT q = false → z.level + z.unc = cap → (x.rX xc).toNat % 2 ^ 32 = 0 →
          exec (.qpush k xa xb xc) s = .next (s.setDev ((d.put .Q_STAT_FULLSEEN q 1).setCtx n { x with sr := setBit x.sr srTO true }))) ∧
        (∀ r, s.dev.isSource q = false → z.pkts = 1 :: r →
          exec (.qpop k xd xa xc) s = .next (s.setDev (popped ((d.setQueue q { z with rd := (z.rd + 1) % cap, pkts := r, mid := false }).bump .Q_OUT q 1) true))) ∧
        (∀ p r, s.dev.isSource q = false → 1 < p → z.pkts = p :: r →
          exec (.qpop k xd xa xc) s = .next (s.setDev
            (popped ((d.setQueue q { z with rd := (z.rd + 1) % cap, pkts := (p - 1) :: r, mid := true }).bump .Q_OUT q 1) false))) ∧
        (z.level = 0 → (x.rX xc).toNat % 2 ^ 32 = 0 →
          exec (.qpop k xd xa xc) s = .next (s.taskDone n 4 { x with sr := setBit x.sr srTO true })) ∧
        (z.unc ≠ 0 → exec (.qcmt k xa) s = .next (s.setDev (d.setQueue q { z with pkts := z.pkts ++ [z.unc], unc := 0, prod := 0 }))) ∧
        exec (.qrwd k xa) s = .next (s.setDev ((d.bump .Q_RWD q z.unc).setQueue q { z with unc := 0, prod := 0 })) ∧
        (∀ p r, z.pkts = p :: r →
          exec (.qdrop k xd xa) s = .next (s.setDev (((d.setQueue q { z with rd := (z.rd + p) % cap, pkts := r, mid := false }).bump .Q_DROP q p).setCtx n
            (x.wX xd (BitVec.ofNat 64 p))))) ∧
        (z.pkts = [] → exec (.qdrop k xd xa) s = .next (s.taskDone n 4 (x.wX xd 0#64))) ∧
        exec (.qlvl k xd xa) s = .next (s.taskDone n 4 (x.wX xd (BitVec.ofNat 64 z.pkts.sum))))) ∧
  (∀ (s : State) (q : Fin 64) (n : Nat), s.dev.progRuns = true → s.dev.stopped = false → s.dev.waitq = [n] →
      (∀ rd, (s.dev.ctx n).wait = .pop q rd → s.dev.isSource q = false → 0 < (s.dev.queue q).level →
        exec (.queueWaiterServed q) s = .next (s.setDev ((s.dev.doPop q n rd).ready n))) ∧
      (∀ item, (s.dev.ctx n).wait = .push q item → s.dev.canPush q n = true →
        exec (.queueWaiterServed q) s = .next (s.setDev ((s.dev.doPush q n item).ready n))) ∧
      (∀ rd, (s.dev.ctx n).wait = .pop q rd → (s.dev.queue q).level = 0 → exec (.queueWaiterServed q) s = .next s))

/-- R132 to R135: TOK, TOKT, the place that frees in a token port, and a token at its result register. TOK tags its token with the next tick, TOKT
with XC; a reserved TYPE is a task fault; sixteen tokens fill the port. A result register takes the token's value, tag, type and quality, counts
it, and notifies its task.
Rests on log entry 74. -/
def Obligations.TaskTokens : Prop :=
  ∀ (s : State) (k : Fin 4) (n : Nat) (xa xb xc : BitVec 5),
    (s.dev.taskReady k n →
      let x := s.dev.ctx n
      let d := s.dev.stepped n 4
      let b := x.rX xb
      let tok := fun (tag : BitVec 16) =>
        Token.mk (b.extractLsb' 16 16) (b.extractLsb' 8 8) (b.extractLsb' 0 8) ((x.rX xa).extractLsb' 0 32) tag
      let fl := fun (tag : BitVec 16) => Flight.mk (tok tag) (.port k) 256 0
      let ty := (b.extractLsb' 8 8).toNat
      let now_ := BitVec.ofNat 16 (s.dev.tick + 1)
      let tag := (x.rX xc).extractLsb' 0 16
      ((ty = 0 ∨ 4 < ty) → exec (.tok k xa xb) s = .next (s.setDev (d.faultBack n 0x01)) ∧
        exec (.tokt k xa xb xc) s = .next (s.setDev (d.faultBack n 0x01))) ∧
      (1 ≤ ty → ty ≤ 4 → s.dev.waitingAt (.port k) < 16 →
        exec (.tok k xa xb) s = .next (s.setDev (d.launch (fl now_))) ∧ exec (.tokt k xa xb xc) s = .next (s.setDev (d.launch (fl tag)))) ∧
      (1 ≤ ty → ty ≤ 4 → 16 ≤ s.dev.waitingAt (.port k) →
        exec (.tok k xa xb) s = .next (s.setDev (d.block n 5 (.port (tok now_)))) ∧
        exec (.tokt k xa xb xc) s = .next (s.setDev (d.block n 5 (.port (tok tag)))))) ∧
    (∀ t, s.dev.waitq = [n] → (s.dev.ctx n).wait = .port t → s.dev.get .TASK_CTL_CORE n = k → s.dev.progRuns = true →
      s.dev.waitingAt (.port k) < 16 →
      exec (.tokenPortPlaceFreed k) s = .next (s.setDev ((s.dev.launch (Flight.mk t (.port k) 256 0)).ready n))) ∧
    (∀ j f, s.dev.held 1 = false → s.dev.arrival j (fun f => decide (f.tok.dest.toNat / 4096 = 2)) = some f →
      let r := f.tok.dest.toNat % 512
      let d := { s.dev with net := s.dev.net.eraseIdx j }
      let e := d.puts [(.TR_VAL, r, f.tok.val.toNat), (.TR_INFO_FTAG, r, f.tok.ftag.toNat), (.TR_INFO_TYPE, r, f.tok.ty.toNat),
        (.TR_INFO_QUAL, r, f.tok.qual.toNat), (.TR_CNT, r, s.dev.get .TR_CNT r + 1)]
      let who := s.dev.get .TR_NOTE_TASK r
      exec (.tokenAtResultRegister j) s = .next (s.setDev
        (if s.dev.on .TR_NOTE_EN r then e.put .TASK_FLAGS who (s.dev.get .TASK_FLAGS who ||| 2 ^ s.dev.get .TR_NOTE_FLAG r) else e)))

/-- R110, R118, R119, R136: the scheduler. A start sets X0 to X31, SR, FLAGS to 0 and PC to ENTRY; the READY task of lowest PRIO runs, one of lower PRIO
preempts; a kill makes a task DORMANT, a running one at its next boundary; EXIT of a task that is not cyclic makes it DORMANT.
Rests on log entry 74. -/
def Obligations.SchedulerCommands : Prop :=
  ∀ (s : State) (k : Fin 4) (n : Fin 64) (m : Nat),
    (s.dev.get .TASK_STAT_STATE n = 0 → s.dev.on .CYC_CTL_EN n = false → s.dev.held 1 = false →
      ∃ t, exec (.reqStart n) s = .next t ∧ t.dev.ctx n = TaskCtx.start ∧ t.dev.get .TASK_STAT_PC n = 4 * s.dev.get .TASK_ENTRY n % 2 ^ 28 ∧
        t.dev.get .TASK_FLAGS n = 0 ∧ t.dev.get .TASK_STAT_STATE n = 1 ∧ n.val ∈ t.dev.readyt ∧
        t = s.setDev { s.dev with regs := t.dev.regs, tasks := t.dev.tasks, readyt := t.dev.readyt, waitq := t.dev.waitq }) ∧
    (s.dev.get .TASK_STAT_STATE n ≠ 0 ∨ s.dev.on .CYC_CTL_EN n = true → exec (.reqStart n) s = .next s) ∧
    (s.dev.get .TASK_STAT_STATE n = 2 → exec (.reqKill n) s = .next (s.setDev (s.dev.put .TASK_CTL_REQ_KILL n 1))) ∧
    (s.dev.get .TASK_STAT_STATE n = 0 → exec (.reqKill n) s = .next s) ∧
    (s.dev.get .TASK_STAT_STATE n = 1 → s.dev.queues = [] →
      exec (.reqKill n) s = .next (s.setDev ((s.dev.dormant n).put .TASK_CTL_REQ_KILL n 0))) ∧
    (s.dev.get .TASK_STAT_STATE n = 2 → s.dev.on .TASK_CTL_REQ_KILL n = true → s.dev.queues = [] →
      ∃ t, exec (.killAtBoundary n) s = .next t ∧ t = s.setDev ((s.dev.dormant n).put .TASK_CTL_REQ_KILL n 0) ∧
        t.dev.get .TASK_STAT_STATE n = 0 ∧ t.dev.ctx n = TaskCtx.start ∧ n.val ∉ t.dev.readyt) ∧
    (s.dev.progRuns = true → s.dev.stopped = false → s.dev.running k = none → s.dev.readyt = [m] → s.dev.get .TASK_CTL_CORE m = k →
      exec (.taskContextSwitch k) s = .next (s.setDev (({ s.dev with readyt := [] }.put .x_RUNT k (m + 1)).put .TASK_STAT_STATE m 2))) ∧
    (s.dev.progRuns = true → s.dev.stopped = false → s.dev.running k = some n.val → s.dev.on .TASK_CTL_REQ_KILL n = false → s.dev.readyt = [m] →
      s.dev.get .TASK_CTL_CORE m = k →
      (s.dev.get .TASK_CTL_PRIO m < s.dev.get .TASK_CTL_PRIO n →
        exec (.taskPreemption k) s = .next (s.setDev { (s.dev.put .x_RUNT k 0).put .TASK_STAT_STATE n 1 with readyt := [n.val, m] })) ∧
      (s.dev.get .TASK_CTL_PRIO n ≤ s.dev.get .TASK_CTL_PRIO m → exec (.taskPreemption k) s = .next s)) ∧
    (s.dev.taskReady k n → s.dev.on .CYC_CTL_EN n = false →
      ∃ t, exec (.exit k) s = .next t ∧ t = s.setDev ((s.dev.stepped n 4).dormant n) ∧ t.dev.get .TASK_STAT_STATE n = 0 ∧ t.dev.ctx n = TaskCtx.start)

/-- R136 to R146, R151, R153: cyclic tasks and on-line change. A cycle start latches the input image, publishes under OMODE = 1 and starts a DORMANT task;
one that has not completed counts OVR; a task past its watchdog tick stops the region with CAUSE 1. A change record is checked, waits, or is abandoned.
Rests on log entries 3, 64, 130. -/
def Obligations.CyclicTasks : Prop :=
  ∀ (s : State) (n : Fin 64),
    (s.dev.progRuns = true → s.dev.on .x_HB_DRAIN 0 = false → s.dev.on .CYC_CTL_EN n = true →
      s.dev.tick % (s.dev.get .CYC_PER n + 1) = s.dev.get .CYC_OFF n % (s.dev.get .CYC_PER n + 1) → s.dev.get .x_CYCD n ≤ s.dev.tick →
      s.dev.stopped = false → s.dev.wdogExpired n = false →
      let d := s.dev.put .x_CYCD n (s.dev.tick + 1)
      (s.dev.get .TASK_STAT_STATE n ≠ 0 → exec (.cycleStart n) s = .next (s.setDev (d.bumpSat .CYC_STAT_OVR n))) ∧
      (s.dev.get .TASK_STAT_STATE n = 0 → s.dev.changes = [] →
        let p := if s.dev.on .CYC_CTL_OMODE n then d.publish n else d
        let e := p.latchImage n
        p.changes = [] → exec (.cycleStart n) s = .next (s.setDev ((e.put .x_CYCST n e.tick).start n)))) ∧
    (s.dev.progRuns = true → s.dev.on .CYC_CTL_EN n = true → s.dev.get .TASK_STAT_STATE n ≠ 0 → s.dev.wdogTick n ≤ s.dev.tick →
      exec (.watchdogExpiry n) s = .next (s.setDev (s.dev.stopProgram 0x01 n))) ∧
    (s.dev.tick < s.dev.wdogTick n → exec (.watchdogExpiry n) s = .next s) ∧
    (s.dev.on .CHG_STAT_BUSY 0 = false → s.dev.on .CHG_CTL_GO 0 = false →
      exec .changeGo s = .next (s.setDev (s.dev.puts [(.CHG_CTL_GO, 0, 1), (.x_CHGAT, 0, s.dev.tick)]))) ∧
    (s.dev.on .CHG_STAT_BUSY 0 = true → exec .changeGo s = .next s) ∧
    (s.dev.on .CHG_CTL_GO 0 = true →
      let r := 8 * s.dev.get .CHG_REC 0
      let es := s.dev.chgEntries r (s.dev.get .CHG_CTL_CNT 0)
      (∀ e i, es[i]? = some e → s.dev.chgCheck es i e ≠ 0 → (∀ j f, j < i → es[j]? = some f → s.dev.chgCheck es j f = 0) →
        exec .changeCheckEnd s = .next (s.setDev (s.dev.puts [(.CHG_CTL_GO, 0, 0), (.CHG_STAT_REFUSE, 0, s.dev.chgCheck es i e),
          (.CHG_STAT_REF_ENTRY, 0, i)]))) ∧
      (es = [] → exec .changeCheckEnd s = .next (s.setDev (s.dev.puts [(.CHG_CTL_GO, 0, 0), (.CHG_STAT_REFUSE, 0, 0),
        (.CHG_STAT_REF_ENTRY, 0, 0), (.x_CHGCNT, 0, 0)])))) ∧
    (s.dev.on .CHG_STAT_BUSY 0 = true →
      exec .changeAbort s = .next (s.setDev { s.dev.puts [(.CHG_STAT_BUSY, 0, 0), (.CHG_STAT_ABANDONED, 0, 1), (.CHG_WAIT_LO, 0, 0),
        (.CHG_WAIT_HI, 0, 0)] with changes := [] })) ∧
    (s.dev.on .CHG_STAT_BUSY 0 = false → exec .changeAbort s = .next s)

/-! The loop fabric. -/

/-- R77 to R79, R101, R105, R106: a token at a matching store. Of a disabled slot it is misrouted; too late, or of an operand not declared USED, it is
consumed UNUSED; else it is placed in its firing's entry, a new one where none is there; with no entry free it stalls its producer and FULLSEEN is set.
A stalled token is taken when it can be, and its producer goes on; FULLSEEN clears with PEAK set to the entries in use.
Rests on log entries 65, 70, 71. -/
def Obligations.TokensAtMatchingStore : Prop :=
  ∀ (s : State) (b : Fin 4) (k : Nat) (f : Flight), s.dev.held 0 = false →
    let t := f.tok
    let g := t.dest.toNat / 16 % 256
    let op := t.dest.toNat % 8
    let n := nextTick (tagTick s.dev.tick t.ftag.toNat) (s.dev.get .SLOT_TIME_PERIOD g + 1) (s.dev.get .SLOT_TIME_TOFF g)
    let d := { s.dev with net := s.dev.net.eraseIdx k }
    let mine : Placed := { k := op, val := t.val, qual := t.qual }
    (s.dev.arrival k (Flight.toBlock b) = some f → s.dev.laneBlocked g = false →
      (s.dev.slotEn g = false → exec (.tokenAccepted b k) s = .next (s.setDev (d.bump .TOKEN_STAT_MISROUTED 0 1))) ∧
      (s.dev.slotEn g = true → s.dev.opUsed g op = false ∨ (s.dev.tooLate g n op = true ∧ t.ty.toNat = s.dev.opField g op % 4 + 1) →
        exec (.tokenAccepted b k) s = .next (s.setDev ((((d.bump .TOK_IN g 1).put .x_LASTV (8 * g + op) t.val.toNat).put .x_LASTQ (8 * g + op)
          t.qual.toNat).bump .TOK_UNUSED g 1))) ∧
      (s.dev.slotEn g = true → s.dev.opUsed g op = true → s.dev.tooLate g n op = false → t.ty.toNat = s.dev.opField g op % 4 + 1 →
        (s.dev.entry g n = none → s.dev.canAlloc g = true → (∃ r, r ∈ s.dev.needs g n ∧ r ≠ op) →
          ∃ u, exec (.tokenAccepted b k) s = .next u ∧
            u.dev.entry g n = some { slot := g, tick := n, comet := s.dev.isComet g, ready := false, ops := [mine] } ∧
            u.dev.get .TOK_IN g = (s.dev.get .TOK_IN g + 1) % 2 ^ 32 ∧ u.dev.net = d.net ∧ u.dev.readyq = s.dev.readyq) ∧
        (s.dev.entry g n = none → s.dev.canAlloc g = true → s.dev.needs g n = [op] →
          ∃ u, exec (.tokenAccepted b k) s = .next u ∧
            u.dev.entry g n = some { slot := g, tick := n, comet := s.dev.isComet g, ready := true, ops := [mine] } ∧
            u.dev.readyq = s.dev.readyq ++ [{ slot := g, tick := n, since := s.dev.get .x_CYC 0, displaced := none }]) ∧
        (s.dev.entry g n = none → s.dev.canAlloc g = false →
          exec (.tokenAccepted b k) s = .next (s.setDev (({ d with stalled := d.stalled ++ [f] } : Dev).put .MS_STAT_FULLSEEN (g / 64) 1))))) ∧
    (∀ u, s.dev.stalled = [f] → f.toBlock b = true → s.dev.takeToken t = some u →
      (s.dev.isComet g = false →
        exec (.stalledTokenAccepted b) s = .next (s.setDev (Dev.resume { u with stalled := u.stalled.erase f } f.prod))) ∧
      (∀ h : Fin 256, h.val = g → s.dev.isComet h = true →
        exec (.cometLaneRelease h) s = .next (s.setDev (Dev.resume { u with stalled := u.stalled.erase f } f.prod)))) ∧
    exec (.msStatFullseenClear b) s = .next (s.setDev (s.dev.puts [(.MS_STAT_FULLSEEN, b, 0), (.MS_STAT_PEAK, b, s.dev.pendingOf b)]))

/-- R36, R38 to R40, R79, R80, R83: readiness, dispatch and preemption. The head of a cell's queue goes into its idle bank: D0 to D7 read 0, D8 to D15 the
operands, PC the entry; a loaded firing of lower priority that has not started is displaced; which of two empty banks is used is free. A loaded firing of higher
priority preempts the executing one. A HANDOVER firing that waits for no token is ready at its sample instant.
Rests on log entries 14, 67, 69. -/
def Obligations.FiringsAreDispatched : Prop :=
  ∀ (s : State) (c : Fin 24) (r : ReadyF),
    let run := s.dev.actBank c
    (s.dev.loopRuns = true → s.dev.on .C_STAT_FAULTED c = false → s.dev.on .x_HB_DRAIN 0 = false → s.dev.queueHead c = some r →
      (s.dev.on .x_RUNB c = true → s.dev.loaded c (1 - run) = false →
        exec (.dispatch c) s = .next (s.setDev (s.dev.loadBank c (1 - run) r)) ∧
        (run ≤ 1 → r.displaced = none → s.dev.isHandover r.slot r.tick = false → ∀ e, s.dev.entry r.slot r.tick = some e →
          let b := (s.dev.loadBank c (1 - run) r).bank c (1 - run)
          b.slot = r.slot ∧ b.tick = r.tick ∧ b.pc = BitVec.ofNat 13 (s.dev.get .SLOT_ENTRY_ENTRY r.slot) ∧ b.sr = 0#32 ∧ b.stack = [] ∧
          ∀ i : BitVec 4, b.rD i = if i.toNat < 8 then 0#32 else (s.dev.presented r.slot e.ops (i.toNat - 8)).1)) ∧
      (s.dev.on .x_RUNB c = true → s.dev.loaded c (1 - run) = true →
        let o := s.dev.bank c (1 - run)
        (o.started = false → o.preempted = false → s.dev.get .SLOT_CTL_PRIO r.slot < s.dev.get .SLOT_CTL_PRIO o.slot →
          s.dev.now < s.dev.cutoffAt o.slot o.tick →
          exec (.dispatch c) s = .next (s.setDev (Dev.loadBank
            { s.dev with readyq := s.dev.readyq ++ [{ slot := o.slot, tick := o.tick, since := 0, displaced := some o }] } c (1 - run) r))) ∧
        (o.started = true ∨ s.dev.get .SLOT_CTL_PRIO o.slot ≤ s.dev.get .SLOT_CTL_PRIO r.slot → exec (.dispatch c) s = .next s)) ∧
      (s.dev.on .x_RUNB c = false → ∃ j, j < 2 ∧
        exec (.dispatch c) s = .next (s.setDev ((({ s.dev with free := s.dev.free + 1 } : Dev).loadBank c j r).puts [(.C_STAT_ACT, c, j), (.x_RUNB, c, 1)])))) ∧
    (s.dev.atBoundary c = true → s.dev.mustPreempt c = true →
      exec (.preemption c) s = .next (s.setDev ((s.dev.setBank c run { s.dev.cur c with preempted := true, hz := noHz }).put .C_STAT_ACT c (1 - run)))) ∧
    (∀ (g : Fin 256),
      let n := nextTick (max (s.dev.get .x_HO_TICK g) (s.dev.get .x_SLOT_FIRST g)) (s.dev.get .SLOT_TIME_PERIOD g + 1) (s.dev.get .SLOT_TIME_TOFF g)
      s.dev.loopRuns = true → s.dev.slotEn g = true → s.dev.on .x_HO_STG g = true → s.dev.needs g n = [] → s.dev.sampleAt g n ≤ s.dev.now →
      s.dev.fate g n = none → s.dev.now ≤ s.dev.cutoffAt g n → s.dev.entry g n = none → s.dev.canAlloc g = true →
      exec (.handoverEntry g) s = .next (s.setDev ((s.dev.makeReady { slot := g, tick := n, comet := s.dev.isComet g, ready := false, ops := [] }).notePeak
        (g / 64))))

/-- R82, R91, R94: cut-offs and output stages. A firing that has not finished by its cut-off counts in MISS and, if it is in no bank, is withdrawn. At the output
instant the stages of its slot (here one) write the firing's value, or by DPOL keep theirs or write SAFE. A token at a stage is the firing's value, or counts in
LATE or NOTOWN. The tick after a miss under DPOL STOP every enabled slot of the block is disabled with REFUSE 0x09.
Rests on log entries 3, 72, 73. -/
def Obligations.OutputStages : Prop :=
  ∀ (s : State) (g : Fin 256) (b : Fin 4) (n k : Nat),
    let p := s.dev.get .SLOT_TIME_PERIOD g + 1
    let off := 4 * s.dev.get .SLOT_PH_SPHASE g + 4 * s.dev.get .SLOT_PH_OPHASE g
    (s.dev.loopRuns = true → s.dev.on .SLOT_CTL_EN g = true → s.dev.firstFiring g ≤ n → s.dev.get .x_SLOT_MISSD g ≤ n →
      dueTick s.dev.now p (s.dev.get .SLOT_TIME_TOFF g) (off - 59) = some n →
      let miss := ((s.dev.bump .SLOT_MISS g 1).put .x_SLOT_MISSD g (n + 1)).report 1 (srcOf 1 1 (g / 64)) 0x10 g
      (s.dev.fate g n = none → exec (.deadlineMiss g) s = .next (s.setDev ((miss.withdraw g n).setFate g n .missed))) ∧
      (s.dev.fate g n = some .inBank → (∀ r, r ∈ s.dev.readyq → r.slot = g.val → r.tick ≠ n) → exec (.deadlineMiss g) s = .next (s.setDev miss)) ∧
      (s.dev.fate g n = some .inTime → exec (.deadlineMiss g) s = .next s)) ∧
    (∀ st, st < 0x50 → s.dev.loopRuns = true → s.dev.on .SLOT_CTL_EN g = true → s.dev.firstFiring g ≤ n → s.dev.get .x_SLOT_OUTD g ≤ n →
      dueTick s.dev.now p (s.dev.get .SLOT_TIME_TOFF g) off = some n → s.dev.on .x_SLOT_SAFE g = false → s.dev.on .x_BLK_STOP (g / 64) = false →
      s.dev.on .x_LSPSIG 0 = false → s.dev.owned g = [st] → s.dev.stageForce st = none → s.dev.on .x_SUB_WIN (g / 64) = false →
      (∀ v : StageVal, s.dev.fate g n = some .inTime → s.dev.on .OS_CFG_BLEND st = false →
        s.dev.stageVals.find? (fun x => decide (x.stage = st) && decide (x.slot = g.val) && decide (x.tick = n)) = some v →
        ∃ u, exec (.outputInstant g) s = .next u ∧ u.dev.get .OS_VAL st = v.val.toNat ∧ u.dev.get .OS_STAT_QUAL st = v.qual.toNat ∧
          u.dev.get .OS_STAT_HELD st = 0 ∧ u.dev.get .OS_STAT_SAFE_ACT st = 0 ∧ u.dev.get .x_SLOT_OUTD g = n + 1 ∧ u.dev.mem = s.dev.mem) ∧
      (s.dev.fate g n = some .missed → s.dev.get .SLOT_POL_DPOL g = 0 →
        ∃ u, exec (.outputInstant g) s = .next u ∧ u.dev.get .OS_VAL st = s.dev.get .OS_VAL st ∧ u.dev.get .OS_STAT_HELD st = 1 ∧
          u.dev.get .OS_STAT_SAFE_ACT st = s.dev.get .OS_STAT_SAFE_ACT st ∧ u.dev.mem = s.dev.mem) ∧
      (s.dev.fate g n = some .missed → s.dev.get .SLOT_POL_DPOL g = 1 → s.dev.get .OS_SAFE st < 2 ^ 32 →
        ∃ u, exec (.outputInstant g) s = .next u ∧ u.dev.get .OS_VAL st = s.dev.get .OS_SAFE st ∧ u.dev.get .OS_STAT_QUAL st = 0x10 ∧
          u.dev.get .OS_STAT_SAFE_ACT st = 1 ∧ u.dev.mem = s.dev.mem)) ∧
    (∀ f, s.dev.held 0 = false → s.dev.arrival k (fun f => decide (f.tok.dest.toNat / 4096 = 1)) = some f →
      let st := f.tok.dest.toNat % 4096
      let d := { s.dev with net := s.dev.net.eraseIdx k }
      f.tok.ty.toNat = s.dev.get .OS_CFG_TYPE st % 4 + 1 →
      (s.dev.on .OS_CFG_EN st = false ∨ (∀ c, f.prod ≠ .cell c) ∨ f.slot ≠ s.dev.get .OS_CFG_OWNER st ∨ s.dev.on .SLOT_CTL_EN f.slot = false →
        exec (.tokenAtOutputStage k) s = .next (s.setDev (d.bumpSat .OS_STAT_NOTOWN st))) ∧
      (∀ c, s.dev.on .OS_CFG_EN st = true → f.prod = .cell c → f.slot = s.dev.get .OS_CFG_OWNER st → s.dev.on .SLOT_CTL_EN f.slot = true →
        (s.dev.cutoffAt f.slot f.tick < s.dev.now → exec (.tokenAtOutputStage k) s = .next (s.setDev (d.bumpSat .OS_STAT_LATE st))) ∧
        (s.dev.now ≤ s.dev.cutoffAt f.slot f.tick →
          ∃ u, exec (.tokenAtOutputStage k) s = .next u ∧ u = s.setDev { d with stageVals := u.dev.stageVals } ∧
            { stage := st, slot := f.slot, tick := f.tick, val := f.tok.val, qual := f.tok.qual } ∈ u.dev.stageVals ∧
            ∀ v, v ∈ u.dev.stageVals → v.stage = st → v.slot = f.slot → v.tick = f.tick → v.val = f.tok.val ∧ v.qual = f.tok.qual))) ∧
    (s.dev.loopRuns = true → s.dev.on .x_BLK_STOP b = true → s.dev.get .x_BLK_STICK b < s.dev.tick →
      ∃ u, exec (.blockStop b) s = .next u ∧ u.dev.get .x_BLK_STOP b = 0 ∧
        ∀ l, l < 64 → s.dev.on .SLOT_CTL_EN (64 * b + l) = true →
          u.dev.get .SLOT_CTL_EN (64 * b + l) = 0 ∧ u.dev.get .SLOT_CTL_REFUSE (64 * b + l) = 0x09)

/-- R73 to R76, R84, R400: requests of a slot, the admission check and their effect at the next tick.
Rests on log entries 3, 68. -/
def Obligations.SlotRequests : Prop :=
  ∀ (s : State) (g : Fin 256) (b : Fin 4),
    let no := s.setDev (s.dev.puts [(.SLOT_CTL_REFUSE, g, 0x0A), (.SLOT_CTL_REF_SLOT, g, g % 64)])
    (s.dev.held 0 = false → s.dev.on .SLOT_CTL_BUSY g = false →
      (s.dev.slotEn g = false →
        exec (.reqEn g) s = .next (s.setDev { s.dev.puts [(.SLOT_CTL_REQ_EN, g, 1), (.SLOT_CTL_BUSY, g, 1)] with admq := s.dev.admq ++ [g.val] }) ∧
        exec (.reqSwap g) s = .next no ∧ exec (.reqDis g) s = .next s) ∧
      (s.dev.slotEn g = true →
        exec (.reqSwap g) s = .next (s.setDev { s.dev.puts [(.SLOT_CTL_REQ_SWAP, g, 1), (.SLOT_CTL_BUSY, g, 1)] with admq := s.dev.admq ++ [g.val] }) ∧
        exec (.reqEn g) s = .next no ∧
        exec (.reqDis g) s = .next (s.setDev (s.dev.puts [(.SLOT_CTL_REQ_DIS, g, 1), (.x_SLOT_DTICK, g, s.dev.tick)])))) ∧
    (s.dev.on .SLOT_CTL_BUSY g = true → exec (.reqEn g) s = .next s ∧ exec (.reqSwap g) s = .next s) ∧
    (∀ h, s.dev.held 0 = false → s.dev.clocked = true → s.dev.admq.find? (fun x => decide (x / 64 = b.val)) = some h →
      let swap := s.dev.on .SLOT_CTL_REQ_SWAP h
      let r := s.dev.admission h swap
      ∃ u, exec (.admissionCheck b) s = .next u ∧ u.dev.get .SLOT_CTL_REFUSE h = r.1 % 256 ∧ u.dev.get .SLOT_CTL_REF_SLOT h = r.2 % 64 ∧
        u.dev.get .SLOT_CTL_BUSY h = 0 ∧ u.dev.get .SLOT_CTL_REQ_EN h = 0 ∧ u.dev.get .SLOT_CTL_REQ_SWAP h = 0 ∧ u.dev.admq = s.dev.admq.erase h ∧
        u.dev.get .SLOT_CTL_EN h = s.dev.get .SLOT_CTL_EN h ∧
        u.dev.on .x_SLOT_PASS h = (if r.1 = 0 ∧ swap = false then true else s.dev.on .x_SLOT_PASS h) ∧
        u.dev.on .x_SLOT_SWAP h = (if r.1 = 0 ∧ swap = true then true else s.dev.on .x_SLOT_SWAP h)) ∧
    (s.dev.held 0 = false → s.dev.clocked = true → s.dev.on .x_SLOT_PASS g = true → s.dev.get .x_SLOT_PTICK g < s.dev.tick →
      s.dev.on .SLOT_CTL_REQ_DIS g = false →
      exec (.slotEnable g) s = .next (s.setDev (s.dev.puts [(.SLOT_CTL_EN, g, 1), (.x_SLOT_PASS, g, 0), (.x_SLOT_FIRST, g, s.dev.tick),
        (.SPARE_MIRROK, g / 64, 0)]))) ∧
    (s.dev.held 0 = false → s.dev.clocked = true → s.dev.on .SLOT_CTL_REQ_DIS g = true → s.dev.on .SLOT_CTL_EN g = true →
      s.dev.on .SLOT_CTL_BUSY g = false → s.dev.get .x_SLOT_DTICK g < s.dev.tick →
      ∃ u, exec (.slotDisable g) s = .next u ∧ u.dev.get .SLOT_CTL_EN g = 0 ∧ u.dev.get .SLOT_CTL_REQ_DIS g = 0 ∧
        (∀ e, e ∈ u.dev.entries → e.slot ≠ g.val) ∧ (∀ e, e ∈ u.dev.readyq → e.slot ≠ g.val) ∧ u.dev.mem = s.dev.mem ∧ u.dev.banks = s.dev.banks) ∧
    (s.dev.held 0 = false → s.dev.clocked = true → s.dev.on .x_SLOT_SWAP g = true → s.dev.on .SLOT_CTL_EN g = true →
      s.dev.get .x_SLOT_PTICK g < s.dev.tick →
      ∃ u, exec (.swapTakesEffect g) s = .next u ∧ u.dev.get .SLOT_ENTRY_ENTRY g = s.dev.get .x_SWAP_E g % 2 ^ 13 ∧
        u.dev.get .SLOT_WCET_WCET g = s.dev.get .x_SWAP_W g % 2 ^ 20 ∧ u.dev.get .SLOT_LONG_LONG g = s.dev.get .x_SWAP_L g % 2 ^ 11 ∧
        u.dev.get .x_SLOT_SWAP g = 0 ∧ u.dev.entries = s.dev.entries ∧ u.dev.banks = s.dev.banks)

/-! Encoder cells. -/

/-- R158 to R161, R171, R172: counting. A state one place on in its sequence counts ±1 by its direction and INV and shows in LVL; two places on is illegal and
leaves COUNT; a rising step edge counts by the direction level; En_ADD joins COUNT and ADJ; a pulse pair emits one count when its spacing allows.
Rests on log entries 3, 75, 77. -/
def Obligations.EncoderCounting : Prop :=
  ∀ (s : State) (e : Fin 32) (k : Fin 8) (x y z : Bool) (v : BitVec 32),
    let inv := s.dev.on .E_CFG_INV e
    let counts := fun (i : Instr) (down : Bool) (l : Nat) =>
      ∃ u, exec i s = .next u ∧ u.dev.count e = (if down != inv then s.dev.count e - 1#64 else s.dev.count e + 1#64) ∧
        u.dev.get .E_UP e = (if down != inv then s.dev.get .E_UP e else (s.dev.get .E_UP e + 1) % 2 ^ 32) ∧
        u.dev.get .E_DOWN e = (if down != inv then (s.dev.get .E_DOWN e + 1) % 2 ^ 32 else s.dev.get .E_DOWN e) ∧
        u.dev.get .E_ILL e = s.dev.get .E_ILL e ∧ u.dev.get .E_STAT_LVL e = l ∧ u.dev.on .E_STAT_DIR e = (down != inv) ∧
        u = s.setDev { s.dev with regs := u.dev.regs }
    let illegal := fun (i : Instr) (l : Nat) =>
      ∃ u, exec i s = .next u ∧ u.dev.count e = s.dev.count e ∧ u.dev.get .E_ILL e = (s.dev.get .E_ILL e + 1) % 2 ^ 32 ∧
        u.dev.get .E_STAT_ILLSEEN e = 1 ∧ u.dev.get .E_STAT_LVL e = l ∧ u = s.setDev { s.dev with regs := u.dev.regs }
    (s.dev.fieldOn = true →
      let lz := s.dev.lvlBit e 0
      (s.dev.emode e = 1 →
        let old := quadIdx (s.dev.lvlBit e 2) (s.dev.lvlBit e 1)
        (quadIdx x y = (old + 1) % 4 → counts (.quadStateChange e x y) false (lvl x y lz)) ∧
        (quadIdx x y = (old + 3) % 4 → counts (.quadStateChange e x y) true (lvl x y lz)) ∧
        (quadIdx x y = (old + 2) % 4 → illegal (.quadStateChange e x y) (lvl x y lz))) ∧
      (s.dev.emode e = 2 → counts (.stepEdge e x y) x (lvl true y lz)) ∧
      (s.dev.emode e = 3 → s.dev.get .E_STAT_SECTOR e ≤ 5 →
        let o := s.dev.get .E_STAT_SECTOR e
        let n := hallSector x y z
        (n ≤ 5 → n = (o + 1) % 6 → counts (.hallSectorChange e x y z) false (lvl x y z)) ∧
        (n ≤ 5 → o = (n + 1) % 6 → counts (.hallSectorChange e x y z) true (lvl x y z)) ∧
        (n = 6 → illegal (.hallSectorChange e x y z) (lvl x y z)))) ∧
    (s.dev.held 2 = false → s.dev.eserial e = false →
      ∃ u, exec (.enAdd e v) s = .next u ∧ u.dev.count e = s.dev.count e + v.signExtend 64 ∧
        u.dev.get .E_ADJ e = (s.dev.get .E_ADJ e + v.toNat) % 2 ^ 32 ∧ u.dev.get .E_UP e = s.dev.get .E_UP e ∧ u = s.setDev { s.dev with regs := u.dev.regs }) ∧
    (s.dev.fieldActs = true → s.dev.on .E_PCFG_PEN (24 + k) = true → s.dev.on .E_PCFG_PSD (24 + k) = false →
      s.dev.get .x_P_NEXT (24 + k) ≤ s.dev.now → 0 < s.dev.sget .E_PLAG (24 + k) →
      ∃ u, exec (.pulseEmit k) s = .next u ∧ u.dev.sget .E_PLAG (24 + k) = s.dev.sget .E_PLAG (24 + k) - 1 ∧
        u.dev.get .E_POUT (24 + k) = uInt 32 (s.dev.sget .E_POUT (24 + k) + 1) ∧ u.dev.get .x_P_ST (24 + k) = (s.dev.get .x_P_ST (24 + k) + 1) % 4 ∧
        u.dev.get .x_P_NEXT (24 + k) = s.dev.now + 4 * s.dev.get .E_PCFG_PSPACE (24 + k) ∧ u = s.setDev { s.dev with regs := u.dev.regs }) ∧
    (s.dev.on .E_PLAG (24 + k) = false → exec (.pulseEmit k) s = .next s)

/-- R162 to R166, R169, R170: sampling, serial frames and latches. An incremental cell that has seen no edge for STILL_T reads speed 0 and STILL; its
position token carries COUNT. A serial cell starts a frame, or counts OVL while one runs. A frame without acknowledge or with a bad CRC is counted and leaves
COUNT; a good one moves COUNT to its position. A latch edge records COUNT and time; a read of En_LCNT takes the oldest.
Rests on log entries 3, 76, 78. -/
def Obligations.EncoderSampling : Prop :=
  ∀ (s : State) (e : Fin 32) (n : Nat) (data : BitVec 40) (chk : BitVec 6) (rising : Bool),
    let off := 4 * s.dev.get .E_TOK_SPHASE e
    (s.dev.fieldOn = true → dueTick s.dev.now (s.dev.get .E_TIME_PERIOD e + 1) (s.dev.get .E_TIME_TOFF e) off = some n → s.dev.get .x_E_DONE e ≤ n →
      (s.dev.emode e = 1 → s.dev.get .x_E_LT e + s.dev.get .E_TOK_STILL_T e * 1000 < n * 1000 + off → s.dev.get .E_CNT_LO e < 2 ^ 32 →
        ∃ d : Dev, exec (.encoderSampleInstant e) s = .next (s.setDev (d.encTokens e n 0x00 (s.dev.get .E_CNT_LO e))) ∧ d.get .E_SPD e = 0 ∧
          d.get .E_STAT_STILL e = 1 ∧ d.get .x_E_LASTP e = s.dev.get .E_CNT_LO e ∧ d.get .x_E_DONE e = n + 1 ∧ d = { s.dev with regs := d.regs }) ∧
      (s.dev.emode e = 4 → s.dev.on .x_E_FRM e = false → s.dev.get .x_E_PAUSE e ≤ s.dev.now →
        ∃ u, exec (.encoderSampleInstant e) s = .next u ∧ u.dev.get .x_E_FRM e = n + 1 ∧ u.dev.get .x_E_FRT e = n * 1000 + off ∧
          u = s.setDev { s.dev with regs := u.dev.regs }) ∧
      (s.dev.emode e = 4 → s.dev.on .x_E_FRM e = true →
        let d := (s.dev.put .x_E_DONE e (n + 1)).serialStill e
        exec (.encoderSampleInstant e) s = .next (s.setDev ((d.bumpSat .E_SERR_OVL e).encTokens e n 0x01 (d.get .x_E_LASTP e))))) ∧
    (s.dev.fieldOn = true → s.dev.emode e = 4 → s.dev.get .x_E_FRM e = n + 1 →
      let d := s.dev.puts [(.x_E_FRM, e, 0), (.x_E_PAUSE, e, s.dev.now + 1000 * s.dev.get .E_SER_TPAUSE e)]
      (∀ nerr nwarn,
        let f := ((d.bumpSat .E_SERR_NOACK e).put .E_STAT_NOACKSEEN e 1).serialStill e
        exec (.serialFrameEnd e false data nerr nwarn chk) s = .next (s.setDev (f.encTokens e n 0x05 (f.get .x_E_LASTP e)))) ∧
      (∀ nerr nwarn, s.dev.frameOk e data.toNat nerr nwarn chk.toNat = false →
        let f := ((d.bumpSat .E_SERR_CRCE e).put .E_STAT_CRCSEEN e 1).serialStill e
        exec (.serialFrameEnd e true data nerr nwarn chk) s = .next (s.setDev (f.encTokens e n 0x01 (f.get .x_E_LASTP e)))) ∧
      (∀ nwarn, s.dev.frameOk e data.toNat true nwarn chk.toNat = true →
        let len := s.dev.get .E_SER_LEN e
        let p := data.toNat % 2 ^ len
        ∃ f : Dev, exec (.serialFrameEnd e true data true nwarn chk) s = .next (s.setDev (f.encTokens e n 0x00 (f.get .E_CNT_LO e))) ∧ f.on .x_E_GOOD e = true ∧
          f.get .E_STAT_SERR e = 0 ∧
          f.count e = (if s.dev.on .x_E_GOOD e then s.dev.count e + BitVec.ofInt 64 (sNat len (p + 2 ^ len - s.dev.get .x_E_POS e % 2 ^ len))
            else BitVec.ofNat 64 p))) ∧
    (s.dev.fieldOn = true → s.dev.emode e ≠ 0 → s.dev.on .E_LCFG_EN e = true → s.dev.get .E_LCFG_EDGE e = 3 → s.dev.get .E_LCFG_SRC e < 16 →
      s.dev.on .E_LCFG_NOTE e = false → s.dev.get .E_LCFG_LEVEL e < 4 →
      let lv := s.dev.get .E_LCFG_LEVEL e
      let src := s.dev.get .E_LCFG_SRC e
      let t := s.dev.now / 4 * 4 - 4 * (2 + s.dev.get .LIN_CFG_FILT src)
      ∃ u, exec (.latchEvent e rising) s = .next u ∧ u.dev.on .LIN_CFG_LEVEL src = rising ∧ u.dev.get .E_LCFG_LEVEL e = lv + 1 ∧
        u.dev.get .x_LQ_CNT (4 * e + lv) = s.dev.get .E_CNT_LO e % 2 ^ 32 ∧ u.dev.get .x_LQ_TIME (4 * e + lv) = (t / 1000 * 256 + t % 1000 / 4) % 2 ^ 32 ∧
        u.dev.on .E_LCFG_EN e = s.dev.on .E_LCFG_CONT e ∧ u.dev.mem = s.dev.mem) ∧
    (s.dev.get .E_LCFG_LEVEL e = 0 → exec (.latchCountRead e) s = .next (s.setDev (s.dev.put .E_LCNT e 0))) ∧
    (0 < s.dev.get .E_LCFG_LEVEL e → s.dev.get .E_LCFG_LEVEL e ≤ 4 →
      ∃ u, exec (.latchCountRead e) s = .next u ∧ u.dev.get .E_LCNT e = s.dev.get .x_LQ_CNT (4 * e) % 2 ^ 32 ∧
        u.dev.get .E_LTIME_TICK e = s.dev.get .x_LQ_TIME (4 * e) / 256 % 2 ^ 24 ∧ u.dev.get .E_LTIME_PHASE e = s.dev.get .x_LQ_TIME (4 * e) % 256 ∧
        u.dev.get .x_LQ_CNT (4 * e) = s.dev.get .x_LQ_CNT (4 * e + 1) % 2 ^ 32 ∧ u.dev.get .E_LCFG_LEVEL e = s.dev.get .E_LCFG_LEVEL e - 1 ∧
        u = s.setDev { s.dev with regs := u.dev.regs })

/-! Axis cells. -/

/-- R176 to R181: moves and stops of an axis that is in no group. GO latches the target, or is refused outside the limits or in HALTED; at the next tick a move from
rest takes its plan, a stop request of rank 4 at rest leaves the axis HALTED with its CAUSE; a plan that ends leaves it IDLE at its target; STOP, QSTOP and CLR act as their ranks
say; the position token is the set-point rounded to counts, and a following error requests a quick stop with CAUSE 1.
Rests on log entries 3, 10, 80, 81. -/
def Obligations.AxisCommands : Prop :=
  ∀ (s : State) (a : Fin 32) (n : Nat), s.dev.amode a ≠ 2 →
    let st := s.dev.get .AX_STAT_STATE a
    let free_ := st ≠ 6 ∧ s.dev.get .x_AX_RANK a = 0 ∧ s.dev.get .x_AX_REQ a = 0
    let tgt := s.dev.get64 .AX_TGT_LO .AX_TGT_HI a
    (s.dev.held 2 = false → s.dev.amode a ≠ 0 → s.dev.on .x_AX_ENG a = false →
      (free_ → s.dev.outside a tgt = false →
        exec (.axisGo a) s = .next (s.setDev (s.dev.puts [(.x_AX_TGT, a, tgt.toNat), (.AX_CMD_GO, a, 1), (.x_AX_RTICK, a, s.dev.tick)]))) ∧
      (free_ → s.dev.outside a tgt = true → exec (.axisGo a) s = .next (s.setDev (s.dev.put .AX_STAT_TGT_REJ a 1))) ∧
      (¬free_ → exec (.axisGo a) s = .next (s.setDev (s.dev.put .AX_STAT_CMD_REJ a 1)))) ∧
    (s.dev.held 2 = false → free_ →
      exec (.axisStop a) s = .next (s.setDev (s.dev.puts [(.x_AX_REQ, a, 5), (.x_AX_QCAUSE, a, 0), (.x_AX_RTICK, a, s.dev.tick), (.AX_CMD_STOP, a, 1)])) ∧
      exec (.axisQstop a) s = .next (s.setDev (s.dev.puts [(.x_AX_REQ, a, 3), (.x_AX_QCAUSE, a, 0), (.x_AX_RTICK, a, s.dev.tick), (.AX_CMD_QSTOP, a, 1)]))) ∧
    (s.dev.held 2 = false → st = 6 → s.dev.on .x_AX_STOP1 a = false → s.dev.on .x_AX_STOP0 a = false →
      exec (.axisClr a) s = .next (s.setDev (s.dev.puts [(.AX_STAT_STATE, a, 0), (.AX_STAT_CAUSE, a, 0)]))) ∧
    (s.dev.on .x_AX_STOP0 a = true → exec (.axisClr a) s = .next s) ∧
    (s.dev.fieldActs = true → s.dev.get .x_AX_RTICK a < s.dev.tick →
      let t0 := s.dev.get .x_AX_RTICK a + 1
      let m := s.dev.axisAt a (1000 * t0)
      atRest m = true →
      (s.dev.on .x_AX_REQ a = false → s.dev.on .AX_CMD_GO a = true → st ≠ 1 →
        ∃ u, exec (.planTakesEffect a) s = .next u ∧ u.dev.get .AX_CMD_GO a = 0 ∧ u.dev.get .AX_STAT_STATE a = 1 ∧
          u.dev.plan a = Plan.mk t0 m none (some (BitVec.ofNat 64 (s.dev.get .x_AX_TGT a))) (BitVec.ofNat 32 (s.dev.get .AX_VMAX a))
            (BitVec.ofNat 32 (s.dev.get .AX_AMAX a)) (BitVec.ofNat 32 (s.dev.get .AX_JMAX a))) ∧
      (s.dev.get .x_AX_REQ a = 4 → s.dev.on .x_AX_QCAUSE a = true → s.dev.get .x_AX_QCAUSE a < 16 →
        ∃ u, exec (.planTakesEffect a) s = .next u ∧ u.dev.get .AX_STAT_STATE a = 6 ∧ u.dev.get .AX_STAT_CAUSE a = s.dev.get .x_AX_QCAUSE a ∧
          u.dev.get .x_AX_REQ a = 0 ∧ u.dev.plan a = Plan.rest m.pos)) ∧
    (s.dev.fieldActs = true → st = 1 → 1000 * (s.dev.plan a).endTick ≤ s.dev.now →
      let p := (s.dev.plan a).endPos
      exec (.axisAtRest a) s = .next (s.setDev (((s.dev.setPlan a (Plan.rest p)).showMotion a (restAt p)).puts [(.AX_STAT_STATE, a, 0), (.x_AX_REST, a, 1)]))) ∧
    (s.dev.fieldActs = true → st = 1 → s.dev.now < 1000 * (s.dev.plan a).endTick → exec (.axisAtRest a) s = .next s) ∧
    (let off := 4 * s.dev.get .AX_TOK_SPHASE a
     s.dev.fieldActs = true → s.dev.amode a ≠ 0 → s.dev.on .x_AX_ENG a = false → st ≠ 4 →
      dueTick s.dev.now (s.dev.get .AX_TIME_PERIOD a + 1) (s.dev.get .AX_TIME_TOFF a) off = some n → s.dev.get .x_AX_DONE a ≤ n →
      s.dev.on .AX_TOK_VEN a = false → s.dev.on .AX_TOK_AEN a = false →
      let d := s.dev.put .x_AX_DONE a (n + 1)
      let m := d.axisAt a (n * 1000 + off)
      let e := d.showMotion a m
      (s.dev.get .AX_FEMAX a = 0 →
        exec (.axisSampleInstant a) s = .next (s.setDev
          (if s.dev.on .AX_TOK_PEN a then e.fieldToken (.axis a) (s.dev.get .AX_PVDEST_PDEST a) 4 0 ((m.pos.toNat + 0x8000) / 65536) n else e))) ∧
      (s.dev.on .AX_TOK_PEN a = false → s.dev.followingError a m.pos = true → free_ →
        ∃ u, exec (.axisSampleInstant a) s = .next u ∧ u.dev.get .x_AX_REQ a = 4 ∧ u.dev.get .x_AX_QCAUSE a = 1))

/-- R95, R146, R179: at the tick after a program-region stop the loop region is signalled and each axis with WDSTOP that is free to take it requests a quick stop
with CAUSE 3.
Rests on log entries 3, 63. -/
def Obligations.StopSignalReachesAxes : Prop :=
  ∀ (s : State), s.dev.stopped = true → s.dev.get .x_STOPT 0 < s.dev.tick → s.dev.on .x_LSPSIG 0 = false → s.dev.held 0 = false → s.dev.held 2 = false →
    ∃ u, exec .loopRegionStopSignal s = .next u ∧ u.dev.get .x_LSPSIG 0 = 1 ∧ u.dev.mem = s.dev.mem ∧
      ∀ a, a < 32 → s.dev.amode a ≠ 2 → s.dev.get .AX_STAT_STATE a ≠ 6 → s.dev.get .x_AX_RANK a = 0 → s.dev.get .x_AX_REQ a = 0 →
        (s.dev.on .AX_CFG_WDSTOP a = true → u.dev.get .x_AX_REQ a = 4 ∧ u.dev.get .x_AX_QCAUSE a = 3 ∧ u.dev.get .x_AX_RTICK a = s.dev.tick) ∧
        (s.dev.on .AX_CFG_WDSTOP a = false → u.dev.get .x_AX_REQ a = 0)

/-- R184 to R187: interpolation groups. START puts every member in state GROUP, or is refused; STOP, QSTOP and FLUSH request a stop along the path; a committed packet
becomes the segment, or is consumed as bad; a segment that ends counts in DONE; a path without a packet starves.
Rests on log entries 3, 10, 82, 83. -/
def Obligations.GroupPath : Prop :=
  ∀ (s : State) (g : Fin 8),
    let ms := s.dev.members g
    let p := s.dev.path g
    let q := s.dev.get .G_CFG_QUEUE g
    (s.dev.held 2 = false →
      (ms ≠ [] → ms.length ≤ 8 → s.dev.get .G_STAT_STATE g = 0 → (∀ a, a ∈ ms → s.dev.get .AX_STAT_STATE a ≠ 6) → p.seg = [] →
        ∃ u, exec (.groupStart g) s = .next u ∧ u.dev.get .G_STAT_STATE g = 1 ∧ (∀ a, a ∈ ms → u.dev.get .AX_STAT_STATE a = 4) ∧
          u = s.setDev { s.dev with regs := u.dev.regs }) ∧
      (ms = [] ∨ 8 < ms.length ∨ s.dev.get .G_STAT_STATE g ≠ 0 ∨ (∃ a, a ∈ ms ∧ s.dev.get .AX_STAT_STATE a = 6) →
        exec (.groupStart g) s = .next (s.setDev (s.dev.put .G_STAT_CMD_REJ g 1))) ∧
      (s.dev.get .x_G_RANK g = 0 → s.dev.get .x_G_REQ g = 0 →
        let req := fun (r : Nat) => [(F.x_G_REQ, g.val, r), (F.x_G_QCAUSE, g.val, 0), (F.x_G_RTICK, g.val, s.dev.tick)]
        exec (.groupStop g) s = .next (s.setDev (s.dev.puts (req 5 ++ [(F.G_CMD_STOP, g.val, 1)]))) ∧
        exec (.groupQstop g) s = .next (s.setDev (s.dev.puts (req 3 ++ [(F.G_CMD_QSTOP, g.val, 1)]))) ∧
        exec (.flush g) s = .next (s.setDev (s.dev.puts ((.G_CMD_FLUSH, g.val, 1) :: req 5))))) ∧
    (s.dev.fieldActs = true → s.dev.on .G_CFG_EN g = true → s.dev.get .G_STAT_STATE g = 1 ∨ s.dev.get .G_STAT_STATE g = 2 → p.busy = false →
      s.dev.on .x_G_REQ g = false → (s.dev.queue q).pkts ≠ [] →
      let seg := s.dev.qpeek q
      let e := s.dev.qtakePacket q
      (s.dev.badSegment g seg = false →
        exec (.segmentStart g) s = .next (s.setDev ((Dev.setPath { e with free := e.free + 1 } g
          (Machine.Path.mk seg (ms.map (fun a => (s.dev.axisAt a s.dev.now).pos)) ((e.now + 999) / 1000) e.free false)).puts
          [(.G_STAT_ID, g, seg.headD 0 / 2 ^ 32 % 2 ^ 16), (.G_STAT_STATE, g, 1)]))) ∧
      (s.dev.badSegment g seg = true → exec (.segmentStart g) s = .next (s.setDev ((e.put .G_STAT_BADSEG g 1).groupRequest g 4 0x5)))) ∧
    (s.dev.fieldActs = true → s.dev.get .G_STAT_STATE g = 1 →
      (p.seg ≠ [] → p.stopping = false → 1000 * p.endTick ≤ s.dev.now →
        ∃ u, exec (.segmentComplete g) s = .next u ∧ u.dev.path g = Path.idle ∧ u.dev.get .G_DONE g = (s.dev.get .G_DONE g + 1) % 2 ^ 32 ∧
          ∀ a, a ∈ ms → u.dev.plan a = Plan.rest (s.dev.axisAt a (1000 * p.endTick)).pos) ∧
      (p.seg ≠ [] → s.dev.now < 1000 * p.endTick → exec (.segmentComplete g) s = .next s) ∧
      (p.busy = false → (s.dev.queue q).pkts = [] →
        exec (.pathStarved g) s = .next (s.setDev (s.dev.puts [(.G_STAT_STATE, g, 2), (.G_STARVE, g, s.dev.get .G_STARVE g + 1)]))))


/-! PWM axes and stepper channels. -/

/-- R190 to R193: PWM. At a turning point the three new stage values become CMP together, clamped to 0 to TOP. An accepted trip takes the gates to inactive at
once, sets TRIPPED, and with TSTOP requests a quick stop with CAUSE 2; TRIPPED is cleared only while the trip has ended; the gates resume at the first valley
after the last hold cause has ended.
Rests on log entry 3. -/
def Obligations.PwmGates : Prop :=
  ∀ (s : State) (a : Fin 8) (t : Nat),
    let top : Int := 1600 * s.dev.get .PWM_CFG_PPER a
    let duty := fun st : Nat =>
      let v := sNat 32 (s.dev.stageVal st)
      max 0 (min top (if s.dev.get .OS_CFG_TYPE st = 0 then rne (v * top) (2 ^ 31) else v))
    let tripAt := (2 * s.dev.now - 5 * (2 + s.dev.get .PWM_TRIP_TFILT a)) / 2
    let hit := (s.dev.puts [(.PWM_TRIP_LEVEL, a, 1), (.x_PWM_ACT, a, 0), (.PWM_TRIP_TRIPPED, a, 1)]).tapEvent (0x500 + a) 0 (tripAt / 1000) (tripAt % 1000 / 4)
    (s.dev.fieldActs = true → s.dev.turningPoint a = some t → s.dev.get .x_PWM_TURN a ≤ t →
      (∀ ph, ph < 3 → s.dev.get .x_PWM_TURN a ≤ s.dev.get .x_OS_WAT (3 * a + ph) ∧ s.dev.get .x_OS_WAT (3 * a + ph) ≤ t) →
      ∃ u, exec (.compareUpdate a) s = .next u ∧ u.dev.get .PWM_CMPU a = (duty (3 * a)).toNat % 2 ^ 24 ∧
        u.dev.get .PWM_CMPV a = (duty (3 * a + 1)).toNat % 2 ^ 24 ∧ u.dev.get .PWM_CMPW a = (duty (3 * a + 2)).toNat % 2 ^ 24 ∧
        u.dev.get .x_PWM_TURN a = t + 1 ∧ u = s.setDev { s.dev with regs := u.dev.regs }) ∧
    (s.dev.fieldOn = true →
      exec (.trip a false) s = .next (s.setDev (s.dev.put .PWM_TRIP_LEVEL a 0)) ∧
      (s.dev.on .PWM_TRIP_TSTOP a = false → exec (.trip a true) s = .next (s.setDev hit)) ∧
      (s.dev.on .PWM_TRIP_TSTOP a = true → s.dev.amode a ≠ 2 → s.dev.get .AX_STAT_STATE a ≠ 6 → s.dev.get .x_AX_RANK a = 0 → s.dev.get .x_AX_REQ a = 0 →
        exec (.trip a true) s = .next (s.setDev (hit.puts [(.x_AX_REQ, a, 4), (.x_AX_QCAUSE, a, 2), (.x_AX_RTICK, a, s.dev.tick)])))) ∧
    (s.dev.held 2 = false → s.dev.on .PWM_TRIP_LEVEL a = false → s.dev.on .PWM_TRIP_TRIPPED a = true →
      exec (.trippedClear a) s = .next (s.setDev (s.dev.puts [(.PWM_TRIP_TRIPPED, a, 0), (.x_PWM_ENDT, a, s.dev.now)]))) ∧
    (s.dev.on .PWM_TRIP_LEVEL a = true → exec (.trippedClear a) s = .next s) ∧
    (s.dev.valley a = some t → s.dev.fieldActs = true → s.dev.on .x_RET_PWM 0 = false → s.dev.on .PWM_CFG_EN a = true →
      s.dev.on .PWM_TRIP_TRIPPED a = false → s.dev.on .PWM_STAT_STOP0 a = false → s.dev.get .x_PWM_ENDT a < t →
      exec (.gatesResume a) s = .next (s.setDev (s.dev.put .x_PWM_ACT a 1))) ∧
    (s.dev.on .PWM_CFG_EN a = false ∨ s.dev.on .PWM_TRIP_TRIPPED a = true ∨ s.dev.on .PWM_STAT_STOP0 a = true → exec (.gatesResume a) s = .next s)

/-- R196 to R199: stepper channels. The tick after a new target a channel at rest starts towards it the shorter way with ICUR at IMIN. A microstep moves POS by
one; v² gains or loses 2·SAMAX per step (log entry 22: the discrete trapezoid is the model's). A phase leaves its on-state after the blanking time and its decay
after the off-time; the window count adjusts HYST and the load sets ICUR; after THOLD at rest ICUR is IHOLD.
Rests on log entries 3, 18, 22, 85. -/
def Obligations.StepperChannels : Prop :=
  ∀ (s : State) (n : Fin 16) (ph : Fin 2), s.dev.stepOn n = true →
    let i := 2 * n.val + ph.val
    let tgt := s.dev.get .ST_TGT n
    let way := sNat 32 (tgt + 2 ^ 32 - s.dev.get .ST_POS n)
    let down := s.dev.on .x_ST_DOWN n
    let ahead : Int := if down then -(s.dev.stepWay n) else s.dev.stepWay n
    let a2 := 2 * s.dev.get .ST_SAMAX n
    let w := s.dev.get .x_ST_W n
    (s.dev.on .OS_CFG_EN (0x40 + n) = false → tgt < 2 ^ 32 → tgt ≠ s.dev.get .x_ST_PT n → s.dev.get .x_ST_TWT n < s.dev.tick →
      (s.dev.on .ST_STAT_MOVING n = true → exec (.stepperReplan n) s = .next (s.setDev (s.dev.put .x_ST_PT n tgt))) ∧
      (s.dev.on .ST_STAT_MOVING n = false → way ≠ 0 → way ≠ -(2 ^ 31) →
        exec (.stepperReplan n) s = .next (s.setDev (s.dev.puts [(.x_ST_PT, n, tgt), (.x_ST_DOWN, n, if way < 0 then 1 else 0), (.x_ST_W, n, 0),
          (.ST_STAT_MOVING, n, 1), (.ST_LOAD_ICUR, n, s.dev.get .ST_CUR_IMIN n), (.ST_STAT_HOLD, n, 0)])))) ∧
    (s.dev.on .ST_STAT_MOVING n = true → 0 < ahead → w ≤ a2 * ahead.toNat →
      let p := (s.dev.get .ST_POS n + if down then 2 ^ 32 - 1 else 1) % 2 ^ 32
      (1 < ahead → exec (.microstep n) s = .next (s.setDev (s.dev.puts [(.ST_POS, n, p),
        (.x_ST_W, n, min (w + a2) (min (s.dev.get .ST_SVMAX n ^ 2) (a2 * (ahead.toNat - 1))))]))) ∧
      (ahead = 1 → exec (.microstep n) s = .next (s.setDev (s.dev.puts [(.ST_POS, n, p), (.x_ST_W, n, 0), (.ST_STAT_MOVING, n, 0),
        (.x_ST_RESTT, n, s.dev.now)])))) ∧
    (s.dev.on .ST_STAT_MOVING n = false → exec (.microstep n) s = .next s) ∧
    (s.dev.on .ST_STAT_STOP0 n = false →
      (s.dev.on .x_ST_ON i = true → s.dev.get .x_ST_PHT i + (s.dev.get .ST_CFG_TBL n + 1) * 250 ≤ s.dev.now →
        exec (.chopComparatorTrip n ph) s = .next (s.setDev (s.dev.puts [
          (.x_ST_ONSUM, i, s.dev.get .x_ST_ONSUM i + (s.dev.now - max (s.dev.get .x_ST_PHT i) (s.dev.get .x_ST_WIN n))),
          (.x_ST_ON, i, 0), (.x_ST_PHT, i, s.dev.now), (.x_ST_CHOPS, i, s.dev.get .x_ST_CHOPS i + 1)]))) ∧
      (s.dev.on .x_ST_ON i = true → s.dev.now < s.dev.get .x_ST_PHT i + (s.dev.get .ST_CFG_TBL n + 1) * 250 →
        exec (.chopComparatorTrip n ph) s = .next s) ∧
      (s.dev.on .x_ST_ON i = false → 0 < (s.dev.icode n ph).1 → s.dev.get .x_ST_PHT i + (s.dev.get .ST_CFG_TOFFM n + 1) * 500 ≤ s.dev.now →
        exec (.chopDecayEnd n ph) s = .next (s.setDev (s.dev.puts [(.x_ST_ON, i, 1), (.x_ST_PHT, i, s.dev.now), (.x_ST_WASON, i, 1)]))) ∧
      (s.dev.on .x_ST_ON i = false → s.dev.now < s.dev.get .x_ST_PHT i + (s.dev.get .ST_CFG_TOFFM n + 1) * 500 →
        exec (.chopDecayEnd n ph) s = .next s)) ∧
    (let t := s.dev.now / 1000000 * 1000000
     let c := fun ph : Nat => s.dev.get .x_ST_CHOPS (2 * n + ph)
     let hyst := fun (f : F) (ph : Nat) =>
       let h := s.dev.get f n
       if s.dev.on .x_ST_WASON (2 * n + ph) = false then h
       else if c ph < 20 ∧ 1 < h then h - 1 else if 40 < c ph ∧ h < 31 then h + 1 else h
     s.dev.get .x_ST_WIN n < t → s.dev.get .ST_STAT_HYSTA n < 32 → s.dev.get .ST_STAT_HYSTB n < 32 →
      ∃ u, exec (.hysteresisWindowEnd n) s = .next u ∧ u.dev.get .x_ST_WIN n = t ∧ u.dev.get .ST_STAT_HYSTA n = hyst .ST_STAT_HYSTA 0 ∧
        u.dev.get .ST_STAT_HYSTB n = hyst .ST_STAT_HYSTB 1 ∧ u.dev.get .ST_FCHOP_FA n = min 65535 (c 0) ∧ u.dev.get .ST_FCHOP_FB n = min 65535 (c 1) ∧
        u.dev.get .x_ST_CHOPS (2 * n) = 0 ∧ u.dev.get .x_ST_CHOPS (2 * n + 1) = 0 ∧ u = s.setDev { s.dev with regs := u.dev.regs } ∧
        (s.dev.on .ST_STAT_MOVING n = true → s.dev.get .ST_LOAD_ICUR n < 256 →
          let on_ := fun i : Nat => s.dev.get .x_ST_ONSUM i + if s.dev.on .x_ST_ON i then t - max (s.dev.get .x_ST_PHT i) (s.dev.get .x_ST_WIN n) else 0
          let load := min 255 (rne (255 * (on_ (2 * n) + on_ (2 * n + 1)) : Nat) (2 * (t - s.dev.get .x_ST_WIN n))).toNat
          let want := s.dev.currentTarget n load
          let cur := s.dev.get .ST_LOAD_ICUR n
          u.dev.get .ST_LOAD_LOAD n = load ∧ u.dev.get .ST_LOAD_ICUR n = (if cur < want then want else if want < cur then cur - 1 else cur) % 256)) ∧
    (s.dev.on .ST_STAT_MOVING n = false → s.dev.get .x_ST_RESTT n + 1000000 * s.dev.get .ST_CFG_THOLD n ≤ s.dev.now →
      exec (.holdCurrent n) s = .next (s.setDev (s.dev.puts [(.ST_LOAD_ICUR, n, s.dev.get .ST_CUR_IHOLD n), (.ST_STAT_HOLD, n, 1)])))

/-! Analogue blocks. -/

/-- R204 to R213, R216, R220, R221: conversions. A result is corrected, saturated and judged; it becomes the latest result of its input and the sequence goes
on. An urgent request abandons the conversion in progress, or is refused while one runs or a calibration suspends the converter. Input tokens carry the latest
result. SAR conversions start at their sample instants, one after another, and give both results of the pair.
Rests on log entries 3, 19, 86. -/
def Obligations.Converters : Prop :=
  ∀ (s : State) (k : Fin 16) (n : Fin 64) (p : Fin 10) (raw : BitVec 32) (ovl : Bool) (m : Nat), s.dev.fieldOn = true →
    let corrected := fun (a : Nat) (x : Int) => satS 32 (rne ((x - sNat 32 (s.dev.rd a 4)) * (s.dev.rd (a + 4) 4 : Nat)) (2 ^ 30))
    (let i := 16 * k.val + s.dev.get .SD_STAT_ENTRY k
     let c := 4 * k.val + s.dev.get .SD_SEQ_CH i
     let g := s.dev.get .SD_SEQ_GAIN i
     let r := corrected (0x50080000 + 8 * (8 * c + g)) raw.toInt
     let v : Word := if ovl then (if raw.msb then 0x80000000#32 else 0x7FFFFFFF#32) else r.1
     let set := s.dev.get .x_SD_SET k
     let t := s.dev.get .x_SD_T0 k + s.dev.get .SD_SEQ_OSR i * s.dev.modPeriod k
     let more := s.dev.get .x_SD_R k + 1 ≤ s.dev.get .SD_SEQ_REP i
     s.dev.on .x_SD_RUN k = true → s.dev.on .SD_UCTL_BUSY k = false → t ≤ s.dev.now → s.dev.on .x_RET_AIN c = false →
      ∃ u, exec (.conversionResult k raw ovl) s = .next u ∧ u.dev.get .AIN_RES c = v.toNat ∧
        u.dev.get .AIN_RINFO_CNT c = (s.dev.get .AIN_RINFO_CNT c + 1) % 2 ^ 24 ∧
        u.dev.get .AIN_RINFO_QUAL c = (if 0 < set then 2 else 0) +
          (if s.dev.on .AIN_CFG_OWEN c ∧ sNat 32 (s.dev.get .AIN_OWTH c) ≤ v.toInt then 4 else 0) +
          (if ovl = true ∨ r.2 = true ∨ v.toInt < sNat 32 (s.dev.get .AIN_RLO c) ∨ sNat 32 (s.dev.get .AIN_RHI c) < v.toInt then 8 else 0) ∧
        u.dev.get .x_SD_T0 k = t ∧ u.dev.get .x_SD_RUN k = 1 ∧ u.dev.get .x_SD_R k = (if more then s.dev.get .x_SD_R k + 1 else 0) % 512 ∧
        (more → u.dev.get .SD_STAT_ENTRY k = s.dev.get .SD_STAT_ENTRY k) ∧
        (¬more → u.dev.get .SD_STAT_ENTRY k =
          (if s.dev.get .SD_STAT_ENTRY k < s.dev.get .SD_CFG_NENT k then s.dev.get .SD_STAT_ENTRY k + 1 else 0) % 16) ∧
        u.dev.get .x_SD_KEY k = u.dev.entryKey k + 1 ∧
        u.dev.get .x_SD_SET k = (if s.dev.get .x_SD_KEY k = u.dev.entryKey k + 1 then set - 1 else settleOf (u.dev.get .SD_SEQ_FILT (u.dev.seqIdx k))) % 8 ∧
        u = s.setDev { s.dev with regs := u.dev.regs }) ∧
    (s.dev.on .SD_CFG_EN k = true →
      (s.dev.on .SD_UCTL_BUSY k = true ∨ s.dev.on .SD_STAT_CALSUSP k = true →
        exec (.urgentReq k) s = .next (s.setDev (Dev.bumpSat { s.dev with free := s.dev.free + 1 } .SD_UCTL_REJ k))) ∧
      (s.dev.on .SD_UCTL_BUSY k = false → s.dev.on .SD_STAT_CALSUSP k = false →
        let taken := fun (u : State) (at_ : Nat) =>
          u.dev.get .SD_UCTL_BUSY k = 1 ∧ u.dev.get .SD_STAT_URGACT k = 1 ∧ u.dev.get .x_SD_UT0 k = s.dev.modEdge k at_ ∧
          u.dev.get .x_SD_UCFG k = s.dev.convKey k (s.dev.get .SD_URG_CH k) (s.dev.get .SD_URG_GAIN k) (s.dev.get .SD_URG_FILT k) (s.dev.get .SD_URG_OSR k) ∧
          u.dev.get .SD_STAT_ABORT k = (if s.dev.on .x_SD_RUN k ∧ s.dev.get .SD_STAT_ABORT k + 1 < 2 ^ 16 then s.dev.get .SD_STAT_ABORT k + 1
            else s.dev.get .SD_STAT_ABORT k) ∧ u.dev.mem = s.dev.mem
        (∃ u x, x ≤ 400 ∧ exec (.urgentReq k) s = .next u ∧ taken u (s.dev.now + x)) ∧
        (let off := 4 * s.dev.get .SD_URG_SPHASE k
         dueTick s.dev.now (s.dev.get .SD_UTIME_PERIOD k + 1) (s.dev.get .SD_UTIME_TOFF k) off = some m → s.dev.on .SD_URG_TRIG k = true →
          s.dev.get .x_SD_TDONE k ≤ m →
          ∃ u, exec (.urgentTrigger k) s = .next u ∧ taken u (m * 1000 + off) ∧ u.dev.get .x_SD_TDONE k = m + 1))) ∧
    (let key := s.dev.get .x_SD_UCFG k
     let t := s.dev.get .x_SD_UT0 k + (settleOf (key / 32 % 4) + 1) * (key / 128 % 65536) * (if key / 2 ^ 23 % 2 = 1 then 800 else 100)
     let c := 4 * k.val + key % 4
     let r := s.dev.judge c (key / 4 % 8) raw ovl false
     let d := ((s.dev.deliver c r.1 r.2 t).puts [(.SD_URES, k, r.2.toNat), (.SD_UINFO_QUAL, k, r.1)]).bump .SD_UINFO_CNT k 1
     let e := if d.on .SD_UCTL_NOTE k then d.setFlags (d.get .SD_UCTL_NTASK k) (2 ^ d.get .SD_UCTL_NFLAG k) else d
     s.dev.on .SD_UCTL_BUSY k = true → t ≤ s.dev.now →
      exec (.urgentResult k raw ovl) s = .next (s.setDev ((e.puts [(.SD_UCTL_BUSY, k, 0), (.SD_STAT_URGACT, k, 0), (.x_SD_RST, k, 0)]).seqStart k
        (if e.on .x_SD_RST k then 0 else e.get .SD_STAT_ENTRY k) t))) ∧
    (let off := 4 * s.dev.get .AIN_TOK_SPHASE n
     let cal := if s.dev.calInput n then 0x40 else 0
     let d := s.dev.puts [(.x_AIN_DONE, n, m + 1), (.x_AIN_PT, n, m * 1000 + off + 1)]
     dueTick s.dev.now (s.dev.get .AIN_TIME_PERIOD n + 1) (s.dev.get .AIN_TIME_TOFF n) off = some m → s.dev.on .AIN_TOK_TEN n = true →
      s.dev.on .x_RET_AIN n = false → s.dev.get .x_AIN_DONE n ≤ m →
      (s.dev.get .x_AIN_T n = 0 →
        exec (.inputTokenInstant n) s = .next (s.setDev (d.fieldToken (.ain n) (s.dev.get .AIN_TOK_DEST n) 1 (0x01 ||| cal) 0 m))) ∧
      (s.dev.get .x_AIN_T n ≠ 0 →
        exec (.inputTokenInstant n) s = .next (s.setDev (d.fieldToken (.ain n) (s.dev.get .AIN_TOK_DEST n) 1
          (s.dev.get .AIN_RINFO_QUAL n ||| cal ||| (if s.dev.get .x_AIN_T n ≤ s.dev.get .x_AIN_PT n then 1 else 0)) (s.dev.get .AIN_RES n) m)))) ∧
    (∀ j t, s.dev.on .SAR_CFG_EN p = true → s.dev.sarDue p = [(j, m, t)] →
      let e := s.dev.get .x_SAR_END p
      ∃ u, exec (.sarSampleInstant p) s = .next u ∧ u.dev.sarq = s.dev.sarq ++ [{ pair := p, start := max t e, subs := [(j, m)] }] ∧
        u.dev.get .x_SAR_END p = max t e + 200 ∧ u.dev.get .x_SAR_DONE (4 * p + j) = t + 1 ∧
        u.dev.get .SAR_STAT_COLL p = (if t < e ∧ s.dev.get .SAR_STAT_COLL p + 1 < 2 ^ 16 then s.dev.get .SAR_STAT_COLL p + 1 else s.dev.get .SAR_STAT_COLL p)) ∧
    (∀ (c : SarConv) (j : Nat) (x y : BitVec 16), s.dev.sarq.find? (fun c => decide (c.pair = p.val)) = some c → c.start + 200 ≤ s.dev.now →
      let d : Dev := { s.dev with sarq := s.dev.sarq.erase c }
      (s.dev.on .SAR_CFG_EN p = false → exec (.sarConversionEnd p x y) s = .next (s.setDev d)) ∧
      (s.dev.on .SAR_CFG_EN p = true → c.subs = [(j, m)] → s.dev.on .x_RET_AIN (64 + 2 * p) = false → s.dev.on .x_RET_AIN (64 + 2 * p + 1) = false →
        (x ≠ 0#16 ∧ x ≠ 0xFFFF#16 ∧ y ≠ 0#16 ∧ y ≠ 0xFFFF#16) →
        let val := fun (q : Nat) (code : BitVec 16) => (corrected (0x50081100 + 8 * (2 * p.val + q)) (((code.toNat : Int) - 32768) * 65536)).1.toNat
        let e := (d.puts [(.SAR_RES_CODEA, p, x.toNat), (.SAR_RES_CODEB, p, y.toNat)]).fieldToken (.sar p) (s.dev.get .SAR_SUB_DESTA (4 * p + j)) 1 0 (val 0 x) m
        exec (.sarConversionEnd p x y) s = .next (s.setDev (e.fieldToken (.sar p) (s.dev.get .SAR_SUB_DESTB (4 * p + j)) 1 0 (val 1 y) m))))

/-- R216 to R218: calibration commands. ZERO and OUTLO start a calibration, or are refused with ERR; SPAN and OUTHI go on with it; STORE writes the set to
MRAM in one store and ends it; CANCEL ends it. A command that is done leaves its average as OFS, or GAIN from it.
Rests on log entries 87, 88. -/
def Obligations.Calibration : Prop :=
  ∀ (s : State) (tgt : BitVec 2) (ch : BitVec 6) (gain : BitVec 3) (navg : BitVec 4) (avg : BitVec 32), navg.toNat ≤ 8 → s.dev.held 2 = false →
    let w := s.dev.puts [(.CAL_CTL_TGT, 0, tgt.toNat), (.CAL_CTL_CH, 0, ch.toNat), (.CAL_CTL_GAIN, 0, gain.toNat), (.CAL_CTL_NAVG, 0, navg.toNat)]
    let c := ch.toNat
    let k := c / 4
    let begun := fun (cmd step : Nat) => w.puts [(.CAL_STAT_ACTIVE, 0, 1), (.x_CAL_STEP, 0, step), (.x_CAL_TGT, 0, tgt.toNat), (.x_CAL_CH, 0, c),
      (.x_CAL_GAIN, 0, gain.toNat), (.CAL_STAT_BUSY, 0, 1), (.x_CAL_CMD, 0, cmd)]
    let refused := fun (i : Instr) (err : Nat) => exec i s = .next (s.setDev (w.put .CAL_STAT_ERR 0 err))
    let run := fun (cmd : Nat) => [(F.CAL_STAT_BUSY, 0, 1), (F.x_CAL_CMD, 0, cmd)]
    let ended := fun (d : Dev) =>
      let e := d.puts [(.CAL_STAT_ACTIVE, 0, 0), (.x_CAL_STEP, 0, 0)]
      if tgt = 0#2 then
        let e := e.put .SD_STAT_CALSUSP k 0
        if e.on .SD_UCTL_BUSY k then e else e.seqStart k (e.get .SD_STAT_ENTRY k) e.now
      else if tgt = 2#2 then e.put .x_AO_WR c 1 else e
    let zero_ := Instr.zero tgt ch gain navg
    let span_ := Instr.span tgt ch gain navg
    let store_ := Instr.store tgt ch gain navg
    let cancel_ := Instr.cancel tgt ch gain navg
    let outlo_ := Instr.outlo tgt ch gain navg
    let outhi_ := Instr.outhi tgt ch gain navg
    (s.dev.on .CAL_STAT_ACTIVE 0 = true → refused zero_ 1 ∧ refused outlo_ 1) ∧
    (s.dev.on .CAL_STAT_ACTIVE 0 = false →
      (tgt = 0#2 → s.dev.on .SD_CFG_EN k = true →
        exec zero_ s = .next (s.setDev (((begun 1 1).abandon k).put .SD_STAT_CALSUSP k 1))) ∧
      (tgt = 0#2 → s.dev.on .SD_CFG_EN k = false → refused zero_ 2) ∧
      (tgt = 1#2 → c < 20 → s.dev.get .SAR_SEN (c / 2) = 0 → exec zero_ s = .next (s.setDev (begun 1 1))) ∧
      (tgt = 1#2 → c < 20 → s.dev.get .SAR_SEN (c / 2) ≠ 0 → refused zero_ 2) ∧
      (tgt = 2#2 ∨ (tgt = 1#2 ∧ 20 ≤ c) → refused zero_ 4) ∧
      (tgt = 2#2 → c < 32 → s.dev.on .AOUT_CFG_EN c = true → s.dev.on .AOUT_CFG_MDROP c = false →
        exec outlo_ s = .next (s.setDev ((begun 5 3).put .x_AO_WR c 1))) ∧
      (tgt = 2#2 → c < 32 → s.dev.on .AOUT_CFG_EN c = false ∨ s.dev.on .AOUT_CFG_MDROP c = true → refused outlo_ 2) ∧
      (tgt ≠ 2#2 → refused outlo_ 4) ∧ refused span_ 1 ∧ refused store_ 1 ∧ refused outhi_ 1 ∧ exec cancel_ s = .next (s.setDev w)) ∧
    (s.dev.on .CAL_STAT_ACTIVE 0 = true → s.dev.get .x_CAL_TGT 0 = tgt.toNat → s.dev.get .x_CAL_CH 0 = c → s.dev.get .x_CAL_GAIN 0 = gain.toNat →
      exec cancel_ s = .next (s.setDev ((ended w).puts (run 4))) ∧
      (s.dev.on .CAL_STAT_BUSY 0 = true → refused span_ 1 ∧ refused store_ 1 ∧ refused outhi_ 1) ∧
      (s.dev.on .CAL_STAT_BUSY 0 = false →
        (tgt ≠ 2#2 → exec span_ s = .next (s.setDev (w.puts (run 2)))) ∧
        (tgt = 2#2 → 4 ≤ s.dev.get .x_CAL_STEP 0 →
          let lo : Int := s.dev.get .CAL_MLO 0
          let dd : Int := s.dev.get .CAL_MHI 0 - lo
          let g := rneInt (2 ^ 30 * 53498 * 19600000) (65535 * dd)
          let o := 2675 + rneInt ((3200000 - lo) * 53498) dd
          let good := 0 < dd ∧ 0x20000000 ≤ g ∧ g ≤ 0x80000000 ∧ -4096 ≤ o ∧ o ≤ 4096
          (good → exec span_ s = .next (s.setDev (w.puts ([(.CAL_GAIN, 0, uInt 32 g), (.CAL_OFS, 0, uInt 32 o), (.x_CAL_STEP, 0, 5)] ++ run 2)))) ∧
          (¬good → refused span_ 3)) ∧
        (tgt = 2#2 → s.dev.get .x_CAL_STEP 0 ∈ [3, 4, 5] →
          exec outhi_ s = .next (s.setDev (w.puts ([(.x_CAL_STEP, 0, 4), (.x_AO_WR, c, 1)] ++ run 6)))) ∧
        (s.dev.get .x_CAL_STEP 0 ∈ [2, 5] →
          let a := if tgt = 0#2 then 0x50080000 + 8 * (8 * c + gain.toNat) else if tgt = 1#2 then 0x50081100 + 8 * c else 0x50081000 + 8 * c
          exec store_ s = .next (s.setDev ((ended (w.wr a 8 (s.dev.get .CAL_OFS 0 + 2 ^ 32 * s.dev.get .CAL_GAIN 0))).puts (run 3)))) ∧
        (s.dev.get .x_CAL_STEP 0 ∈ [1, 3, 4] → refused store_ 1))) ∧
    (s.dev.fieldOn = true → s.dev.on .CAL_STAT_BUSY 0 = true →
      let cmd := s.dev.get .x_CAL_CMD 0
      let d := s.dev.puts [(.CAL_STAT_BUSY, 0, 0), (.x_CAL_CMD, 0, 0)]
      let x := avg.toInt - sNat 32 (s.dev.get .CAL_OFS 0)
      let g := rneInt (sNat 32 (s.dev.get .CAL_REF 0) * 2 ^ 30) x
      let good := x ≠ 0 ∧ 0x20000000 ≤ g ∧ g ≤ 0x80000000
      let done := fun d : Dev => exec (.calCommandDone avg) s = .next (s.setDev (d.put .CAL_STAT_DONE 0 1))
      (cmd = 1 → done (d.put .CAL_OFS 0 avg.toNat)) ∧
      (cmd = 2 → s.dev.get .x_CAL_TGT 0 ≠ 2 → good → done (d.puts [(.CAL_GAIN, 0, uInt 32 g), (.x_CAL_STEP, 0, 2)])) ∧
      (cmd = 2 → s.dev.get .x_CAL_TGT 0 ≠ 2 → ¬good → done (d.put .CAL_STAT_ERR 0 3)) ∧
      (cmd ≠ 1 → cmd ≠ 2 ∨ s.dev.get .x_CAL_TGT 0 = 2 → done d))

/-- R223 to R234: loop outputs and modems. The DAC takes 0 for a disabled output, the calibration code, the multidrop code, the alarm code or the limited and
corrected value of its stage. A burst sends the oldest packet of TXQ; received bytes enter RXQ, or wait, at most four; a carrier that ends commits the packet; a
channel change waits for an idle modem.
Rests on log entries 3, 89. -/
def Obligations.LoopOutputsAndModems : Prop :=
  ∀ (s : State) (n : Fin 32) (b : Fin 4) (x : Bool) (data : BitVec 8) (par frm : Bool),
    (let off := sNat 32 (s.dev.rd (0x50081000 + 8 * n) 4)
     let gain := s.dev.rd (0x50081000 + 8 * n + 4) 4
     let fin := fun c : Nat => (max 0 (min 65535 (rne ((c * gain : Nat) : Int) (2 ^ 30) + off))).toNat
     let takes := fun (code alarm clamp : Nat) =>
       ∃ u, exec (.dacUpdate n) s = .next u ∧ u.dev.get .AOUT_STAT_CODE n = code ∧ u.dev.get .AOUT_STAT_ALARM n = alarm ∧ u.dev.get .x_AO_WR n = 0 ∧
         u.dev.get .AOUT_STAT_CLAMP n = (if clamp = 1 then 1 else s.dev.get .AOUT_STAT_CLAMP n) ∧ u = s.setDev { s.dev with regs := u.dev.regs }
     let alarm := s.dev.on .AOUT_CFG_AFORCE n = true ∨ s.dev.stageQual (0x20 + n) &&& s.dev.get .AOUT_CFG_AQMASK n ≠ 0
     s.dev.held 2 = false → s.dev.clocked = true → s.dev.on .x_AO_WR n = true →
      (s.dev.on .AOUT_CFG_EN n = false → takes 0 0 0) ∧
      (s.dev.fieldActs = true → s.dev.on .AOUT_CFG_EN n = true → s.dev.on .x_RET_AO n = false →
        (s.dev.calOutput n = true → takes (if s.dev.get .x_CAL_STEP 0 = 3 then 0x0A73 else 0xDB6D) 0 0) ∧
        (s.dev.calOutput n = false → s.dev.on .AOUT_CFG_MDROP n = true → takes (fin 0x0A73) 0 0) ∧
        (s.dev.calOutput n = false → s.dev.on .AOUT_CFG_MDROP n = false →
          (alarm → takes (fin (if s.dev.on .AOUT_CFG_ADIR n then s.dev.get .AOUT_ALM_AHI n else s.dev.get .AOUT_ALM_ALO n)) 1 0) ∧
          (¬alarm → s.dev.get .OS_CFG_TYPE (0x20 + n) = 0 →
            let c := rne ((8 * 2 ^ 31 + 160 * sNat 32 (s.dev.stageVal (0x20 + n))) * 65535) (196 * 2 ^ 31)
            let lo := s.dev.get .AOUT_LIM_LLO n
            let hi := s.dev.get .AOUT_LIM_LHI n
            (c < lo → takes (fin lo) 0 1) ∧ (lo ≤ c → hi < c → takes (fin hi) 0 1) ∧ (lo ≤ c → c ≤ hi → takes (fin c.toNat) 0 0))))) ∧
    (s.dev.held 2 = false → exec (.aforceWrite n x) s = .next (s.setDev (s.dev.puts [(.AOUT_CFG_AFORCE, n, if x then 1 else 0), (.x_AO_WR, n, 1)]))) ∧
    (s.dev.fieldOn = true →
      exec (.headroomChange n true) s = .next (s.setDev (s.dev.puts [(.AOUT_STAT_HEADROOM, n, 1), (.AOUT_STAT_HRSEEN, n, 1)])) ∧
      exec (.headroomChange n false) s = .next (s.setDev (s.dev.put .AOUT_STAT_HEADROOM n 0))) ∧
    (s.dev.fmOn b = true →
      let tq := s.dev.get .FM_CFG_TXQ b
      let rq := s.dev.get .FM_CFG_RXQ b
      let bits := 2500000
      exec (.carrierDetectChange b true) s = .next (s.setDev (s.dev.put .FM_STAT_CD b 1)) ∧
      (s.dev.on .FM_STAT_CD b = true → (s.dev.fskOf b).hold = [] →
        let e := ((s.dev.put .FM_STAT_CD b 0).setFsk b { s.dev.fskOf b with drop := false }).put .x_FM_CMTP b 1
        exec (.carrierDetectChange b false) s = .next (s.setDev ((e.qcommit rq).put .x_FM_CMTP b 0))) ∧
      (s.dev.on .FM_STAT_TX b = false → s.dev.get .x_FM_END b = 0 ∨ s.dev.get .x_FM_END b - 1 + 833334 ≤ s.dev.now → (s.dev.queue tq).pkts ≠ [] →
        exec (.fskBurstStart b) s = .next (s.setDev (((s.dev.qtakePacket tq).setFsk b { s.dev.fskOf b with tx := (s.dev.qpeek tq).map (· % 256) }).puts
          [(.FM_STAT_TX, b, 1), (.x_FM_T0, b, s.dev.now)]))) ∧
      (s.dev.on .FM_STAT_TX b = true →
        let fin := s.dev.get .x_FM_T0 b + (2 + 11 * (s.dev.fskOf b).tx.length) * bits / 3
        (fin ≤ s.dev.now → exec (.fskBurstEnd b) s = .next (s.setDev ((s.dev.setFsk b { s.dev.fskOf b with tx := [] }).puts
          [(.FM_STAT_TX, b, 0), (.x_FM_END, b, s.dev.now + 1)]))) ∧
        (s.dev.now < fin → exec (.fskBurstEnd b) s = .next s) ∧
        exec (.fskByteReceived b data par frm) s = .next s ∧ exec (.chanChangeTakesEffect b) s = .next s) ∧
      (s.dev.on .FM_STAT_TX b = false → s.dev.get .x_FM_END b = 0 → (s.dev.fskOf b).drop = false → s.dev.on .x_FM_CMTP b = false →
        let d := if par then s.dev.bumpSat .FM_ERR_PERR b else s.dev
        let e := if frm then d.bumpSat .FM_ERR_FERR b else d
        let item := data.toNat + (if par then 256 else 0) + (if frm then 512 else 0)
        let h := (s.dev.fskOf b).hold
        (h = [] → s.dev.rxRoom rq = true → exec (.fskByteReceived b data par frm) s = .next (s.setDev (e.qstore rq item))) ∧
        (h.length < 4 → s.dev.rxRoom rq = false →
          exec (.fskByteReceived b data par frm) s = .next (s.setDev (e.setFsk b { s.dev.fskOf b with hold := h ++ [item] }))) ∧
        (h.length = 4 → s.dev.rxRoom rq = false →
          exec (.fskByteReceived b data par frm) s = .next (s.setDev (((e.qrewind rq).setFsk b { s.dev.fskOf b with hold := [], drop := true }).bump
            .FM_LOST b 5)))) ∧
      (s.dev.on .FM_STAT_CHPEND b = true → s.dev.on .FM_STAT_TX b = false → s.dev.on .FM_STAT_CD b = false →
        s.dev.get .x_FM_NEN b = s.dev.get .FM_CFG_EN b →
        exec (.chanChangeTakesEffect b) s = .next (s.setDev (s.dev.puts [(.FM_CFG_EN, b, s.dev.get .x_FM_NEN b),
          (.FM_CFG_CHAN, b, s.dev.get .x_FM_NCH b), (.FM_STAT_CHPEND, b, 0)]))))

/-! Links. -/

/-- R235 to R239, R246 to R249: a link's cycle. At its tick a cycle starts (with a waiting configuration, which takes effect); the output images are captured,
the frame of R239 leaves; returned blocks are recorded; at the completion instant every present station is judged, and maps launch their tokens.
Rests on log entries 3, 90, 91. -/
def Obligations.OlisolCycle : Prop :=
  ∀ (s : State) (k : Fin 20) (st : Fin 8) (m : Fin 32) (bytes : List (BitVec 8)) (rtt : BitVec 32) (x : Bool) (n : Nat),
    let tc := s.dev.get .x_OL_DONE k - 1
    let i := 8 * k.val + st.val
    let pend := natGet [] k.val s.dev.olPend
    (s.dev.fieldActs = true → s.dev.on .x_RET_LNK k = false → s.dev.get .OL_CFG_EN k = 1 →
      dueTick s.dev.now (s.dev.get .OL_CFG_CYC k) (s.dev.get .OL_CFG_COFF k) 0 = some n → s.dev.get .x_OL_DONE k ≤ n →
      (pend = [] → exec (.linkCycleStart k) s = .next (s.setDev { s.dev.puts [(.x_OL_DONE, k, n + 1), (.x_OL_PH, k, 1)] with
        olRx := s.dev.olRx.filter (fun y => !decide (y.1 / 8 = k.val)) })) ∧
      (pend ≠ [] → s.dev.get .x_OL_PT k ≤ n →
        let e := Dev.olApply { s.dev with olPend := mapErase k.val s.dev.olPend } k pend
        exec (.linkCycleStart k) s = .next (s.setDev { e.puts [(.x_OL_DONE, k, n + 1), (.x_OL_PH, k, if e.on .OL_CFG_EN k then 1 else 0)] with
          olRx := e.olRx.filter (fun y => !decide (y.1 / 8 = k.val)) }))) ∧
    (s.dev.olSends k = true → s.dev.get .x_OL_PH k = 1 → tc * 1000 + 100 ≤ s.dev.now →
      ∃ u, exec (.outputImageSnapshot k) s = .next u ∧ u.dev.get .x_OL_PH k = 2 ∧ u.dev.mem = s.dev.mem ∧
        ∀ t j, t < 8 → j < s.dev.get .STN_LEN_OLEN (8 * k + t) →
          ((natGet [] k u.dev.olSnap).getD t []).getD j 0 = (s.dev.byte (outImage k t j)).toNat) ∧
    (s.dev.olSends k = true → s.dev.get .x_OL_PH k = 2 → tc * 1000 + 4 * s.dev.get .OL_TIME_TXD k ≤ s.dev.now →
      let len := fun (f : F) (t : Nat) => s.dev.get f (8 * k + t)
      let head := [1, s.dev.get .OL_CFG_SAFE k, k.val, s.dev.get .OL_CFG_WD k] ++ leBytes 4 tc ++ leBytes 4 (s.dev.get .PAIR_EPOCH 0) ++
        leBytes 2 (s.dev.get .OL_CFG_CYC k) ++ leBytes 2 (s.dev.get .OL_TIME_TXD k) ++
        leBytes 4 (if s.dev.on .x_OL_RTTOK k then s.dev.get .OL_RTT k else 0) ++
        ((List.range 8).map (fun t => [len .STN_LEN_OLEN t, len .STN_LEN_ILEN t])).flatten ++ [s.dev.get .OL_SEL_PRESENT k, 0, 0, 0]
      let block := fun t : Nat =>
        let out := (natGet [] k.val s.dev.olSnap).getD t []
        let inb := List.replicate (len .STN_LEN_ILEN t + 8) 0
        out ++ leBytes 4 (crc32 out) ++ inb ++ leBytes 4 (2 ^ 32 - 1 - crc32 inb)
      let present := (List.range 8).filter (fun t => decide (s.dev.get .OL_SEL_PRESENT k / 2 ^ t % 2 = 1))
      let frame := head ++ leBytes 4 (crc32 head) ++ (present.map block).flatten
      exec (.frameTransmit k) s = .next (s.setDev (({ s.dev with olFrame := natSet [] k.val frame s.dev.olFrame } : Dev).puts
        [(.x_OL_PH, k, 3), (.OL_FRAMES, k, s.dev.get .OL_FRAMES k + 1)]))) ∧
    (s.dev.olSends k = true → st.val ∈ s.dev.stations k →
      (s.dev.get .x_OL_PH k = 4 → exec (.stationBlockReceived k st bytes rtt) s = .next (s.setDev (s.dev.put .OL_STAT_LATESEEN k 1))) ∧
      (s.dev.get .x_OL_PH k = 3 →
        let ilen := s.dev.get .STN_LEN_ILEN i
        let b := bytes.map BitVec.toNat
        let tr := b.drop ilen
        let y : StnRx := {
          good := decide (b.length = ilen + 12) && decide (crc32 (b.take (ilen + 8)) = leNat (tr.drop 8)) && decide (tr.getD 0 0 = st.val)
          inb := b.take ilen
          status := tr.getD 1 0 % 256
          missed := tr.getD 2 0 % 256
          epoch := leNat ((tr.drop 4).take 4) }
        let d := Dev.put { s.dev with olRx := s.dev.olRx.filter (fun y => !decide (y.1 = i)) ++ [(i, y)] } .OL_RTT k rtt.toNat
        let e := if 16 * s.dev.get .OL_TIME_RTTMAX k < rtt.toNat then d.put .OL_STAT_RTTOVR k 1 else d
        y.good = false ∨ y.epoch ≤ s.dev.get .PAIR_EPOCH 0 →
        exec (.stationBlockReceived k st bytes rtt) s = .next (s.setDev
          (if s.dev.olUsesQ k && decide (s.dev.get .OL_SEL_RXSEL k / 2 ^ st.val % 2 = 1) then e.rxPacket k y.good (e.rxItems k st y) else e)))) ∧
    (s.dev.olSends k = true → s.dev.get .x_OL_PH k = 3 → tc * 1000 + s.dev.get .OL_CMPL k ≤ s.dev.now → s.dev.stations k = [st.val] →
      (∀ y : StnRx, s.dev.olRx.find? (fun y => decide (y.1 = i) && y.2.good) = some (i, y) →
        let acked := y.status % 2 = 1 ∧ y.status / 4 % 2 = 0
        ∃ u, exec (.completionInstant k) s = .next u ∧ u.dev.get .x_OL_PH k = 4 ∧ u.dev.get .STN_STAT_REPLIED i = 1 ∧ u.dev.get .STN_STAT_CONSEC i = 0 ∧
          u.dev.get .STN_CYCLES i = (s.dev.get .STN_CYCLES i + 1) % 2 ^ 32 ∧ u.dev.get .STN_IN_OK i = (s.dev.get .STN_IN_OK i + 1) % 2 ^ 32 ∧
          u.dev.get .STN_STAT_TSTAT i = y.status % 256 ∧ u.dev.get .STN_EPOCH i = y.epoch % 2 ^ 32 ∧
          u.dev.get .STN_OUT_ACK i = (if acked then (s.dev.get .STN_OUT_ACK i + 1) % 2 ^ 32 else s.dev.get .STN_OUT_ACK i) ∧
          u.dev.get .STN_OUT_NACK i = (if acked then s.dev.get .STN_OUT_NACK i else (s.dev.get .STN_OUT_NACK i + 1) % 2 ^ 32) ∧
          (∀ j, j < s.dev.get .STN_LEN_ILEN i → u.dev.byte (inImage k st j) = BitVec.ofNat 8 (y.inb.getD j 0)) ∧
          u.dev.get .OL_LATE k = s.dev.get .OL_LATE k) ∧
      (s.dev.olRx.find? (fun y => decide (y.1 = i)) = none →
        ∃ u, exec (.completionInstant k) s = .next u ∧ u.dev.get .x_OL_PH k = 4 ∧ u.dev.get .STN_STAT_REPLIED i = 0 ∧
          u.dev.get .STN_IN_MISS i = (s.dev.get .STN_IN_MISS i + 1) % 2 ^ 32 ∧ u.dev.get .STN_OUT_NACK i = (s.dev.get .STN_OUT_NACK i + 1) % 2 ^ 32 ∧
          u.dev.get .OL_LATE k = (s.dev.get .OL_LATE k + 1) % 2 ^ 32 ∧ u.dev.mem = s.dev.mem)) ∧
    (let j := 32 * k.val + m.val
     let src := s.dev.get .MAP_CFG_STATION j
     let ok := decide (src ∈ s.dev.stations k) && s.dev.on .STN_STAT_REPLIED (8 * k + src)
     s.dev.olSends k = true → s.dev.get .x_OL_PH k = 4 → s.dev.on .MAP_CFG_EN j = true → s.dev.get .x_MAP_DONE j ≤ tc →
      tc * 1000 + s.dev.get .OL_CMPL k + 4 * m.val ≤ s.dev.now →
      exec (.inputTokenMap k m) s = .next (s.setDev ((s.dev.put .x_MAP_DONE j (tc + 1)).fieldToken (.link k) (s.dev.get .MAP_DEST j)
        (s.dev.get .MAP_CFG_TY j % 4 + 1) (if ok then 0 else 1) (if s.dev.on .x_STNRX (8 * k + src) then s.dev.mapValue k m else 0) tc))) ∧
    (s.dev.held 2 = false →
      exec (.symbolLockChange k x) s = .next (s.setDev (s.dev.put .OL_STAT_LINKUP k (if x then 1 else 0))) ∧
      (s.dev.olSends k = false →
        exec (.framePassThrough k bytes) s = .next (s.setDev { s.dev with olFrame := natSet [] k.val (bytes.map BitVec.toNat) s.dev.olFrame }))) ∧
    (s.dev.olSends k = true → exec (.framePassThrough k bytes) s = .next s)

/-- R255 to R262: Ethernet. A good frame with an accepted address becomes a packet of RXQ, or is lost; others count in RXERR or RXFILT. The lowest-numbered
queue whose head may go is sent, a bad packet is consumed; a stamp asked for goes to the stamp queue when the frame has left. SWAP waits for its list start.
Rests on log entries 3, 92, 94, 95. -/
def Obligations.EthernetPorts : Prop :=
  ∀ (s : State) (p : Fin 4) (bytes : List (BitVec 8)) (fcs : Bool) (age : BitVec 32),
    (s.dev.fieldOn = true → s.dev.on .ETH_CFG_EN p = true →
      let b := bytes.map BitVec.toNat
      let hi := s.dev.get .ETH_MACHI p
      let mac := [hi / 256, hi % 256] ++ (leBytes 4 (s.dev.get .ETH_MACLO p)).reverse
      let accepted := s.dev.on .ETH_CFG_PROMISC p = true ∨ b.take 6 = mac ∨ b.getD 0 0 % 2 = 1
      let good := fcs = true ∧ 64 ≤ bytes.length + 4 ∧ bytes.length + 4 ≤ 1522
      let stamp := s.dev.stampAt (s.dev.get .ETH_CFG_TBSEL p) (-(age.toNat : Int)) (s.dev.sget .ETH_LAT_RXLAT p)
      let items := [stamp / 10 ^ 9 % 2 ^ 48, stamp % 10 ^ 9 * 2 ^ 32 + bytes.length % 2 ^ 11] ++ bytesToItems b
      let r := s.dev.qputPacket (s.dev.get .ETH_CFG_RXQ p) items
      let is := fun (d : Dev) => exec (.ethFrameReceived p bytes fcs age) s = .next (s.setDev d)
      (good → accepted →
        let e := if r.1 then r.2.bump .ETH_RXOK p 1 else r.2.bump .ETH_RXLOST p 1
        let t := e.tbAt 0 (-(age.toNat : Int)) / tbUnit
        is (e.tapEvent (0x200 + p) bytes.length (t / 1000) (t % 1000 / 4))) ∧
      (good → ¬accepted → is (s.dev.bump .ETH_RXFILT p 1)) ∧
      (¬good → ¬accepted → is (s.dev.bump .ETH_RXERR p 1)) ∧
      (¬good → accepted → is ((s.dev.writeAndRewind (s.dev.get .ETH_CFG_RXQ p) items).bump .ETH_RXERR p 1))) ∧
    (s.dev.fieldOn = true → s.dev.on .ETH_CFG_EN p = true → s.dev.on .x_ETH_BUSY p = false → s.dev.get .x_ETH_TXI p ≤ s.dev.now →
      (∀ t q, t < 8 → (∀ j, j < t → s.dev.tqHead p j = 0) → s.dev.tqMap p t = some q → s.dev.on .ETH_CFG_GEN p = false →
        let items := s.dev.qpeek q
        let w := items.headD 0
        let len := w % 2 ^ 11
        let byte := s.dev.ethByte p
        items ≠ [] →
        (ethBad items = false →
          ∃ u x, exec (.ethFrameTransmit p) s = .next u ∧ mapFind p.val u.dev.ethTx = some x ∧ u.dev.get .x_ETH_BUSY p = 1 ∧
            u.dev.get .x_ETH_TXI p = s.dev.now + (20 + (max len 60 + 4)) * byte ∧ x.fin = s.dev.now + (8 + (max len 60 + 4)) * byte ∧
            x.stamp = s.dev.stampAt (s.dev.get .ETH_CFG_TBSEL p) ((8 * byte / 4 : Nat) : Int) (s.dev.sget .ETH_LAT_TXLAT p) ∧
            x.tsid = w / 2 ^ 48 % 2 ^ 16 ∧ x.tsreq = decide (w / 2 ^ 47 % 2 = 1) ∧ u.dev.queues = (s.dev.qtakePacket q).queues ∧
            (60 ≤ len → w / 2 ^ 46 % 2 = 0 →
              let raw := (itemBytes (items.drop 1)).take len
              x.bytes = raw ++ leBytes 4 (crc32 raw))) ∧
        (ethBad items = true →
          ∃ u, exec (.ethFrameTransmit p) s = .next u ∧ u.dev.get .ETH_TXBAD p = (s.dev.get .ETH_TXBAD p + 1) % 2 ^ 32 ∧ u.dev.ethTx = s.dev.ethTx ∧
            u.dev.get .x_ETH_BUSY p = 0 ∧ u.dev.queues = (s.dev.qtakePacket q).queues)) ∧
      ((∀ t, t < 8 → s.dev.tqHead p t ≠ 1 ∧ s.dev.tqHead p t ≠ 2) →
        exec (.ethFrameTransmit p) s = .next (s.setDev (s.dev.put .ETH_GCL_STUCK p
          (s.dev.get .ETH_GCL_STUCK p ||| sumBelow 8 (fun t => if s.dev.tqHead p t = 4 then 2 ^ t else 0)))))) ∧
    (∀ x, s.dev.fieldOn = true → s.dev.on .x_ETH_BUSY p = true → mapFind p.val s.dev.ethTx = some x →
      (s.dev.now < x.fin → exec (.ethFrameTransmitEnd p) s = .next s) ∧
      (x.fin ≤ s.dev.now →
        let d := s.dev.puts [(.x_ETH_BUSY, p, 0), (.ETH_TXOK, p, s.dev.get .ETH_TXOK p + 1)]
        let e := if !x.tsreq then d else if (s.dev.tsq p).length < 16 then d.setTsq p (s.dev.tsq p ++ [(x.tsid, x.stamp)])
          else d.puts [(.ETH_TSSTAT_TSLOST, p, s.dev.get .ETH_TSSTAT_TSLOST p + 1), (.ETH_TSSTAT_TSOVF, p, 1)]
        exec (.ethFrameTransmitEnd p) s = .next (s.setDev
          (if x.stamped then e.tapEvent (0x210 + p) x.tsid (x.point / 1000) (x.point % 1000 / 4) else e)))) ∧
    (s.dev.fieldOn = true →
      exec (.gateControlEntry p) s = .next (s.setDev (s.dev.put .x_ETH_GATE p (s.dev.gateSeg p (s.dev.ethNow p)).1)) ∧
      (s.dev.on .x_ETH_LON p = false → s.dev.on .ETH_GCL_PEND p = false →
        exec (.gateControlEntry p) s = .next (s.setDev (s.dev.put .x_ETH_GATE p 255)))) ∧
    (s.dev.held 2 = false →
      (s.dev.on .ETH_GCL_PEND p = true → exec (.swap p) s = .next s) ∧
      (s.dev.on .ETH_GCL_PEND p = false →
        exec (.swap p) s = .next (s.setDev (s.dev.puts [(.ETH_GCL_SWAP, p, 1), (.ETH_GCL_PEND, p, 1), (.x_ETH_SWF, p,
          if s.dev.on .x_ETH_LON p then listStart (s.dev.get .x_ETH_BASE p) (max 1 (s.dev.get .ETH_CYC p)) (s.dev.ethNow p) else s.dev.ethNow p)])))) ∧
    (s.dev.fieldOn = true → s.dev.on .ETH_GCL_PEND p = true →
      (s.dev.ethNow p < s.dev.swapAt p → exec (.gclSwapTakesEffect p) s = .next s) ∧
      (s.dev.swapAt p ≤ s.dev.ethNow p →
        ∃ u, exec (.gclSwapTakesEffect p) s = .next u ∧ u.dev.get .ETH_GCL_LSEL p = 1 - s.dev.get .ETH_GCL_LSEL p ∧
          u.dev.get .ETH_CYC p = s.dev.get .ETH_NCYC p % 2 ^ 32 ∧ u.dev.get .ETH_GCL_PEND p = 0 ∧ u.dev.get .ETH_GCL_SWAP p = 0 ∧
          u.dev.get .x_ETH_BASE p = s.dev.swapAt p ∧ u = s.setDev { s.dev with regs := u.dev.regs })) ∧
    (s.dev.held 2 = false → ∀ v : Fin 3,
      exec (.sgmiiLinkChange p true v) s = .next (s.setDev (s.dev.puts [(.ETH_CFG_LINKUP, p, 1), (.ETH_CFG_SPEED, p, v)])) ∧
      exec (.sgmiiLinkChange p false v) s = .next (s.setDev (s.dev.put .ETH_CFG_LINKUP p 0)))

/-- R267 to R273: CAN FD. A write to TXREQ requests a buffer, ends it refused under LISTEN, or is ignored; a cancel ends a request, or waits for the frame in
progress. The requested buffer that wins arbitration starts; its end is a RESULT, a lost arbitration, or an error with its counters. A valid frame is filtered
into RXQ. Above 255 TEC the controller is bus-off until RECOV. Basic cycles and columns serve the matrix.
Rests on log entries 3, 23, 97, 98, 99, 100. -/
def Obligations.CanControllers : Prop :=
  ∀ (s : State) (c : Fin 4) (n : Fin 32),
    let g := fun f : F => s.dev.get f c
    let is := fun (i : Instr) (d : Dev) => exec i s = .next (s.setDev d)
    let b := 32 * c.val + n.val
    let one := BitVec.ofNat 32 (2 ^ n.val)
    let state := fun (tec rec : Nat) => (F.CAN_ERR_STATE, c.val, if 127 < tec ∨ 127 < rec then 1 else 0)
    (s.dev.held 2 = false →
      (s.dev.canReq c n = true ∨ s.dev.canNamed c n = true → exec (.txreq c one) s = .next s) ∧
      (s.dev.canReq c n = false → s.dev.canNamed c n = false →
        (s.dev.on .CAN_CFG_LISTEN c = true → is (.txreq c one) (s.dev.canEnd c n 6)) ∧
        (s.dev.on .CAN_CFG_LISTEN c = false → is (.txreq c one) (s.dev.puts [(.CAN_TXREQ, c, g .CAN_TXREQ ||| 2 ^ n.val), (.x_CAN_SOF, b, 0)]))) ∧
      (s.dev.canReq c n = true → g .x_CAN_CUR = n + 1 → is (.txcan c 0#32 one) (s.dev.put .CAN_TXCAN c (g .CAN_TXCAN ||| 2 ^ n.val))) ∧
      (s.dev.canReq c n = true → g .x_CAN_CUR ≠ n + 1 →
        is (.txcan c 0#32 one) (s.dev.canEnd c n 3) ∧
        (s.dev.on .CAN_NOTE_NOTE c = false →
          ∃ u, exec (.txcan c 0#32 one) s = .next u ∧ u.dev.get .CAN_TXREQ c = (g .CAN_TXREQ &&& (2 ^ 32 - 1 - 2 ^ n.val)) % 2 ^ 32 ∧
            u.dev.get .CAN_TXFAIL c = (g .CAN_TXFAIL ||| 2 ^ n.val) % 2 ^ 32 ∧ u.dev.get .CAN_TXOK c = g .CAN_TXOK ∧
            u.dev.rd (canBuf c n + 8) 4 = 3 * 2 ^ 29)) ∧
      (g .CAN_ERR_STATE = 2 → is (.recov c) (s.dev.put .CAN_ERR_RECOV c 1)) ∧ (g .CAN_ERR_STATE ≠ 2 → exec (.recov c) s = .next s)) ∧
    (s.dev.fieldOn = true → g .CAN_ERR_STATE = 2 → s.dev.on .CAN_ERR_RECOV c = true →
      is (.busOffRecoveryComplete c) (s.dev.puts [(.CAN_ERR_STATE, c, 0), (.CAN_ERR_RECOV, c, 0), (.CAN_ERR_TEC, c, 0), (.CAN_ERR_REC, c, 0)])) ∧
    (s.dev.canOn c = true → g .CAN_ERR_TEC < 256 → g .CAN_ERR_REC < 256 →
      (∀ tdcv, s.dev.on .CAN_CFG_LISTEN c = false → g .x_CAN_CUR = 0 → s.dev.on .CAN_CFG_TTEN c = false → g .x_CAN_TTB = 0 → s.dev.canReq c n = true →
        (∀ m, m < 32 → m ≠ n.val → s.dev.canReq c m = true → s.dev.canKey c n < s.dev.canKey c m ∨ (s.dev.canKey c n = s.dev.canKey c m ∧ n.val < m)) →
        (s.dev.canW1 c n / 2 ^ 31 = 1 → s.dev.on .CAN_CFG_FDEN c = false → is (.canTransmitStart c tdcv) (s.dev.canEnd c n 6)) ∧
        (s.dev.canW1 c n / 2 ^ 31 ≠ 1 ∨ s.dev.on .CAN_CFG_FDEN c = true → s.dev.on .CAN_DBT_TDCEN c = false →
          is (.canTransmitStart c tdcv) (s.dev.puts [(.x_CAN_CUR, c, n + 1), (.x_CAN_CURT, c, 0),
            (.x_CAN_SOF, b, s.dev.tbNs (g .CAN_CFG_TBSEL) % 10 ^ 9 + 1), (.x_CAN_SOFT, b, s.dev.now)]))) ∧
      (g .x_CAN_CUR = n + 1 → s.dev.on .CAN_CFG_LOOPB c = false →
        let d := s.dev.puts [(.x_CAN_CUR, c, 0), (.x_CAN_CURT, c, 0)]
        is (.canTransmitEnd c false) ((d.puts [(.CAN_ERR_TEC, c, g .CAN_ERR_TEC - 1), state (g .CAN_ERR_TEC - 1) (g .CAN_ERR_REC)]).canEnd c n
          (if s.dev.canCancelled c n then 2 else 1)) ∧
        (s.dev.canCancelled c n = true → is (.canTransmitEnd c true) (d.canEnd c n 3)) ∧
        (s.dev.canCancelled c n = false →
          (s.dev.on .CAN_CFG_ONESHOT c = true ∨ s.dev.on .x_CAN_CURT c = true → is (.canTransmitEnd c true) (d.canEnd c n 4)) ∧
          (s.dev.on .CAN_CFG_ONESHOT c = false → s.dev.on .x_CAN_CURT c = false → is (.canTransmitEnd c true) d))) ∧
      (∀ (xtd rtr : Bool) (id : BitVec 29) (fdf brs esi : Bool) (dlc : BitVec 4) (data : List (BitVec 8)) (age : BitVec 32),
        s.dev.on .CAN_CFG_LOOPB c = false → fdf = false ∨ s.dev.on .CAN_CFG_FDEN c = true → g .CAN_ERR_REC ≤ 127 →
        let i := Instr.canFrameReceived c xtd rtr id fdf brs esi dlc data age
        let f : CanFrame := { xtd := xtd, rtr := rtr, id := id.toNat, fdf := fdf, brs := brs, esi := esi, loop := false, dlc := dlc.toNat,
                              data := data.map BitVec.toNat }
        let d := if s.dev.on .CAN_CFG_LISTEN c then s.dev
          else s.dev.puts [(.CAN_ERR_REC, c, g .CAN_ERR_REC - 1), state (g .CAN_ERR_TEC) (g .CAN_ERR_REC - 1)]
        let hit := fun k : Nat => s.dev.on .CAN_FID_EN (16 * c + k) = true ∧ s.dev.get .CAN_FID_XTD (16 * c + k) = (if xtd then 1 else 0) ∧
          (id.toNat ^^^ s.dev.get .CAN_FID_FID (16 * c + k)) &&& s.dev.get .CAN_FMSK (16 * c + k) = 0
        let accepted := (∀ k, k < 16 → s.dev.on .CAN_FID_EN (16 * c + k) = false) ∨ ∃ k, k < 16 ∧ hit k
        (¬accepted → is i (d.bump .CAN_RXFILT c 1)) ∧
        (accepted →
          let r := d.qputPacket (g .CAN_CFG_RXQ) (f.items (s.dev.stampAt (g .CAN_CFG_TBSEL) (-(age.toNat : Int)) 0))
          let e := if r.1 then r.2.bump .CAN_RXOK c 1 else r.2.bump .CAN_RXLOST c 1
          let t := e.tbAt 0 (-(age.toNat : Int)) / tbUnit
          is i (e.tapEvent (0x300 + c) (id.toNat + if xtd then 2 ^ 31 else 0) (t / 1000) (t % 1000 / 4)))) ∧
      (∀ (lec : Fin 6) (dom : Bool),
        let d := s.dev.put .CAN_ERR_LEC c (lec.val + 1)
        let i := Instr.canBusError c lec dom
        (s.dev.on .CAN_CFG_LISTEN c = true → is i d) ∧
        (s.dev.on .CAN_CFG_LISTEN c = false → g .x_CAN_CUR = 0 →
          let r := min 255 (g .CAN_ERR_REC + if dom then 9 else 1)
          is i (d.puts [(.CAN_ERR_REC, c, r), state (g .CAN_ERR_TEC) r])) ∧
        (s.dev.on .CAN_CFG_LISTEN c = false → g .x_CAN_CUR = n + 1 → s.dev.canCancelled c n = false → s.dev.on .CAN_CFG_ONESHOT c = false →
          s.dev.on .x_CAN_CURT c = false →
          let e := d.puts [(.x_CAN_CUR, c, 0), (.x_CAN_CURT, c, 0)]
          (dom = true → is i e) ∧
          (dom = false → g .CAN_ERR_TEC + 8 ≤ 255 → is i (e.puts [(.CAN_ERR_TEC, c, g .CAN_ERR_TEC + 8), state (g .CAN_ERR_TEC + 8) (g .CAN_ERR_REC)])) ∧
          (dom = false → 255 < g .CAN_ERR_TEC + 8 →
            ∃ u, exec i s = .next u ∧ u.dev.get .CAN_ERR_STATE c = 2 ∧ u.dev.get .CAN_ERR_TEC c = 255 ∧ ∀ m, m < 32 → u.dev.canReq c m = false))) ∧
      (s.dev.on .CAN_CFG_TTEN c = true → g .x_CAN_TTB = 0 →
        (∀ (v : BitVec 6) (age : BitVec 32), s.dev.on .CAN_CFG_TTMASTER c = false →
          let t := s.dev.tbAt 0 (-(age.toNat : Int)) / tbUnit
          is (.basicCycleStart c v age) (s.dev.puts [(.CAN_TTSTAT_CYCLE, c, v.toNat), (.x_CAN_BCA, c, 1), (.x_CAN_BCT, c, t), (.x_CAN_COLN, c, 0),
            (.CAN_TTSTAT_SYNC, c, 1), (.x_CAN_REFT, c, t)])) ∧
        (∀ (v : BitVec 6) (age : BitVec 32) (m : Nat), s.dev.on .CAN_CFG_TTMASTER c = true → dueTick s.dev.now (max 1 (g .CAN_TT_BCYC)) 0 0 = some m →
          g .x_CAN_BCD ≤ m →
          ∃ u, exec (.basicCycleStart c v age) s = .next u ∧ u.dev.get .CAN_TTSTAT_CYCLE c = g .x_CAN_NB % 64 ∧ u.dev.get .x_CAN_BCT c = m * 1000 ∧
            u.dev.get .x_CAN_TTB c = (g .CAN_TT_REFBUF + 1) % 64 ∧ u.dev.get .x_CAN_NB c = (g .x_CAN_NB + 1) % (g .CAN_TT_NCYC + 1) % 64 ∧
            (u.dev.byte (canBuf c (g .CAN_TT_REFBUF) + 16)).toNat % 64 = g .x_CAN_NB % 64) ∧
        (let col := g .x_CAN_COLN
         let x := s.dev.canCell c (g .CAN_TTSTAT_CYCLE) col
         s.dev.on .x_CAN_BCA c = true → col < 32 → s.dev.colOfs c col ≠ 0xFFFF → g .x_CAN_BCT + 1000 * s.dev.colOfs c col ≤ s.dev.now →
          (x / 64 = 1 ∨ x / 64 = 2 →
            is (.columnStart c) (s.dev.puts [(.x_CAN_COLN, c, col + 1), (.x_CAN_TTB, c, x % 32 + 1), (.x_CAN_TTK, c, x / 64)])) ∧
          (x / 64 ≠ 1 → x / 64 ≠ 2 → is (.columnStart c) (s.dev.put .x_CAN_COLN c (col + 1)))) ∧
        (s.dev.on .CAN_CFG_TTMASTER c = false → g .x_CAN_REFT + 1100 * g .CAN_TT_BCYC ≤ s.dev.now →
          is (.missref c) (s.dev.puts [(.CAN_TTSTAT_MISSREF, c, 1), (.CAN_TTSTAT_SYNC, c, 0), (.x_CAN_BCA, c, 0)]))))

/-- R275 to R283: the PCIe endpoint and the xSPI port. Host queues move one item at a time and post DEV; a vector is sent once per tick; loss of the link
disables the host queues. xSPI operations read, program erased bytes and erase; a refused one touches nothing.
Rests on log entries 3, 47, 101, 102, 139, 140. -/
def Obligations.HostPorts : Prop :=
  ∀ (s : State) (h : Fin 32) (v : Word) (item : DWord) (x : Fin 34) (gen width : Fin 3) (len : BitVec 16) (off : BitVec 30) (blen : BitVec 13)
    (data : List (BitVec 8)),
    let g := fun f : F => s.dev.get f h
    let is := fun (i : Instr) (d : Dev) => exec i s = .next (s.setDev d)
    let ring := g .HQ_RING_LO + 2 ^ 32 * g .HQ_RING_HI
    let places := 2 ^ g .HQ_CFG_RSZ
    let q := g .HQ_CFG_QUEUE
    (s.dev.held 2 = false →
      (let held := if s.dev.on .HQ_CFG_DIR h then (v.toNat + 2 ^ 32 - g .HQ_DEV) % 2 ^ 32 else (g .HQ_DEV + 2 ^ 32 - v.toNat) % 2 ^ 32
       (places < held → is (.hostWrite h v) (s.dev.put .HQ_CFG_HOSTERR h 1)) ∧ (held ≤ places → is (.hostWrite h v) (s.dev.put .HQ_HOST h v.toNat))) ∧
      is (.pcieLinkTrained gen width) (s.dev.puts [(.PCIE_STAT_LINKUP, 0, 1), (.PCIE_STAT_GEN, 0, gen.val + 1), (.PCIE_STAT_WIDTH, 0, 2 ^ width.val)]) ∧
      (∃ u, exec .perstN s = .next u ∧ u.dev.get .PCIE_STAT_LINKUP 0 = 0 ∧ (∀ k, k < 32 → u.dev.get .HQ_CFG_EN k = 0) ∧
        (∀ k, k < 34 → u.dev.get .x_MSI_PEND k = 0) ∧ u.dev.get .DCS_CFG_EN 0 = (if s.dev.on .DCS_CFG_DST 0 then s.dev.get .DCS_CFG_EN 0 else 0))) ∧
    (s.dev.fieldOn = true → s.dev.on .PCIE_STAT_LINKUP 0 = true →
      (s.dev.on .HQ_CFG_EN h = true →
        let moved := fun (e : Dev) (l : List (Nat × Nat × Nat)) => ∃ u, exec (.hostQueueTransfer h item) s = .next u ∧ u.dev.queues = e.queues ∧
          u.dev.get .HQ_DEV h = (g .HQ_DEV + 1) % 2 ^ 32 ∧ u.dev.get .x_MSI_PEND h = 1 ∧
          u.dev.hostOut = s.dev.hostOut ++ l ++ [((ring + 8 * places) % 2 ^ 64, 4, (g .HQ_DEV + 1) % 2 ^ 32)]
        (s.dev.on .HQ_CFG_DIR h = true → g .HQ_DEV ≠ g .HQ_HOST → (s.dev.queue q).level + (s.dev.queue q).unc < s.dev.qcap q →
          moved (s.dev.qstore q item.toNat) []) ∧
        (s.dev.on .HQ_CFG_DIR h = false → s.dev.hqAhead h < places → 0 < (s.dev.queue q).level →
          moved (s.dev.qtake q).2.2 [((ring + 8 * (g .HQ_DEV % places)) % 2 ^ 64, 8, (s.dev.qtake q).1)]) ∧
        (s.dev.on .HQ_CFG_DIR h = true → g .HQ_DEV = g .HQ_HOST → exec (.hostQueueTransfer h item) s = .next s)) ∧
      (s.dev.on .x_MSI_PEND x = true → x.val = 33 ∨ s.dev.get .x_MSI_T x ≠ s.dev.tick + 1 →
        is (.msixVector x) (s.dev.puts [(.x_MSI_PEND, x, 0), (.x_MSI_T, x, s.dev.tick + 1), (.x_MSI_SENT, x, s.dev.get .x_MSI_SENT x + 1)])) ∧
      (x.val ≠ 33 → s.dev.get .x_MSI_T x = s.dev.tick + 1 → exec (.msixVector x) s = .next s)) ∧
    (s.dev.regOpen 2 = true → s.dev.held 2 = false → s.dev.on .XSPI_STAT_BUSY 0 = false →
      let a := s.dev.get .XSPI_ADDR 0
      let b := s.dev.get .XSPI_BUF_LO 0 + 2 ^ 32 * s.dev.get .XSPI_BUF_HI 0
      let d := fun (op l : Nat) => s.dev.puts [(.XSPI_CTL_OP, 0, op), (.XSPI_CTL_LEN, 0, l)]
      let refused := fun (e : Dev) (err : Nat) => e.puts [(.XSPI_CTL_GO, 0, 0), (.XSPI_STAT_ERR, 0, err)]
      let n := len.toNat + 1
      let same := s.dev.get .XSPI_CTL_LEN 0
      let erases := fun (i : Instr) (op size : Nat) =>
        let e := d op same
        let a := a / size * size
        (s.dev.touchesActive a size = true → is i (refused e 1)) ∧
        (s.dev.touchesActive a size = false → ∃ u, exec i s = .next u ∧ u.dev.get .XSPI_STAT_BUSY 0 = 1 ∧ u.dev.mem = s.dev.mem ∧
          ∀ k, u.dev.fbyte k = if a ≤ k ∧ k < a + size then 0xFF else s.dev.fbyte k)
      (firstBufErr true b n = none → a + n ≤ 2 ^ 30 → (∀ k, k < n → inMem (b + k) = true ∧ s.dev.areaOpen (b + k) = true) →
        is (.xspiRead len) ((forN n (fun e k => e.memWrite (b + k) 1 (s.dev.fbyte (a + k))) (d 1 len.toNat)).put .XSPI_STAT_BUSY 0 1)) ∧
      (s.dev.touchesActive a n = true → is (.xspiProgram len) (refused (d 2 len.toNat) 1)) ∧
      (s.dev.touchesActive a n = false → a / 256 ≠ (a + n - 1) / 256 → is (.xspiProgram len) (refused (d 2 len.toNat) 2)) ∧
      (s.dev.touchesActive a n = false → a / 256 = (a + n - 1) / 256 → firstBufErr false b n = none → (∀ k, k < n → inMem (b + k) = true) →
        ∃ u, exec (.xspiProgram len) s = .next u ∧ u.dev.get .XSPI_STAT_BUSY 0 = 1 ∧ u.dev.mem = s.dev.mem ∧
          (∀ k, k < n → s.dev.fbyte (a + k) = 0xFF → u.dev.fbyte (a + k) = (s.dev.byte (b + k)).toNat) ∧
          ∀ k, k < a ∨ a + n ≤ k → u.dev.fbyte k = s.dev.fbyte k) ∧
      erases .xspiEraseSector 3 0x1000 ∧ erases .xspiEraseBlock 4 0x10000) ∧
    (s.dev.held 2 = false → s.dev.on .XSPI_STAT_BUSY 0 = true →
      is .xspiDone (s.dev.puts [(.XSPI_STAT_BUSY, 0, 0), (.XSPI_STAT_DONE, 0, 1)])) ∧
    (s.dev.chipOn = false ∨ s.dev.held 2 = true ∨ s.dev.on .PCIE_STAT_LINKUP 0 = false → ∀ x y, exec (.pcieBarAccess x y off blen data) s = .next s) ∧
    (s.dev.chipOn = true → s.dev.held 2 = false → s.dev.on .PCIE_STAT_LINKUP 0 = true →
      let o := off.toNat % 0x4000000
      let a := s.dev.get .PCIE_AP (o / 0x1000000) * 0x1000000 + o % 0x1000000
      let b := s.dev.get .PCIE_B2 0 * 2 ^ 30 + off.toNat
      let n := blen.toNat
      let reads := fun (x : Bool) (at_ m : Nat) => ∃ u, exec (.pcieBarAccess x false off blen data) s = .next u ∧ u.dev.get .x_CPL_CA 0 = 0 ∧
        u.dev.get .x_CPL_N 0 = m ∧ u.dev.get .x_CPL_VAL 0 = s.dev.rd at_ m ∧ u = s.setDev { s.dev with regs := u.dev.regs }
      (n ≠ 4 ∨ a % 4 ≠ 0 → ∀ y, ∃ u, exec (.pcieBarAccess false y off blen data) s = .next u ∧ u.dev.get .x_CPL_CA 0 = 1 ∧ u.dev.mem = s.dev.mem ∧
        u.dev.on .ACC_ERR_STICKY 0 = true) ∧
      (n = 4 → a % 4 = 0 → a + 4 ≤ 0x600000 → reads false a 4) ∧ (b + n ≤ 0x600000 → reads true b n) ∧
      (b + n ≤ 0x600000 → s.dev.on .x_RSTA 1 = false → ∃ u, exec (.pcieBarAccess true true off blen data) s = .next u ∧
        ∀ x, u.dev.byte x = if b ≤ x ∧ x < b + n then data.getD (x - b) 0#8 else s.dev.byte x))

/-! Time, capture and the log. -/

/-- R284 to R287: time bases. RATE takes a value in its range; SET and STEP are taken, or refused, and act at the second cycle after the write; SNAP copies the
four time bases of one instant.
Rests on log entry 3. -/
def Obligations.TimeBases : Prop :=
  ∀ (s : State) (k : Fin 4) (v : Word), s.dev.held 2 = false →
    let sec := s.dev.get .TB_NEW_SLO k + 2 ^ 32 * s.dev.get .TB_NEW_SHI k
    let ns := s.dev.get .TB_NEW_NS k
    let free_ := s.dev.on .TB_CTL_SET k = false ∧ s.dev.on .TB_CTL_STEP k = false ∧ (k ≠ 0 ∨ s.dev.held 0 = true)
    let way : Int := (sNat 64 sec * 10 ^ 9 + sNat 32 ns) * 2 ^ 32
    let canStep := free_ ∧ -999999999 ≤ sNat 32 ns ∧ sNat 32 ns ≤ 999999999 ∧ 0 ≤ (s.dev.tbAt k 2 : Int) + way
    let taken := fun f : F => s.setDev (s.dev.puts [(.x_TB_ACT, k, s.dev.get .x_CYC 0 + 2), (.x_TB_S, k, sec), (.x_TB_N, k, ns), (f, k, 1)])
    let refused := s.setDev (s.dev.put .TB_CTL_REJ k 1)
    ((v.toInt < -17179869 ∨ 17179869 < v.toInt) → exec (.rateWrite k v) s = .next s) ∧
    (-17179869 ≤ v.toInt → v.toInt ≤ 17179869 → k ≠ 0 ∨ (s.dev.get .PAIR_STAT_ROLE 0 ≠ 2 ∧ s.dev.get .PAIR_STAT_ROLE 0 ≠ 3) →
      exec (.rateWrite k v) s = .next (s.setDev (s.dev.put .TB_RATE k v.toNat))) ∧
    (free_ ∧ ns ≤ 999999999 → exec (.set_ k) s = .next (taken .TB_CTL_SET)) ∧ (¬(free_ ∧ ns ≤ 999999999) → exec (.set_ k) s = .next refused) ∧
    (canStep → exec (.step k) s = .next (taken .TB_CTL_STEP)) ∧ (¬canStep → exec (.step k) s = .next refused) ∧
    (s.dev.get .x_CYC 0 < s.dev.get .x_TB_ACT k → exec (.setStepActs k) s = .next s) ∧
    (s.dev.get .x_TB_ACT k ≤ s.dev.get .x_CYC 0 →
      let ps := s.dev.get .x_TB_S k
      let pn := s.dev.get .x_TB_N k
      let acts := fun t : Nat => ∃ u, exec (.setStepActs k) s = .next u ∧ u.dev.get .x_TBV k = t % (2 ^ 64 * 10 ^ 9 * 2 ^ 32) ∧
        u.dev.get .TB_CTL_SET k = 0 ∧ u.dev.get .TB_CTL_STEP k = 0 ∧ u = s.setDev { s.dev with regs := u.dev.regs }
      (s.dev.on .TB_CTL_STEP k = false → s.dev.on .TB_CTL_SET k = true → acts ((ps * 10 ^ 9 + pn) * 2 ^ 32)) ∧
      (s.dev.on .TB_CTL_STEP k = true → acts ((s.dev.get .x_TBV k : Int) + (sNat 64 ps * 10 ^ 9 + sNat 32 pn) * 2 ^ 32).toNat)) ∧
    (∃ u, exec .snap s = .next u ∧ u = s.setDev { s.dev with regs := u.dev.regs } ∧ ∀ j, j < 4 →
      let t := s.dev.get .x_TBV j / 2 ^ 32
      u.dev.get .SN_NS j = t % 10 ^ 9 ∧ u.dev.get .SN_SEC_LO j = t / 10 ^ 9 % 2 ^ 32 ∧ u.dev.get .SN_SEC_HI j = t / 10 ^ 9 / 2 ^ 32 % 2 ^ 32 ∧
      u.dev.get .SN_FRAC j = s.dev.get .x_TBV j % 2 ^ 32 / 2 ^ 16)

/-- R291 to R300: Delta capture. A matched copy is recorded, skipped, lost or counted idle, each counted in SEEN; a record is written to the unit's area; ARM,
FIRE, STOP, the two nets and a new segment move the unit's STATE; a full stream block is sent with credit.
Rests on log entries 3, 103, 104. -/
def Obligations.CaptureUnits : Prop :=
  ∀ (s : State) (u : Fin 8), s.dev.held 2 = false →
    let g := fun f : F => s.dev.get f u
    let is := fun (i : Instr) (d : Dev) => exec i s = .next (s.setDev d)
    let mark := fun (kind tap val t : Nat) => CapRec.mk u kind tap 0 0 val (t / 1000) (t % 1000 / 4)
    let timeMark := mark 4 u (s.dev.now / 1000 / 2 ^ 32) s.dev.now
    let R := 256 * (g .DC_MEM_SIZE + 1)
    let st := g .DC_STAT_STATE
    (s.dev.copies = [] → exec .tapCopy s = .next s) ∧
    (∀ (c : TapCopy) (t : List TapCopy), s.dev.copies = c :: t → c.unit = u.val →
      let d : Dev := { s.dev with copies := t }
      let seen := (F.DC_SEEN, u.val, g .DC_SEEN + 1)
      let i := 32 * u.val + c.tap
      (st = 0 ∨ st = 3 → is .tapCopy (d.puts [seen, (.DC_IDLE, u, g .DC_IDLE + 1)])) ∧
      (st = 1 → g .x_DC_GAP = 0 → g .x_DC_CLOSE = 0 → s.dev.on .TAP_CFG_TRIG i = false →
        (c.event = true → 64 ≤ s.dev.fifoLen u →
          is .tapCopy (d.puts [seen, (.DC_LOST, u, g .DC_LOST + 1), (.DC_STAT_OVF, u, 1), (.x_DC_LOSTN, u, min (2 ^ 32 - 1) (g .x_DC_LOSTN + 1))])) ∧
        (c.event = true → s.dev.fifoLen u < 64 → g .x_DC_LOSTN = 0 → g .x_DC_THI = s.dev.tick / 2 ^ 32 + 1 →
          is .tapCopy (({ d with capFifo := s.dev.capFifo ++ [CapRec.mk u 1 c.tap c.ty c.qual c.val c.tick c.phase] } : Dev).puts
            [seen, (.x_DC_SEQ, u, g .x_DC_SEQ + 1), (.x_DC_NPUT, u, g .x_DC_NPUT + 1), (.DC_REC, u, g .DC_REC + 1)])) ∧
        (c.event = false → s.dev.tapChanged i c = false → s.dev.get .TAP_KEEP i = 0 → is .tapCopy (d.puts [seen, (.DC_SKIP, u, g .DC_SKIP + 1)])))) ∧
    (∀ (r : CapRec) (t : List CapRec), s.dev.capFifo.filter (fun r => decide (r.unit = u.val)) = r :: t → r.kind < 5 → g .DC_CFG_MODE ≠ 1 →
      g .x_DC_STREAM = 0 → g .x_DC_CLOSE = 0 →
      let a := 0x20000000 + 4096 * g .DC_MEM_BASE + 16 * g .DC_WPTR
      ∃ x, exec (.captureFifoWrite u) s = .next x ∧ x.dev.capFifo = s.dev.capFifo.erase r ∧ x.dev.get .DC_WPTR u = (g .DC_WPTR + 1) % R % 2 ^ 19 ∧
        x.dev.rd a 8 = r.kind * 2 ^ 53 + r.tap % 32 * 2 ^ 48 + r.ty % 256 * 2 ^ 40 + r.qual % 256 * 2 ^ 32 + r.val % 2 ^ 32 ∧
        x.dev.rd (a + 8) 8 = (g .x_DC_SEQ - (t.length + 1)) % 2 ^ 24 * 2 ^ 40 + r.phase % 256 * 2 ^ 32 + r.tick % 2 ^ 32) ∧
    (s.dev.on .DC_CFG_EN u = false → is (.arm u) (s.dev.put .DC_STAT_REJ u 1)) ∧
    (s.dev.on .DC_CFG_EN u = true → g .DC_CFG_MODE = 0 →
      (R < g .DC_POST + 3 → is (.arm u) (s.dev.put .DC_STAT_REJ u 1)) ∧
      (g .DC_POST + 3 ≤ R → st = 1 ∨ st = 2 → exec (.arm u) s = .next s) ∧
      (g .DC_POST + 3 ≤ R → st = 0 ∨ st = 3 → (∀ r, r ∈ s.dev.capFifo → r.unit ≠ u.val) →
        ∃ x, exec (.arm u) s = .next x ∧ x.dev.get .DC_STAT_STATE u = 1 ∧ x.dev.get .DC_WPTR u = 0 ∧ x.dev.get .DC_STAT_SEG u = 0 ∧
          x.dev.capFifo = s.dev.capFifo ++ [timeMark])) ∧
    (g .x_DC_FT ≠ s.dev.now + 1 →
      (st = 0 ∨ st = 2 ∨ st = 3 → exec (.fire u) s = .next s) ∧
      (st = 1 → 0 < g .DC_POST →
        ∃ x, exec (.fire u) s = .next x ∧ x.dev.get .DC_STAT_STATE u = 2 ∧ x.dev.get .x_DC_LEFT u = g .DC_POST % 2 ^ 19 ∧
          x.dev.capFifo = s.dev.capFifo ++ [mark 3 0 1 s.dev.now, timeMark] ∧ x.dev.mem = s.dev.mem)) ∧
    is (.captureStop u) (s.dev.puts [(.DC_STAT_STATE, u, 3), (.x_DC_GAP, u, 0), (.x_DC_CLOSE, u, 0)]) ∧
    (∀ pin : Bool, (∀ w, w < 8 → s.dev.on .DC_CFG_LINK w = false) →
      is (.armNetChange pin) (s.dev.puts [(.x_CAP_APIN, 0, if pin then 1 else 0), (.x_CAP_ARM, 0, if pin || s.dev.armDriven then 1 else 0)])) ∧
    (s.dev.on .x_CAP_ARM 0 = true → s.dev.armDriven = false →
      ∃ x, exec (.armNetChange false) s = .next x ∧ ∀ w, w < 8 → s.dev.on .DC_CFG_LINK w = true → s.dev.on .DC_CFG_MASTER w = false →
        s.dev.get .DC_STAT_STATE w = 1 ∨ s.dev.get .DC_STAT_STATE w = 2 → x.dev.get .DC_STAT_STATE w = 3) ∧
    (s.dev.on .x_CAP_FIRE 0 = false → s.dev.fireDriven = false → (∀ w, w < 8 → w ≠ u.val → s.dev.on .DC_CFG_LINK w = false) →
      let e := s.dev.puts [(.x_CAP_FPIN, 0, 1), (.x_CAP_FIRE, 0, 1)]
      (s.dev.on .DC_CFG_LINK u = false ∨ st ≠ 1 → is (.fireNetAssertion true) e) ∧
      (s.dev.on .DC_CFG_LINK u = true → st = 1 → is (.fireNetAssertion true) (e.dcFire u 2 0 (s.dev.now - 12)))) ∧
    ((∀ w, w < 8 → s.dev.get .x_DC_FDRV w ≤ s.dev.now) →
      ∃ x, exec (.fireNetRelease true) s = .next x ∧ x.dev.get .x_CAP_FIRE 0 = 0 ∧ x.dev.get .x_CAP_FPIN 0 = 0 ∧ x.dev.fireDriven = false) ∧
    (g .x_DC_GAP ≠ 0 →
      ∃ x, exec (.segmentRearm u) s = .next x ∧ x.dev.get .DC_STAT_STATE u = 1 ∧ x.dev.get .DC_STAT_SEG u = (g .DC_STAT_SEG + 1) % 2 ^ 8 ∧
        x.dev.get .x_DC_GAP u = 0 ∧ x.dev.capFifo = s.dev.capFifo ++ [mark 5 0 (g .DC_STAT_SEG + 1) s.dev.now, timeMark]) ∧
    (s.dev.on .x_DC_STREAM u = true → g .x_DC_NPUT % 256 ≠ 0 →
      (s.dev.tick < g .x_DC_BT + s.dev.get .DCS_CFG_FLUSH 0 → exec (.streamFlush u) s = .next s) ∧
      (g .x_DC_BT + s.dev.get .DCS_CFG_FLUSH 0 ≤ s.dev.tick →
        ∃ x, exec (.streamFlush u) s = .next x ∧ x.dev.get .x_DC_NPUT u = (g .x_DC_NPUT / 256 + 1) * 256)) ∧
    (∀ b, s.dev.fieldOn = true → s.dev.on .DCS_CFG_EN 0 = true → s.dev.on .DCS_CFG_DST 0 = false → s.dev.on .PCIE_STAT_LINKUP 0 = true →
      s.dev.get .x_DCS_T 0 ≤ s.dev.now → s.dev.oldestBlock = some b →
      let places := 2 ^ s.dev.get .DCS_CFG_RSZ 0
      let dev := s.dev.get .DCS_DEV 0
      let ring := s.dev.get .DCS_RING_LO 0 + 2 ^ 32 * s.dev.get .DCS_RING_HI 0
      let ahead := (dev + 2 ^ 32 - s.dev.get .DCS_HOST 0) % 2 ^ 32
      (places ≤ ahead → exec .streamBlockSend s = .next s) ∧
      (ahead < places →
        ∃ x, exec .streamBlockSend s = .next x ∧ x.dev.get .DCS_DEV 0 = (dev + 1) % 2 ^ 32 ∧ x.dev.get .x_DCS_T 0 = s.dev.now + 2560 ∧
          x.dev.get .x_MSI_PEND 32 = 1 ∧ x.dev.dcReady = s.dev.dcReady.erase b ∧
          x.dev.hostOut = s.dev.hostOut ++ [((ring + 4096 * (dev % places)) % 2 ^ 64, 4096, s.dev.rd b.2.1 4096),
            ((ring + 4096 * places) % 2 ^ 64, 4, (dev + 1) % 2 ^ 32)])) ∧
    (∀ v : Word,
      let held := (s.dev.get .DCS_DEV 0 + 2 ^ 32 - v.toNat) % 2 ^ 32
      (2 ^ s.dev.get .DCS_CFG_RSZ 0 < held → is (.dcsHostWrite v) (s.dev.put .DCS_CFG_HOSTERR 0 1)) ∧
      (held ≤ 2 ^ s.dev.get .DCS_CFG_RSZ 0 → is (.dcsHostWrite v) (s.dev.put .DCS_HOST 0 v.toNat)))

/-- R304, R307 to R310, R321: the Sediment log. An event takes the next record, adds to the repeat count of a latest one, is held while the log is frozen or not
ready, or is counted where nothing can take it; flood and freeze begin and end as their rules say.
Rests on log entries 3, 25, 107, 108, 109. -/
def Obligations.SedimentLog : Prop :=
  ∀ (s : State) (e : Event) (t : List Event), s.dev.held 2 = false → (∀ w, w < 8 → s.dev.on .DC_CFG_SEDEN w = false) →
    let g := fun f : F => s.dev.get f 0
    let n := g .x_SED_USED
    let room := fun sev : Nat => g .SED_NEXT ≠ 0 ∧ (n < 4080 ∨ (n < 4096 ∧ sev = 3))
    let counted := fun (u : State) (f : F) => u.dev.get f 0 = (g f + 1) % 2 ^ 32
    let w := s.dev.tick / 1000
    (s.dev.events = [] → exec .logEvent s = .next s) ∧
    (s.dev.events = e :: t →
      (s.dev.on .SED_STAT_READY 0 = false →
        let d : Dev := { s.dev with events := t }
        (s.dev.errHold.length < 64 →
          exec .logEvent s = .next (s.setDev (Dev.put { d with errHold := s.dev.errHold ++ [e] } .ERR_HOLD_HELD 0 (s.dev.errHold.length + 1)))) ∧
        (64 ≤ s.dev.errHold.length → exec .logEvent s = .next (s.setDev (d.bumpSat .ERR_HOLD_EVLOST 0)))) ∧
      (s.dev.on .SED_STAT_READY 0 = true → s.dev.on .SED_STAT_FRZ 0 = true →
        ∃ u, exec .logEvent s = .next u ∧ counted u .SED_EVT ∧ u.dev.mem = s.dev.mem ∧ u.dev.events = t ∧
          (s.dev.sedHold.length < 64 → u.dev.sedHold = s.dev.sedHold ++ [e] ∧ u.dev.get .SED_HELD 0 = s.dev.sedHold.length + 1) ∧
          (64 ≤ s.dev.sedHold.length → u.dev.sedHold = s.dev.sedHold ∧ counted u .SED_FRZL)) ∧
      (s.dev.on .SED_STAT_READY 0 = true → s.dev.on .SED_STAT_FRZ 0 = false →
        ∃ u, exec .logEvent s = .next u ∧ counted u .SED_EVT ∧ u.dev.events = t ∧
          (∀ i, s.dev.sedRepeat e = some i →
            let a := 0x500A0000 + 32 * i + 24
            u.dev.rd a 4 = e.tick % 2 ^ 32 ∧ u.dev.rd (a + 4) 2 = s.dev.rd (a + 4) 2 + 1 ∧ counted u .SED_RPT ∧ u.dev.get .x_SED_USED 0 = n) ∧
          (s.dev.sedRepeat e = none →
            (g .SED_STAT_FLOOD = 0 ∨ e.sev = 3 → room e.sev →
              counted u .SED_NEW ∧ u.dev.get .x_SED_USED 0 = n + 1 ∧ u.dev.get .SED_STAT_USED 0 = n + 1 ∧
              u.dev.get .SED_NEXT 0 = (if g .SED_NEXT + 1 < 2 ^ 32 then g .SED_NEXT + 1 else 0) ∧
              ∀ j, j < 24 → u.dev.byte (0x500A0000 + 32 * n + j) = BitVec.ofNat 8 ((leBytes 4 (g .SED_NEXT) ++ leBytes 8 e.tick ++ [e.phase, e.sev % 4] ++
                leBytes 2 e.src ++ [e.code, 0, 0, 0] ++ leBytes 4 e.data).getD j 0)) ∧
            (g .SED_STAT_FLOOD = 0 ∨ e.sev = 3 → ¬room e.sev → counted u .SED_FULLD ∧ u.dev.mem = s.dev.mem) ∧
            (g .SED_STAT_FLOOD ≠ 0 → e.sev ≠ 3 → counted u .SED_FLD ∧ u.dev.mem = s.dev.mem)))) ∧
    (g .x_SED_WIN < w →
      (g .SED_STAT_FLOOD = 0 ∨ g .SED_CTL_FLOODN ≤ g .x_SED_WCNT →
        exec .floodWindowEnd s = .next (s.setDev (s.dev.puts [(.x_SED_WIN, 0, w), (.x_SED_WCNT, 0, 0)]))) ∧
      (g .SED_STAT_FLOOD ≠ 0 → g .x_SED_WCNT < g .SED_CTL_FLOODN → g .SED_STAT_FRZ ≠ 0 →
        ∃ u, exec .floodWindowEnd s = .next u ∧ u.dev.get .SED_STAT_FLOOD 0 = 0 ∧ u.dev.mem = s.dev.mem ∧
          u.dev.sedOwn = s.dev.sedOwn ++ [(Event.mk 1 0x0C02 0xF0 (g .x_SED_FN) (g .x_SED_FT0) (g .x_SED_FP0), g .x_SED_FT1)])) ∧
    (w ≤ g .x_SED_WIN → exec .floodWindowEnd s = .next s) ∧
    (g .SED_CTL_FREEZE = 0 →
      exec .freezeSet s = .next (s.setDev (s.dev.puts [(.SED_CTL_FREEZE, 0, 1), (.SED_STAT_FRZ, 0, 1), (.x_SED_FRT, 0, s.dev.tick)])) ∧
      exec .freezeClear s = .next s ∧ exec .freezeTimeout s = .next s) ∧
    (g .SED_CTL_FREEZE ≠ 0 →
      exec .freezeSet s = .next s ∧
      (g .x_SED_PF ≠ 0 → exec .freezeClear s = .next (s.setDev (s.dev.put .SED_CTL_FREEZE 0 0)) ∧ exec .freezeTimeout s = .next s) ∧
      (g .x_SED_PF = 0 → s.dev.sedOwn = [] →
        let d := Dev.put { s.dev.puts [(.SED_CTL_FREEZE, 0, 0), (.SED_STAT_FRZ, 0, 0)] with sedHold := [] } .SED_HELD 0 0
        exec .freezeClear s = .next (s.setDev (s.dev.sedHold.foldl Dev.sedHandle d)) ∧
        (s.dev.tick < g .x_SED_FRT + 1000000 → exec .freezeTimeout s = .next s) ∧
        (g .x_SED_FRT + 1000000 ≤ s.dev.tick → s.dev.sedHold = [] → room 0 →
          ∃ u, exec .freezeTimeout s = .next u ∧ u.dev.get .SED_CTL_FREEZE 0 = 0 ∧ u.dev.get .SED_STAT_FRZ 0 = 0 ∧ u.dev.get .SED_STAT_FRZTO 0 = 1 ∧
            u.dev.sedOwn = [] ∧ u.dev.get .x_SED_USED 0 = n + 1 ∧ (u.dev.byte (0x500A0000 + 32 * n + 16)).toNat = 0xF1))) ∧
    (g .SED_STAT_READY = 0 → s.dev.errHold = [] →
      exec .logReady s = .next (s.setDev (s.dev.puts [(.SED_STAT_READY, 0, 1), (.x_SED_WIN, 0, w), (.SED_STAT_USED, 0, n),
        (.SED_STAT_RESERVE, 0, if 4080 ≤ n then 1 else 0), (.SED_STAT_FULL, 0, if n = 4096 then 1 else 0), (.ERR_HOLD_HELD, 0, 0)])))

/-! Device pairs. -/

/-- R322 to R325, R329 to R334: roles of a pair. Heartbeats, the reactions to an active partner, to silence, to a resign and to a higher epoch, the hand-back
request and readmission; a takeover raises EPOCH and releases the device at the next tick.
Rests on log entries 3, 115, 116, 120, 121. -/
def Obligations.PairRoles : Prop :=
  ∀ (s : State) (n : Nat) (epoch : BitVec 32) (tb0 : Nat) (up pass : Bool) (role : Fin 5), s.dev.chipOn = true →
    let g := fun f : F => s.dev.get f 0
    let is := fun (i : Instr) (d : Dev) => exec i s = .next (s.setDev d)
    let r := g .PAIR_STAT_ROLE
    let pref := g .PAIR_CTL_PREF
    let above := fun m : Nat => if (m + 1) % 2 = pref then m + 1 else m + 2
    let next := above (max (g .PAIR_EPOCH) (g .x_PEPOCH)) % 2 ^ 32
    (dueTick s.dev.now 50 0 0 = some n → g .x_HB_T ≤ n →
      (r = 1 ∨ ((r = 2 ∨ r = 3) ∧ g .x_PFQ = 0) → is .heartbeat (s.dev.put .x_HB_T 0 (n + 1))) ∧ (r = 0 ∨ r = 4 → exec .heartbeat s = .next s)) ∧
    (g .PAIR_CTL_EN ≠ 0 →
      (dueTick s.dev.now 50 0 2001 = some n → 1 ≤ r → r ≤ 3 → g .x_HB_RX ≤ n → g .x_HB_MD ≤ n →
        let m := min 3 (g .x_HB_MISS + 1)
        is .heartbeatMissed (s.dev.puts ([(.PAIR_STAT_HBOK, 0, 0), (.x_HB_MD, 0, n + 1), (.x_HB_MISS, 0, m)] ++
          if m = 3 ∧ r = 2 then [(.x_TO_CAUSE, 0, 1)] else []))) ∧
      (s.dev.now ≤ 50000 * n + 2000 → 50000 * n ≤ s.dev.now + 2000 →
        is .partnerHeartbeatReceived (s.dev.puts [(.PAIR_STAT_HBOK, 0, 1), (.x_HB_MISS, 0, 0), (.x_HB_RX, 0, 50 * n + 1)])) ∧
      (r = 0 → s.dev.on .PAIR_CTL_PREF 0 = up →
        is (.partnerActiveSeen up epoch tb0) (s.dev.puts [(.x_PEPOCH, 0, epoch.toNat), (.x_PARTNER, 0, 1), (.PAIR_STAT_PAIRERR, 0, 1)])) ∧
      (r = 0 → s.dev.on .PAIR_CTL_PREF 0 ≠ up →
        ∃ u, exec (.partnerActiveSeen up epoch tb0) s = .next u ∧ u.dev.get .PAIR_STAT_ROLE 0 = 3 ∧ u.dev.get .PAIR_STAT_CAUSE 0 = 7 ∧
          u.dev.get .x_PEPOCH 0 = epoch.toNat ∧ u.dev.get .x_TBV 0 = tb0 ∧ u.dev.get .PAIR_STAT_CLEAN 0 = 0) ∧
      (let due := g .x_PAIR_C0 + if s.dev.on .PAIR_CTL_PREF 0 then 2500000 else 5000000
       (g .x_CYC < due → exec .pairingTimeout s = .next s) ∧
       (due ≤ g .x_CYC → r = 0 → g .x_PARTNER ≠ 1 → g .PAIR_STAT_PAIRERR = 0 →
        ∃ u, exec .pairingTimeout s = .next u ∧ u.dev.get .PAIR_STAT_ROLE 0 = 1 ∧ u.dev.get .PAIR_STAT_CAUSE 0 = 7 ∧ u.dev.get .PAIR_EPOCH 0 = next)) ∧
      (r = 2 → is .resignMessage (s.dev.puts [(.x_PARTNER, 0, 4), (.x_TO_CAUSE, 0, 2)])) ∧ (r ≠ 2 → is .resignMessage (s.dev.put .x_PARTNER 0 4))) ∧
    (r = 2 ∨ r = 3 → ∃ u, exec .timeMessage s = .next u ∧ -17179869 ≤ u.dev.sget .TB_RATE 0 ∧ u.dev.sget .TB_RATE 0 ≤ 17179869 ∧ u.dev.mem = s.dev.mem) ∧
    (r = 1 → ∃ u, exec .resign s = .next u ∧ u.dev.get .PAIR_STAT_ROLE 0 = 4 ∧ u.dev.get .PAIR_STAT_CAUSE 0 = 2 ∧
      u.dev.pairOut = s.dev.pairOut ++ [.resign]) ∧
    (r ≠ 1 → exec .resign s = .next s) ∧
    (let e := max epoch.toNat (g .x_EPHI - 1)
     let d := s.dev.puts [(.x_EPHI, 0, 0), (.x_EPL, 0, 0)]
     let seenHere := g .x_PAIR_SU ≠ 0 ∧ epoch.toNat ≤ g .PAIR_EPOCH ∧ s.dev.get .x_OL_NCY (g .x_EPL - 1) ≤ 2
     let i := Instr.higherEpochReaction epoch
     (e ≤ g .PAIR_EPOCH → exec i s = .next s) ∧
     (g .PAIR_EPOCH < e →
      (r = 0 → is i (d.put .PAIR_EPOCH 0 (e + 1))) ∧ (r = 1 → seenHere → is i (d.put .PAIR_EPOCH 0 (above e))) ∧
      (r = 1 → ¬seenHere → ∃ u, exec i s = .next u ∧ u.dev.get .PAIR_STAT_ROLE 0 = 4 ∧ u.dev.get .PAIR_STAT_CAUSE 0 = 4))) ∧
    (g .PAIR_CTL_RMODE = 0 →
      (r = 2 → pref ≠ 0 → 10 ≤ g .x_CP_SB → g .x_HB_SENT = 0 →
        is .handBackRequest ({ s.dev.put .x_HB_SENT 0 1 with pairOut := s.dev.pairOut ++ [.handBack] })) ∧
      (r = 1 → pref = 0 → is .handBackRequest (s.dev.put .x_HB_REQ 0 1))) ∧
    (s.dev.session = true → r = 4 → is .pairReadmit (s.dev.puts [(.x_SVC_T, 0, g .x_CYC), (.PAIR_CTL_READMIT, 0, 1)])) ∧
    (s.dev.session = false ∨ r ≠ 4 → exec .pairReadmit s = .next s) ∧
    (g .PAIR_CTL_READMIT ≠ 0 →
      is (.pairSelfTestEnd false) (s.dev.puts [(.PAIR_CTL_READMIT, 0, 0), (.PAIR_STAT_TEST, 0, 2)]) ∧
      ∃ u, exec (.pairSelfTestEnd true) s = .next u ∧ u.dev.get .PAIR_STAT_ROLE 0 = 0 ∧ u.dev.get .PAIR_STAT_TEST 0 = 1) ∧
    (g .PAIR_CTL_READMIT = 0 → exec (.pairSelfTestEnd pass) s = .next s) ∧
    (r ≠ 1 ∨ role ≠ 3 ∨ g .x_PARTNER = 3 →
      is (.pairLinkChange up role) (s.dev.puts [(.PAIR_STAT_LINKUP, 0, if up then 1 else 0), (.x_PARTNER, 0, if up then role.val else 0)])) ∧
    (r = 2 → g .x_TO_CAUSE ≠ 0 → ∃ e : Dev, e.get .PAIR_STAT_ROLE 0 = 1 ∧ e.get .PAIR_STAT_CAUSE 0 = g .x_TO_CAUSE % 256 ∧ e.get .PAIR_EPOCH 0 = next ∧
      e.get .x_TO_WAIT 0 = 1 ∧ e.get .x_TO_TICK 0 = s.dev.tick ∧ e.get .x_HELD 0 = 0 ∧ e.net = [] ∧ e.banks = [] ∧ e.queues = [] ∧ e.plans = s.dev.plans ∧
      is .takeover (if e.held 2 then e else (forN 4 (fun d c => if d.on .CAN_CFG_EN c then d.canRestart c else d) e).attachUnits.fieldLines)) ∧
    (r ≠ 2 → exec .takeover s = .next s) ∧
    (g .x_TO_WAIT ≠ 0 → g .x_TO_TICK < s.dev.tick → (∀ c, c < 24 → s.dev.on .C_STAT_FAULTED c = false) → (∀ m, m < 64 → s.dev.on .x_CP_LIVE m = false) →
      (∀ a, a < 32 → s.dev.on .x_AX_ENG a = false) →
      ∃ u, exec .takeoverExecutionStart s = .next u ∧ u.dev.get .x_TO_WAIT 0 = 0 ∧ u = s.setDev { s.dev with regs := u.dev.regs } ∧
        ∀ k, k < 256 → s.dev.on .SLOT_CTL_EN k = true → u.dev.get .x_SLOT_FIRST k = s.dev.tick) ∧
    (s.dev.tick ≤ g .x_TO_TICK → exec .takeoverExecutionStart s = .next s)

/-- R326 to R328, R331, R334: checkpoints. One starts at a boundary unless one is in progress; an area flips between firings of its owner and sends its dirty
lines; the marker follows when every area has flipped; an acknowledgement commits, an abandoned one leaves its lines dirty; the standby applies an intact
checkpoint and discards another.
Rests on log entries 3, 117, 118, 119. -/
def Obligations.Checkpoints : Prop :=
  ∀ (s : State) (n : Nat) (i : Fin 384) (yes : Bool) (cp : Checkpoint), s.dev.chipOn = true →
    let g := fun f : F => s.dev.get f 0
    let is := fun (i : Instr) (d : Dev) => exec i s = .next (s.setDev d)
    let r := g .PAIR_STAT_ROLE
    (r ≠ 1 → exec .checkpointBoundary s = .next s ∧ exec (.areaFlip i) s = .next s ∧ exec .commitMarker s = .next s ∧
      exec (.checkpointAck yes) s = .next s ∧ exec (.checkpointAbandon yes) s = .next s) ∧
    (r = 1 →
      (dueTick s.dev.now (g .PAIR_CTL_MAJOR) 0 0 = some n → g .x_PFQ = 0 → g .x_CP_BD ≤ n →
        (g .CP_STAT_INPROG ≠ 0 → is .checkpointBoundary (s.dev.puts [(.x_CP_BD, 0, n + 1), (.PAIR_STAT_CLEAN, 0, 0)])) ∧
        (g .CP_STAT_INPROG = 0 →
          ∃ u l, exec .checkpointBoundary s = .next u ∧ u.dev.get .CP_BEGUN 0 = (g .CP_BEGUN + 1) % 2 ^ 32 ∧ u.dev.get .CP_STAT_INPROG 0 = 1 ∧
            u.dev.get .x_CP_BND 0 = n ∧ u.dev.mem = s.dev.mem ∧
            u.dev.pairOut = s.dev.pairOut ++ [.checkpointStart n, .fields l s.dev.plans s.dev.paths,
              .tasks ((List.range 64).filter (fun m => decide (s.dev.tstate m ≠ tsDormant)))] ∧
            ∀ f j, carriedField f = true → s.dev.get f j ≠ f.resetAt j → (f, j, s.dev.get f j) ∈ l)) ∧
      (∀ start len, g .CP_STAT_INPROG ≠ 0 → s.dev.on .x_CP_FLIP i = false → 256 ≤ i.val → s.dev.area i = some (start, len) →
        (s.dev.ownerIdle i = false → exec (.areaFlip i) s = .next s) ∧
        (s.dev.ownerIdle i = true → g .CP_STAT_FULL = 0 → g .x_CP_LINES + (areaLines start len).length ≤ 8192 →
          ∃ u vals, exec (.areaFlip i) s = .next u ∧ u.dev.get .x_CP_FLIP i = 1 ∧ u.dev.pairOut = s.dev.pairOut ++ [.area i vals] ∧
            (∀ l v, (l, v) ∈ vals ↔ l ∈ areaLines start len ∧ l ∈ s.dev.dirty ∧
              v = sumBelow 64 (fun j => (s.dev.byte (64 * l + j)).toNat * 256 ^ j)) ∧
            (∀ l, l ∈ u.dev.dirty ↔ l ∈ s.dev.dirty ∧ l ∉ areaLines start len) ∧ u.dev.mem = s.dev.mem)) ∧
      (let flipped := ∀ j, j < 384 → (s.dev.area j).isNone = true ∨ s.dev.on .x_CP_FLIP j = true
       g .CP_STAT_INPROG ≠ 0 → g .x_CP_MARK = 0 → g .x_HB_DRAIN = 0 →
        (flipped → is .commitMarker { s.dev.put .x_CP_MARK 0 (s.dev.tick + 1) with
          pairOut := s.dev.pairOut ++ [.marker (g .x_CP_BND) (g .PAIR_EPOCH)] }) ∧
        (¬flipped → exec .commitMarker s = .next s)) ∧
      (g .CP_STAT_INPROG ≠ 0 → g .x_CP_MARK ≠ 0 →
        ∃ u, exec (.checkpointAck yes) s = .next u ∧ u.dev.get .CP_COMMIT 0 = (g .CP_COMMIT + 1) % 2 ^ 32 ∧ u.dev.get .CP_STAT_INPROG 0 = 0 ∧
          u.dev.get .CP_TICK 0 = g .x_CP_BND % 2 ^ 32 ∧ u.dev.mem = s.dev.mem ∧
          u.dev.get .PAIR_STAT_CLEAN 0 = (if s.dev.tick < g .x_CP_BND + g .PAIR_CTL_MAJOR then min 10 (g .PAIR_STAT_CLEAN + 1) else 0) ∧
          (g .x_HB_DRAIN = 0 → u.dev.get .PAIR_STAT_ROLE 0 = 1 ∧ u.dev.get .x_PARTNER 0 = if yes then 2 else 3) ∧
          (g .x_HB_DRAIN ≠ 0 → u.dev.get .PAIR_STAT_ROLE 0 = 2 ∧ u.dev.get .PAIR_STAT_CAUSE 0 = 3 ∧ u.dev.get .x_HELD 0 = 1)) ∧
      (g .CP_STAT_INPROG ≠ 0 →
        (yes = true ∨ (g .x_CP_MARK ≠ 0 ∧ g .x_CP_MARK - 1 + 2 * g .PAIR_CTL_MAJOR ≤ s.dev.tick) →
          ∃ u, exec (.checkpointAbandon yes) s = .next u ∧ u.dev.get .CP_ABORT 0 = (g .CP_ABORT + 1) % 2 ^ 32 ∧ u.dev.get .CP_STAT_INPROG 0 = 0 ∧
            u.dev.get .CP_STAT_FULL 0 = 1 ∧ u.dev.get .PAIR_STAT_CLEAN 0 = 0 ∧ u.dev.pairOut = s.dev.pairOut ++ [.abandon] ∧ u.dev.carried = [] ∧
            ∀ l, l ∈ s.dev.carried ∨ l ∈ s.dev.dirty → l ∈ u.dev.dirty) ∧
        (yes = false → g .x_CP_MARK = 0 → exec (.checkpointAbandon yes) s = .next s))) ∧
    (r = 0 ∨ r = 1 ∨ r = 4 → exec (.checkpointApply cp) s = .next s) ∧
    (r = 2 ∨ r = 3 →
      (cp.intact = false →
        (r = 3 → is (.checkpointApply cp) (s.dev.puts [(.PAIR_STAT_CLEAN, 0, 0), (.x_CP_SB, 0, 0)])) ∧
        (r = 2 → ∃ u, exec (.checkpointApply cp) s = .next u ∧ u.dev.get .PAIR_STAT_ROLE 0 = 3 ∧ u.dev.mem = s.dev.mem)) ∧
      (∀ l v, cp.intact = true → s.dev.held 2 = true → cp.fields = [] → cp.lines = [(l, v)] → v < 2 ^ 512 →
        ∃ u, exec (.checkpointApply cp) s = .next u ∧ u.dev.pairOut = s.dev.pairOut ++ [.ack cp.boundary] ∧ u.dev.rd (64 * l) 64 = v ∧
          u.dev.plans = cp.plans ∧ u.dev.paths = cp.paths ∧ u.dev.get .x_PEPOCH 0 = cp.epoch % 2 ^ 32 ∧ u.dev.get .CP_TICK 0 = cp.boundary % 2 ^ 32 ∧
          (∀ f j, carriedField f = true → u.dev.get f j = f.resetAt j) ∧ (∀ m, m < 64 → u.dev.on .x_CP_LIVE m = cp.live.testBit m) ∧
          (r = 2 → cp.handBack = true → u.dev.get .x_TO_CAUSE 0 = 3)))

/-! Faults, resets, power, service and the safety region. -/

/-- R13, R18, R313 to R318: faults and spares. A faulted cell is retired and its firings are lost; C5 takes its place where the mirror is complete, else its slots
are disabled with REFUSE 0x02. Block faults retire the units of the block; a region fault becomes a device fault. Readmission and restoring need a session.
Rests on log entries 3, 110, 111, 112. -/
def Obligations.FaultsAndSpares : Prop :=
  ∀ (s : State) (c : Fin 24) (b : Fin 4) (n : Fin 64) (k : Fin 20) (r : Fin 3) (a : Fin 32) (cell : Fin 8) (ded ipar ms : Bool) (res : Fin 3),
    let is := fun (i : Instr) (d : Dev) => exec i s = .next (s.setDev d)
    let sb := c.val / 6
    (s.dev.held 0 = false →
      (s.dev.on .C_STAT_FAULTED c = true → exec (.cellFault (.loop c) ded ipar) s = .next s) ∧
      (s.dev.on .C_STAT_FAULTED c = false →
        ∃ u, exec (.cellFault (.loop c) ded ipar) s = .next u ∧ u.dev.on .C_STAT_FAULTED c = true ∧ u.dev.on .x_RETC c = true ∧
          u.dev.on .C_STAT_DED c = ded ∧ u.dev.on .C_STAT_IPAR c = ipar ∧ u.dev.on .SPARE_MIRROK sb = false ∧
          (c.val % 6 < 5 → s.dev.on .SPARE_MIRROK sb = true → u.dev.on .SPARE_SUBST sb = true ∧ u.dev.get .SPARE_FROM sb = c.val % 6 ∧
            u.dev.get .C_STAT_MODE (6 * sb + 5) = s.dev.get .C_STAT_MODE c % 8) ∧
          (c.val % 6 = 5 ∨ s.dev.on .SPARE_MIRROK sb = false →
            ∀ g, g ∈ s.dev.servedBy c → u.dev.get .SLOT_CTL_EN g = 0 ∧ u.dev.get .SLOT_CTL_REFUSE g = 2))) ∧
    (s.dev.held 2 = false →
      (s.dev.on .x_RET_AIN n = false → is (.cellFault (.ain n) ded ipar) ((s.dev.report 2 (srcOf 3 0 (0x200 + n)) 0x02 0).put .x_RET_AIN n 1)) ∧
      (s.dev.on .x_RET_AIN n = true → exec (.cellFault (.ain n) ded ipar) s = .next s) ∧
      is (.blockFault (.link k) ms) ((s.dev.report 2 (srcOf 3 1 (320 + k)) 0x03 (if ms then 1 else 0)).put .x_RET_LNK k 1) ∧
      is (.sequencerWatchdogExpiry (.link k)) ((s.dev.report 2 (srcOf 3 1 (320 + k)) 0x03 2).put .x_RET_LNK k 1) ∧
      (∃ u, exec (.blockFault .pwm ms) s = .next u ∧ u.dev.get .x_RET_PWM 0 = 1 ∧ ∀ j, j < 8 → u.dev.get .x_PWM_ACT j = 0)) ∧
    (s.dev.held r = false → s.dev.on .x_DEEP 0 = false →
      let src := if r.val = 1 then srcOf 2 2 0x3FF else srcOf (r.val + 1) 2 0
      let faulted := fun (i : Instr) (data : Nat) =>
        (s.dev.get .PAIR_STAT_ROLE 0 = 4 → is i ((s.dev.report 3 src 0x04 data).report 3 src 0x05 0)) ∧
        (s.dev.get .PAIR_STAT_ROLE 0 ≠ 4 → ∃ u, exec i s = .next u ∧ u.dev.get .PAIR_STAT_ROLE 0 = 4 ∧ u.dev.get .PAIR_STAT_CAUSE 0 = 5)
      faulted (.regionFault ⟨r, by omega⟩) 1 ∧ faulted (.regionWatchdogExpiry ⟨r, by omega⟩) 2) ∧
    is (.pathMonitorFailure .load) (s.dev.put .x_PM_LOAD 0 1) ∧ is (.pathMonitorFailure (.restReport a)) (s.dev.put .x_PM_REST a 1) ∧
    is (.pathMonitorFailure (.axisLine a)) ((s.dev.put .x_PM_AX a 1).fieldLines) ∧
    (s.dev.held 0 = false → s.dev.clocked = true → s.dev.on .SPARE_SUBST b = false → s.dev.on .C_STAT_FAULTED (6 * b + 5) = false →
      s.dev.on .SPARE_MIRROK b = false →
      (∀ l, l < 64 → s.dev.slotEn (64 * b + l) = false) → is (.mirrorRebuild b) (s.dev.put .SPARE_MIRROK b 1)) ∧
    (s.dev.on .SPARE_MIRROK b = true → exec (.mirrorRebuild b) s = .next s) ∧
    (s.dev.session = false → exec (.spareReadmit b cell) s = .next s ∧ exec (.restore b cell) s = .next s) ∧
    (s.dev.held 0 = false → s.dev.session = true →
      let d := s.dev.puts [(.x_SVC_T, 0, s.dev.get .x_CYC 0), (.SPARE_CELL, b, cell)]
      let retired := (cell.val < 6 ∧ s.dev.on .C_STAT_FAULTED (6 * b + cell) = true) ∨ (cell.val = 6 ∧ s.dev.on .x_RETB b = true)
      let lent := s.dev.on .SPARE_SUBST b = true ∧ cell.val = s.dev.get .SPARE_FROM b ∧ s.dev.on .C_STAT_FAULTED (6 * b + cell) = false
      (s.dev.on .SPARE_READMIT b = false → (retired → is (.spareReadmit b cell) (d.put .SPARE_READMIT b 1)) ∧
        (¬retired → is (.spareReadmit b cell) (d.put .SPARE_RESULT b 4))) ∧
      (s.dev.on .SPARE_RESTORE b = false → (¬lent → is (.restore b cell) (d.put .SPARE_RESULT b 4)) ∧
        (lent → ∃ u, exec (.restore b cell) s = .next u ∧ u.dev.get .SPARE_RESTORE b = 1 ∧ u.dev.get .x_RST_COPY b = 1 ∧
          u.dev.get .x_RST_TICK b = s.dev.tick))) ∧
    (s.dev.held 0 = false → s.dev.on .SPARE_READMIT b = true →
      let d := s.dev.puts [(.SPARE_READMIT, b, 0), (.SPARE_RESULT, b, res.val + 1)]
      let x := 6 * b.val + s.dev.get .SPARE_CELL b
      (res ≠ 0 → is (.spareSelfTestEnd b res) d) ∧
      (res = 0 → s.dev.get .SPARE_CELL b = 6 → is (.spareSelfTestEnd b res) (d.put .x_RETB b 0)) ∧
      (res = 0 → s.dev.get .SPARE_CELL b ≠ 6 → is (.spareSelfTestEnd b res) (d.puts [(.C_STAT_FAULTED, x, 0), (.C_STAT_DED, x, 0), (.C_STAT_IPAR, x, 0),
        (.x_RETC, x, 0), (.SPARE_MIRROK, b, 0)]))) ∧
    (s.dev.held 0 = false → s.dev.clocked = true → s.dev.on .x_RST_COPY b = true → s.dev.on .x_RST_SW b = false →
      s.dev.get .x_RST_TICK b < s.dev.tick → is (.restoreSwitch b) ((s.dev.put .x_RST_SW b 1).restoreDone b))

/-- R337 to R339, R358, R366, R384: resets and boot. Each reset clears the survival classes that R339 names and leaves its cause; a REGION reset holds its regions
for 20 µs; a region leaves reset when its image is loaded; LOOP_GO releases the loop region.
Rests on log entries 3, 4, 122, 126. -/
def Obligations.ResetsAndBoot : Prop :=
  ∀ (s : State) (key : BitVec 8) (clksel : Bool) (rom : BitVec 10),
    let is := fun (i : Instr) (d : Dev) => exec i s = .next (s.setDev d)
    let role := if s.dev.get .PAIR_STAT_ROLE 0 = 4 then 4 else 0
    let wiped := fun (i : Instr) (cause : Nat) (f0 : F) => ∃ u, exec i s = .next u ∧
      (∀ f j, f.desc.cls ≠ .N → f ∉ [.C_STAT_FAULTED, .PWR_CTL_STATE, .x_MSI_PEND, .RST_CAUSE, f0] → u.dev.get f j = f.resetAt j) ∧
      (∀ f j, f.desc.cls = .N → f ∉ [.x_TBV, .x_HELD, .x_CP_LIVE, .x_DEEP, .PAIR_STAT_ROLE, .PAIR_STAT_CAUSE] → u.dev.get f j = s.dev.get f j) ∧
      (∀ x, u.dev.byte x = if inMram x then s.dev.byte x else memReset x) ∧ u.dev.flash = s.dev.flash ∧ u.dev.get .RST_CAUSE 0 = cause ∧
      (∀ j, j < 5 → u.dev.held j = true) ∧ (∀ c, c < 24 → u.dev.on .C_STAT_FAULTED c = s.dev.on .x_RETC c) ∧ u.dev.get .PAIR_STAT_ROLE 0 = role ∧
      u.dev.shadow = [] ∧ u.dev.snap = [] ∧ u.dev.net = [] ∧ u.dev.banks = [] ∧ u.dev.tasks = [] ∧ u.dev.queues = [] ∧ u.dev.plans = []
    wiped .por 0 .RST_CAUSE ∧ wiped .bor 1 .RST_CAUSE ∧ wiped (.pinReset clksel) 2 .PCIE_STAT_CLKSEL ∧
    (∃ u, exec (.pinReset clksel) s = .next u ∧ u.dev.get .x_DEEP 0 = 0 ∧ u.dev.on .PCIE_STAT_CLKSEL 0 = clksel) ∧
    (key ≠ 0x5A#8 → exec (.warm key) s = .next s ∧ ∀ m, exec (.regionReset key m) s = .next s) ∧
    (s.dev.chipOn = true →
      (∃ u, exec (.warm 0x5A#8) s = .next u ∧
        (∀ f j, f.desc.cls = .C → f ∉ [.PWR_CTL_STATE, .x_MSI_PEND, .RST_CAUSE] → u.dev.get f j = f.resetAt j) ∧
        (∀ f j, f.desc.cls ≠ .C → f ∉ [.x_HELD, .x_CP_LIVE, .PAIR_STAT_ROLE, .PAIR_STAT_CAUSE] → u.dev.get f j = s.dev.get f j) ∧
        (∀ x, u.dev.byte x = if inQueueStore x || inInImage x then memReset x else s.dev.byte x) ∧ u.dev.get .RST_CAUSE 0 = 3 ∧
        u.dev.plans = s.dev.plans ∧ u.dev.paths = s.dev.paths ∧ u.dev.banks = [] ∧ u.dev.get .PAIR_STAT_ROLE 0 = role ∧
        u.dev.shadow = [] ∧ u.dev.snap = []) ∧
      (∀ r : Fin 3, s.dev.on .x_RSTA r = false →
        ∃ u, exec (.regionReset 0x5A#8 (BitVec.ofNat 4 (2 ^ r.val))) s = .next u ∧ u.dev.held r = true ∧ u.dev.get .x_RSTA r = 1 ∧
          (∀ e, e ∈ u.dev.shadow ∨ e ∈ u.dev.snap → rgnOf e.1 ≠ r) ∧
          u.dev.get .x_RSTC r = s.dev.get .x_CYC 0 ∧ (r = 0 → u.dev.banks = [] ∧ u.dev.entries = [] ∧ u.dev.readyq = []) ∧
          (r = 1 → u.dev.tasks = [] ∧ u.dev.queues = [] ∧ u.dev.readyt = []) ∧ (r = 2 → u.dev.plans = [] ∧ u.dev.sarq = [] ∧ u.dev.capFifo = [])) ∧
      (s.dev.on .x_RSTA 3 = false →
        let d := s.dev.put .RST_CTL_REGION 0 (s.dev.get .RST_CTL_REGION 0 ||| 8)
        (s.dev.safeRuns = true → is (.regionReset 0x5A#8 8#4) (d.put .x_S_PRE 0 1)) ∧
        (s.dev.safeRuns = false → is (.regionReset 0x5A#8 8#4) d.resetSafe)) ∧
      (∀ (r : Fin 4) (fail : BitVec 2), s.dev.on .x_RSTA r = true →
        (s.dev.get .x_CYC 0 < s.dev.get .x_RSTC r + 5000 → exec (.regionResetEnd r fail) s = .next s) ∧
        (s.dev.get .x_RSTC r + 5000 ≤ s.dev.get .x_CYC 0 → r ≠ 3 →
          let bits := s.dev.get .RST_CTL_REGION 0
          let d := s.dev.puts ([(F.x_RSTA, r.val, 0), (F.RST_CTL_REGION, 0, bits - (if bits.testBit r then 2 ^ r.val else 0))] ++
            if r = 0 then [(F.BOOT_CTL_LOOP_HELD, 0, 0)] else [])
          let l := d.loadRegion (r.val + 1) fail.toNat.testBit
          (l.1 = true → is (.regionResetEnd r fail) ((l.2.releaseRegion r).resetDone (4 + 16 * r))) ∧
          (l.1 = false → is (.regionResetEnd r fail) l.2))) ∧
      (s.dev.on .CLK_STAT_PLLLOCK 0 = true → s.dev.on .x_BOOTED 0 = false →
        let fail := fun r s : Nat => rom.toNat.testBit (2 * r + s)
        let c := (s.dev.put .x_BOOTED 0 1).loadRegion 0 (fail 0)
        (c.1 = false → is (.bootRom rom) c.2) ∧
        (c.1 = true → is (.bootRom rom) ((((c.2.bootRegion 3 fail).bootRegion 2 fail).bootRegion 1 fail).bootRegion 0 fail))) ∧
      (s.dev.on .BOOT_CTL_LOOP_HELD 0 = true →
        ∃ u, exec .loopGo s = .next u ∧ u.dev.held 0 = false ∧ u.dev.get .BOOT_CTL_LOOP_HELD 0 = 0 ∧ u = s.setDev { s.dev with regs := u.dev.regs } ∧
          ∀ g, g < 256 → s.dev.on .SLOT_CTL_EN g = true → u.dev.get .x_SLOT_FIRST g = s.dev.tick + 1) ∧
      (s.dev.on .BOOT_CTL_LOOP_HELD 0 = false → exec .loopGo s = .next s)) ∧
    (let quiet := ∀ f, f ∈ s.dev.fns → s.dev.get .FN_STAT_STATE f = 3 ∨ s.dev.get .FN_STAT_STATE f = 5
     s.dev.on .x_S_PRE 0 = true → (quiet → is .safetyPreResetComplete s.dev.resetSafe) ∧ (¬quiet → exec .safetyPreResetComplete s = .next s)) ∧
    (s.dev.on .x_DEEP 0 = false →
      let d := s.dev.puts [(.CLK_STAT_PLLLOCK, 0, 1), (.CLK_STAT_REFOK, 0, 1)]
      (s.dev.held 4 = true → is .pllLock (d.puts [(.x_HELD, 4, 0), (.x_PAIR_C0, 0, s.dev.get .x_CYC 0)])) ∧ (s.dev.held 4 = false → is .pllLock d))

/-- R338, R361 to R368, R381: device states, clocks, supplies and temperature.
Rests on log entries 3, 129, 131, 132. -/
def Obligations.PowerAndClocks : Prop :=
  ∀ (s : State) (tj : BitVec 16) (ref host : Bool),
    let g := fun f : F => s.dev.get f 0
    let is := fun (i : Instr) (d : Dev) => exec i s = .next (s.setDev d)
    let crm := srcOf 0 3 0
    let failed := fun u : State => u.dev.get .PAIR_STAT_ROLE 0 = 4
    (s.dev.chipOn = true →
      is .quiesce (s.dev.put .PWR_CTL_STATE 0 1) ∧ is .sscPeriodStart (s.dev.put .CLK_STAT_SSC_ACT 0 (if g .CLK_CTL ≠ 0 then 1 else 0)) ∧
      (16 * (g .TEMP_WLIM : Int) ≤ tj.toInt → is (.twarn tj) (s.dev.puts [(.TEMP_TJ, 0, tj.toNat), (.TEMP_TWARN, 0, 1)])) ∧
      (tj.toInt < 16 * (g .TEMP_WLIM : Int) → is (.twarn tj) (s.dev.put .TEMP_TJ 0 tj.toNat)) ∧
      (∃ u, exec .overtemperatureFault s = .next u ∧ u.dev.get .TEMP_TJ 0 = 1920 ∧ failed u) ∧
      (∃ u, exec (.clockFault ref) s = .next u ∧ u.dev.get .CLK_STAT_PLLLOCK 0 = 0 ∧ u.dev.get .x_CLKF 0 = g .x_CYC + 1 ∧
        (ref = true → u.dev.get .CLK_STAT_REFOK 0 = 0) ∧ failed u) ∧
      (∃ u, exec .deep s = .next u ∧ u.dev.get .x_DEEP 0 = 1 ∧ (∀ x, u.dev.byte x = if inMram x then s.dev.byte x else memReset x) ∧ u.dev.banks = [] ∧
        u.dev.tasks = [] ∧ ∀ f j, f.desc.cls ≠ .N → u.dev.get f j = f.resetAt j) ∧
      (g .x_PFQ = 0 →
        exec .pfailQuiesce s = .next s ∧
        (g .SED_STAT_READY = 0 →
          let e := (s.dev.report 3 crm 0x41 0).puts [(.SED_STAT_FRZ, 0, 1), (.x_SED_PF, 0, 1), (.x_PFQ, 0, 1)]
          (g .PAIR_STAT_ROLE ≠ 1 ∨ g .CP_STAT_INPROG ≠ 0 → is .pfailN e) ∧
          (g .PAIR_STAT_ROLE = 1 → g .CP_STAT_INPROG = 0 → is .pfailN (e.startCp s.dev.tick))) ∧
        (∃ u, exec .pfailN s = .next u ∧ u.dev.get .SED_STAT_FRZ 0 = 1 ∧ u.dev.get .x_SED_PF 0 = 1 ∧ u.dev.get .x_PFQ 0 = 1)) ∧
      (g .x_PFQ ≠ 0 →
        exec .pfailN s = .next s ∧ exec (.run_ host) s = .next s ∧ (g .PAIR_STAT_ROLE ≠ 1 → is .pfailQuiesce (s.dev.put .PWR_CTL_STATE 0 1)) ∧
        (g .PAIR_STAT_ROLE = 1 → ∃ u, exec .pfailQuiesce s = .next u ∧ u.dev.get .PWR_CTL_STATE 0 = 1 ∧ failed u ∧ u.dev.get .PAIR_STAT_CAUSE 0 = 6)) ∧
      (g .PWR_CTL_STATE = 1 → g .x_PFQ = 0 → host = true ∨ s.dev.session = true → (∀ k, k < 256 → s.dev.on .SLOT_CTL_EN k = false) →
        let st := (F.PWR_CTL_STATE, 0, if g .PAIR_STAT_ROLE = 2 then 2 else 0)
        is (.run_ host) (s.dev.puts (if host then [st] else [(.x_SVC_T, 0, g .x_CYC), st]))) ∧
      (g .PWR_CTL_STATE ≠ 1 → exec (.run_ host) s = .next s)) ∧
    (g .x_CLKF ≠ 0 → (g .x_CLKF + 250000 ≤ g .x_CYC + 1 → is .heldFrequencyExpiry (s.dev.put .x_FRQ 0 1)) ∧
      (g .x_CYC + 1 < g .x_CLKF + 250000 → exec .heldFrequencyExpiry s = .next s)) ∧
    (s.dev.held 2 = false → ∃ u, exec .companionSupplyLow s = .next u ∧ (∀ n, n < 64 → u.dev.get .x_RET_AIN n = 1) ∧
      ∀ n, n < 32 → u.dev.get .x_RET_AO n = 1)

/-- R385, R387 to R391: the service port. A challenge gives a fresh nonce; a valid response opens a session, a wrong one closes the port for 10 s; 600 s without a
transfer end the session, which releases every force entry. CLRLOG, ROLLFWD, FORCE and the test multiplexer need a session.
Rests on log entries 11, 27, 28, 133. -/
def Obligations.ServicePort : Prop :=
  ∀ (s : State) (sig : BitVec 768) (r : Fin 5) (fail en off : Bool) (i : Fin 32) (key : BitVec 16) (val : BitVec 32) (pin : Fin 8) (code : BitVec 8),
    s.dev.chipOn = true →
    let g := fun f : F => s.dev.get f 0
    let is := fun (i : Instr) (d : Dev) => exec i s = .next (s.setDev d)
    let touched := (F.x_SVC_T, 0, g .x_CYC)
    let ended := forN 8 (fun d j => d.put .x_TMUX j 0) (forN 32 (fun d j => d.put .FORCE_CTL_EN j 0) s.dev) |>.put .SVC_STAT_OPEN 0 0
    (g .SVC_STAT_LOCKED = 0 →
      is .serviceChallenge (({ s.dev with free := s.dev.free + 1 } : Dev).puts [(.x_NONCE, 0, Config.freeValue s.dev.free), (.x_CHAL, 0, 1), touched]) ∧
      (g .x_CHAL = 0 → exec (.serviceResponse sig) s = .next s) ∧
      (g .x_CHAL ≠ 0 →
        let d := s.dev.puts [(.x_CHAL, 0, 0), touched]
        let good := Config.authentic 1 (g .x_NONCE * 2 ^ 768 + sig.toNat)
        is (.serviceResponse sig) (if good then d.put .SVC_STAT_OPEN 0 1 else d.puts [(.SVC_STAT_LOCKED, 0, 1), (.x_SVC_L, 0, g .x_CYC)]))) ∧
    (g .SVC_STAT_LOCKED ≠ 0 →
      exec .serviceChallenge s = .next s ∧ exec (.serviceResponse sig) s = .next s ∧
      (g .x_SVC_L + 2500000000 ≤ g .x_CYC → is .portLockExpiry (s.dev.put .SVC_STAT_LOCKED 0 0)) ∧
      (g .x_CYC < g .x_SVC_L + 2500000000 → exec .portLockExpiry s = .next s)) ∧
    (g .SVC_STAT_OPEN ≠ 0 → (g .x_SVC_T + 150000000000 ≤ g .x_CYC → is .sessionTimeout ended) ∧
      (g .x_CYC < g .x_SVC_T + 150000000000 → exec .sessionTimeout s = .next s)) ∧
    (s.dev.session = false →
      exec .svcEnd s = .next s ∧ exec .clrlog s = .next s ∧ exec (.rollfwd r fail) s = .next s ∧ exec (.force i en key val) s = .next s ∧
      exec (.testMultiplexerSelection pin off r code) s = .next s) ∧
    (s.dev.session = true →
      is .svcEnd ended ∧
      is (.force i en key val) (s.dev.puts [touched, (.FORCE_CTL_KEY, i, key.toNat), (.FORCE_VAL, i, val.toNat), (.FORCE_CTL_EN, i, if en then 1 else 0)]) ∧
      is (.testMultiplexerSelection pin off r code) (s.dev.puts [touched, (.x_TMUX, pin, if off then 0 else 1 + 256 * r.val + code.toNat)]) ∧
      (s.dev.held 2 = false → g .SED_STAT_FRZ = 0 → g .SED_STAT_READY ≠ 0 → g .SED_NEXT ≠ 0 → (∀ w, w < 8 → s.dev.on .DC_CFG_SEDEN w = false) →
        ∃ u, exec .clrlog s = .next u ∧ u.dev.get .x_SED_USED 0 = 1 ∧ u.dev.get .SED_STAT_USED 0 = 1 ∧
          u.dev.get .SED_NEXT 0 = (if g .SED_NEXT + 1 < 2 ^ 32 then g .SED_NEXT + 1 else 0) ∧ (u.dev.byte 0x500A0010).toNat = 0xF2 ∧
          ∀ x, 0x500A0020 ≤ x → x < 0x500C0000 → u.dev.byte x = 0#8) ∧
      (s.dev.held ((r.val + 4) % 5) = false → s.dev.on .x_ACT r = true →
        let n := s.dev.get .x_ARB r
        let v := s.dev.fbyte (slotBase r (s.dev.get .x_ACT r - 1) + 5)
        let d := ({ s.dev with free := s.dev.free + 1 } : Dev).puts [touched]
        (v ≤ n → is (.rollfwd r fail) (d.put .SVC_STAT_ARB 0 n)) ∧
        (n < v → is (.rollfwd r false) (d.puts [(.x_ARB, r, v), (.SVC_STAT_ARB, 0, v)])) ∧
        (n < v → ∃ m, n ≤ m ∧ m < v ∧ is (.rollfwd r true) (d.puts [(.x_ARB, r, m), (.SVC_STAT_ARB, 0, m), (.SVC_STAT_RFAIL, 0, 1)]))))

/-- R343 to R358: the safety region. In its cycle a function in RUN takes a demand, STOPPING waits for rest, TRIPPED for the safe condition; a discrepancy or a test-pulse
fault puts it into FAULT; outputs and stop lines follow. A memory, clock or third core disagreement locks the region out.
Rests on log entries 3, 26, 136, 137. -/
def Obligations.SafetyRegion : Prop :=
  ∀ (s : State) (raw stable zeros : BitVec 24) (fb : BitVec 8) (f : Fin 16) (k : Fin 4) (m : Fin 8) (agree clkOk low crcEqual : Bool),
    let is := fun (i : Instr) (d : Dev) => exec i s = .next (s.setDev d)
    let cyc := s.dev.get .x_S_CYC 0
    let ps := s.dev.psSet
    (s.dev.safeRuns = false → exec (.safetyCycle raw stable fb agree true clkOk) s = .next s ∧ exec (.stop1Timeout f) s = .next s ∧
      exec (.testPulse k zeros) s = .next s ∧ exec (.offPulse m low) s = .next s) ∧
    (s.dev.safeRuns = true →
      is (.safetyCycle raw stable fb agree false clkOk) (((s.dev.put .SAFE_STAT_MEM 0 1).lockout 0).deviceFault srcSafe) ∧
      is (.safetyCycle raw stable fb agree true false) (((s.dev.put .SAFE_STAT_CLK 0 1).lockout 0).deviceFault srcSafe) ∧
      (2 ≤ s.dev.get .x_S_DIS 0 →
        is (.safetyCycle raw stable fb false true true) (((s.dev.put .SAFE_STAT_CORE 0 1).lockout 0).deviceFault srcSafe)) ∧
      (s.dev.fns = [f.val] →
        let d := (((s.dev.puts [(.x_S_CYC, 0, cyc + 1), (.x_S_DIS, 0, 0)]).safeInputs (cyc + 1) raw.toNat stable.toNat).safeFeedback (cyc + 1) fb.toNat).fnTrack f
          (cyc + 1)
        let st := d.get .FN_STAT_STATE f
        let lim := 10 * psHalf ps (96 + 20 * f.val + 8)
        let disc := (List.range 2).any (fun b => decide (lim ≤ d.get .x_F_DISC (2 * f.val + b)))
        let goes := fun x : Nat => ∃ e : Dev, e.get .FN_STAT_STATE f = x ∧ is (.safetyCycle raw stable fb true true true) e.driveSafe
        (st ≠ 5 → disc = true ∨ d.fnTpf f = true → goes 5) ∧
        (disc = false → d.fnTpf f = false → d.on .x_S_PRE 0 = false →
          (st = 1 → d.demand f = true → goes (if psStopcat ps f then 2 else 3)) ∧ (st = 1 → d.demand f = false → goes 1) ∧
          (st = 2 → (∀ a, a < 32 → (psAxes ps f).testBit a = true → d.on .x_AX_REST a = true ∧ d.on .x_PM_REST a = false) → goes 3) ∧
          (st = 2 → (∃ a, a < 32 ∧ (psAxes ps f).testBit a = true ∧ d.on .x_AX_REST a = false) → goes 2) ∧
          (st = 3 → d.safeCond f = true → goes (if psManual ps f && decide (psType ps f ≠ 3) then 4 else 1)) ∧ (st = 3 → d.safeCond f = false → goes 3) ∧
          (st = 4 → d.demand f = true → goes 3) ∧
          (st = 5 → goes (if d.on .x_F_TOG f then 3 else 5)))) ∧
      (s.dev.get .FN_STAT_STATE f = 2 →
        let due := s.dev.get .x_F_DEM f + 10 * psHalf ps (96 + 20 * f.val + 10)
        (due ≤ cyc → is (.stop1Timeout f) (s.dev.put .FN_STAT_STATE f 3).driveSafe) ∧ (cyc < due → exec (.stop1Timeout f) s = .next s)) ∧
      (let per := 10 * psHalf ps 2
       let off := k.val * per / 4
       off ≤ cyc → 0 < per → s.dev.get .x_S_TPN k ≤ (cyc - off) / per → s.dev.get .SAFE_TPF 0 < 2 ^ 24 →
        ∃ u, exec (.testPulse k zeros) s = .next u ∧ u.dev.get .x_S_TPN k = (cyc - off) / per + 1 ∧ u.dev.get .x_S_HOLD k = cyc + psByte ps 0 + 1 ∧
          u = s.setDev { s.dev with regs := u.dev.regs } ∧
          ∀ n, n < 24 → (u.dev.get .SAFE_TPF 0).testBit n =
            if psSrc ps n = k.val + 1 ∧ s.dev.sin n = true then !zeros.toNat.testBit n else (s.dev.get .SAFE_TPF 0).testBit n) ∧
      ((s.dev.get .SAFE_OUT_ON 0).testBit m = true → s.dev.get .x_S_OPT m + 10 * psHalf ps (66 + 4 * m.val) ≤ cyc →
        let d := s.dev.puts [(.x_S_OPT, m, cyc), (.x_S_SWT, m, cyc + psByte ps (64 + 4 * m.val))]
        is (.offPulse m true) d ∧ is (.offPulse m false) (d.outputFault m).driveSafe)) ∧
    (s.dev.held 3 = false → s.dev.on .x_DEEP 0 = false → s.dev.get .SAFE_STAT_STATE 0 = 0 → ps ≠ [] →
      let code := psCheck ps crcEqual
      (code ≠ 0 → is (.safetyInitEnd crcEqual) (s.dev.put .SAFE_STAT_PSERR 0 code)) ∧
      (code = 0 → is (.safetyInitEnd crcEqual) ((s.dev.fns.foldl (fun d f => d.put .FN_STAT_STATE f 3)
        (s.dev.puts [(.SAFE_STAT_PSERR, 0, 0), (.SAFE_STAT_STATE, 0, 1), (.SAFE_PSID, 0, crc32 ps), (.x_S_CYC, 0, 0)])).driveSafe)))

/-! Register accesses. -/

/-- R4 to R7, R28, R31 to R33, R104: register writes, commits and snapshots. A write is answered with an error outside the map, in a read-only area and where its size or
alignment is wrong; else each field of the word acts by its access code, and memory takes the bytes. A commit takes the region's shadows into its snapshot, which
takes effect at a later tick.
Rests on log entries 34, 37, 38, 43, 44, 49. -/
def Obligations.RegisterWritesAndCommits : Prop :=
  ∀ (s : State) (ini : Initiator) (a : BitVec 40) (size : Fin 4) (v : BitVec 64) (cr : CfgRegion),
    let n := 2 ^ size.val
    let w := v.toNat % 2 ^ 32
    let c := Instr.registerWrite ini a size v
    let d := if ini = .service then s.dev.put .x_SVC_T 0 (s.dev.get .x_CYC 0) else s.dev
    let code := match ini with | .core k => k.val + 1 | .host => 8 | .service => 9
    let k := CfgRegion.idx cr
    (s.dev.chipOn = false → exec c s = .next s) ∧ (ini = .service → s.dev.session = false → exec c s = .next s) ∧
    (0x31000000 ≤ a.toNat → a.toNat < 0x40000000 → access true a.toNat n = .err) ∧
    (0x30000000 ≤ a.toNat → a.toNat < 0x31000000 → access true a.toNat n = .err) ∧
    (0x50080000 ≤ a.toNat → a.toNat + n ≤ 0x50100000 → access true a.toNat n = .err ∨ access true a.toNat n = .unaligned) ∧
    (s.dev.chipOn = true → (ini = .service → s.dev.session = true) →
      (access true a.toNat n = .err ∨ access true a.toNat n = .unaligned →
        ∃ u, exec c s = .next u ∧ u.dev.on .ACC_ERR_STICKY 0 = true ∧ u.dev.mem = s.dev.mem ∧
          u.dev.get .ACC_ERR_COUNT 0 = (if s.dev.get .ACC_ERR_COUNT 0 + 1 < 2 ^ 16 then s.dev.get .ACC_ERR_COUNT 0 + 1 else s.dev.get .ACC_ERR_COUNT 0) ∧
          (s.dev.on .ACC_ERR_STICKY 0 = false → u.dev.get .ACC_ERR_SOURCE 0 = code ∧ u.dev.get .ACC_ERR_ADDR_LO 0 = a.toNat % 2 ^ 32 ∧
            u.dev.get .ACC_ERR_ADDR_HI 0 = a.toNat / 2 ^ 32) ∧
          (s.dev.on .ACC_ERR_STICKY 0 = true → ∀ f, f = F.ACC_ERR_SOURCE ∨ f = F.ACC_ERR_ADDR_LO ∨ f = F.ACC_ERR_ADDR_HI → u.dev.get f 0 = s.dev.get f 0)) ∧
      (∀ r i, access true a.toNat n = .reg r i → d.regOpen (rgnOf (r.key, i)) = true →
        (d.wordLocked (decide (ini = .service)) r.key i = false → d.actWord (decide (ini = .host)) (decide (ini = .service)) r.key i w = none →
          ∃ u, exec c s = .next u ∧ u = s.setDev { d with regs := u.dev.regs, shadow := u.dev.shadow } ∧
            (∀ f, f ∈ r.fields →
              let x := f.fit (fieldBits f (f.ofWord w))
              let ok := rangeMotion f w && rangeOther f w
              (f.desc.acc = .RW → u.dev.get f i = if ok = true ∧ (f.desc.locked && d.slotEn i) = false then x else d.get f i) ∧
              (f.desc.acc = .ST → u.dev.get f i = d.get f i ∧ mapFind (f, i) u.dev.shadow = if ok = true then some x else mapFind (f, i) d.shadow) ∧
              (f.desc.acc = .W1C → u.dev.get f i = f.fit (d.get f i - (d.get f i &&& fieldBits f (f.ofWord w)))) ∧
              (f.desc.acc ≠ .RW → f.desc.acc ≠ .ST → f.desc.acc ≠ .W1C → u.dev.get f i = d.get f i)) ∧
            (∀ f j, f ∉ r.fields ∨ j ≠ i → u.dev.get f j = d.get f j ∧ mapFind (f, j) u.dev.shadow = mapFind (f, j) d.shadow)) ∧
        (ini = .host → w = 2 ^ 31 →
          (∀ x : Fin 32, r.key = .AX_CMD_GO → i = x.val → exec c s = exec (.axisGo x) s) ∧ (r.key = .BOOT_CTL_LOOP_GO → exec c s = exec .loopGo s) ∧
          (r.key = .CFG_COMMIT_GO → i = k → exec c s = exec (.cfgCommit cr) s)) ∧
        (ini = .host → (∀ e : Fin 32, r.key = .E_ADD → i = e.val → exec c s = exec (.enAdd e (BitVec.ofNat 32 w)) s) ∧
          (∀ b : Fin 4, r.key = .TB_RATE → i = b.val → exec c s = exec (.rateWrite b (BitVec.ofNat 32 w)) s))) ∧
      (a.toNat + n ≤ 0x600000 → a.toNat % n = 0 → d.regOpen 1 = true →
        ∃ u, exec c s = .next u ∧ u = s.setDev { d with mem := u.dev.mem, dirty := u.dev.dirty } ∧
          ∀ x, u.dev.byte x = if a.toNat ≤ x ∧ x < a.toNat + n then BitVec.ofNat 8 (v.toNat / 256 ^ (x - a.toNat)) else s.dev.byte x) ∧
      (access true a.toNat n = .hole → exec c s = .next (s.setDev d))) ∧
    (s.dev.regOpen k = false → exec (.cfgCommit cr) s = .next s ∧ exec (.snapshotTakesEffect cr) s = .next s) ∧
    (s.wf → s.dev.regOpen k = true →
      (∃ u, exec (.cfgCommit cr) s = .next u ∧ u.dev.on .CFG_COMMIT_PENDING k = true ∧ u.dev.shadow = s.dev.shadow ∧ u.dev.mem = s.dev.mem ∧
        u.dev.get .x_CFG_T k = (if s.dev.on .CFG_COMMIT_PENDING k = true then s.dev.get .x_CFG_T k else s.dev.tick) ∧
        (∀ f j, mapFind (f, j) u.dev.snap =
          if rgnOf (f, j) = k then (mapFind (f, j) s.dev.shadow).or (mapFind (f, j) s.dev.snap) else mapFind (f, j) s.dev.snap) ∧
        ∀ f j, f ≠ .CFG_COMMIT_PENDING → f ≠ .x_CFG_T → u.dev.get f j = s.dev.get f j) ∧
      (s.dev.on .CFG_COMMIT_PENDING k = false ∨ s.dev.tick ≤ s.dev.get .x_CFG_T k → exec (.snapshotTakesEffect cr) s = .next s) ∧
      (s.dev.on .CFG_COMMIT_PENDING k = true → s.dev.get .x_CFG_T k < s.dev.tick →
        ∃ u, exec (.snapshotTakesEffect cr) s = .next u ∧ u.dev.get .CFG_COMMIT_PENDING k = 0 ∧
          (∀ f j, mapFind (f, j) u.dev.snap = if rgnOf (f, j) = k then none else mapFind (f, j) s.dev.snap) ∧
          (∀ f j, f.desc.acc = .ST → rgnOf (f, j) ≠ k → u.dev.get f j = s.dev.get f j) ∧
          (∀ f j, f.desc.acc = .ST → rgnOf (f, j) = k → (k = 0 → isModeField f = false) → (k = 2 → putsPlain (f, j) = true) →
            u.dev.get f j = match mapFind (f, j) s.dev.snap with
              | some x => f.fit x
              | none => s.dev.get f j) ∧
          (k = 0 → ∀ b i, b < 4 → i < 4 →
            let x := snapGet s.dev s.dev.snap (modeField i) b
            let busy := ∃ l, l < 64 ∧ s.dev.slotEn (64 * b + l) = true ∧ s.dev.get .SLOT_CTL_CELL (64 * b + l) = i
            x ≠ s.dev.get (modeField i) b →
              (busy → u.dev.get (modeField i) b = s.dev.get (modeField i) b ∧ u.dev.get .CELL_MODE_REJ b = 1) ∧
              (¬busy → u.dev.get (modeField i) b = (modeField i).fit x ∧ u.dev.get .C_STAT_MODE (6 * b + i) = x % 8))))

/-- R394: reads of the first register of a group capture the others; only the copies change, and for the set-point, the time base and the time-stamp queue the
register that shows the value.
Rests on log entries 21, 144. -/
def Obligations.CapturingReads : Prop :=
  ∀ (s : State) (g : Fin 256) (q : Fin 64) (e ax : Fin 32) (p8 u8 st : Fin 8) (k16 : Fin 16) (n64 : Fin 64) (ol : Fin 20) (p : Fin 4),
    let caps := fun (i : Instr) (d : Dev) (l : List (F × Nat × Nat)) => ∃ u, exec i s = .next u ∧ u = s.setDev { d with caps := u.dev.caps } ∧
      (∀ x, x ∈ l → u.dev.captured x.1 x.2.1 = x.2.2) ∧ ∀ f j, (∀ x, x ∈ l → (x.1, x.2.1) ≠ (f, j)) → u.dev.captured f j = s.dev.captured f j
    let now := fun (i : Instr) (fs : List F) (j : Nat) => caps i s.dev (fs.map (fun f => (f, j, s.dev.get f j)))
    caps (.tokInRead g) s.dev [(.TOK_USED, g, s.dev.get .TOK_USED g), (.TOK_UNUSED, g, s.dev.get .TOK_UNUSED g),
      (.SLOT_PEND_TYPE_MM, g, s.dev.get .SLOT_PEND_TYPE_MM g), (.SLOT_PEND_PEND, g, s.dev.pendTokens g)] ∧
    caps (.queueInRead q) s.dev [(.Q_OUT, q, s.dev.get .Q_OUT q), (.Q_DROP, q, s.dev.get .Q_DROP q), (.Q_RWD, q, s.dev.get .Q_RWD q),
      (.Q_LEVEL_LEVEL, q, (s.dev.queue q).level), (.Q_LEVEL_UNCOMMIT, q, (s.dev.queue q).unc)] ∧
    now (.encoderCountRead e) [.E_CNT_HI, .E_UP, .E_DOWN, .E_ADJ] e ∧ now (.poutRead p8) [.E_PLAG, .E_PACC] (24 + p8) ∧
    (let m := s.dev.axisAt ax s.dev.now
     let vel := (f64.conv f32 m.vel.toNat).1 % 2 ^ 32
     let acc := (f64.conv f32 m.acc.toNat).1 % 2 ^ 32
     let d := s.dev.puts [(.AX_POS_LO, ax, m.pos.toNat), (.AX_POS_HI, ax, m.pos.toNat / 2 ^ 32), (.AX_VEL, ax, vel), (.AX_ACC, ax, acc)]
     caps (.axisPosRead ax) d [(.AX_POS_HI, ax, m.pos.toNat / 2 ^ 32), (.AX_VEL, ax, vel), (.AX_ACC, ax, acc)]) ∧
    now (.uresRead k16) [.SD_UINFO_QUAL, .SD_UINFO_CNT] k16 ∧ now (.resRead n64) [.AIN_RINFO_QUAL, .AIN_RINFO_CNT] n64 ∧
    now (.cyclesRead ol st) [.STN_IN_OK, .STN_IN_MISS, .STN_OUT_ACK, .STN_OUT_NACK] (8 * ol + st) ∧
    now (.txokRead p) [.ETH_TXBAD, .ETH_RXOK, .ETH_RXERR, .ETH_RXFILT, .ETH_RXLOST] p ∧ now (.canRxokRead p) [.CAN_RXFILT, .CAN_RXLOST] p ∧
    now (.seenRead u8) [.DC_REC, .DC_SKIP, .DC_LOST, .DC_IDLE, .DC_DISC] u8 ∧
    now .sedEvtRead [.SED_NEW, .SED_RPT, .SED_FLD, .SED_FULLD, .SED_FRZL, .SED_HELD] 0 ∧ now .cpBegunRead [.CP_COMMIT, .CP_ABORT, .CP_STAT_INPROG] 0 ∧
    (let t := s.dev.get .x_TBV p
     let ns := t / 2 ^ 32
     caps (.tbNsRead p) (s.dev.put .TB_NS p (ns % 10 ^ 9)) [(.TB_FRAC, p, t % 2 ^ 32 / 2 ^ 16), (.TB_SEC_LO, p, ns / 10 ^ 9 % 2 ^ 32),
       (.TB_SEC_HI, p, ns / 10 ^ 9 / 2 ^ 32 % 2 ^ 32)]) ∧
    (s.dev.held 2 = true → exec (.tsqIdRead p) s = .next s) ∧
    (s.dev.held 2 = false →
      (s.dev.tsq p = [] → ∃ u, exec (.tsqIdRead p) s = .next u ∧ u.dev.get .ETH_TSQ_ID_VALID p = 0 ∧ u.dev.get .ETH_TSQ_ID_LEVEL p = 0 ∧ u.dev.tsq p = [] ∧
        ∀ f, f ∉ [F.ETH_TSQ_ID_VALID, .ETH_TSQ_ID_LEVEL, .ETH_TSQ_ID_TSID] → u.dev.get f p = s.dev.get f p) ∧
      (∀ id ns t, s.dev.tsq p = (id, ns) :: t → ∃ u, exec (.tsqIdRead p) s = .next u ∧ u.dev.get .ETH_TSQ_ID_VALID p = 1 ∧
        u.dev.get .ETH_TSQ_ID_LEVEL p = (t.length + 1) % 32 ∧ u.dev.get .ETH_TSQ_ID_TSID p = id % 2 ^ 16 ∧ u.dev.get .ETH_TSQ_NS p = ns % 10 ^ 9 ∧
        u.dev.get .ETH_TSQ_SLO p = ns / 10 ^ 9 % 2 ^ 32 ∧ u.dev.get .ETH_TSQ_SHI p = ns / 10 ^ 9 / 2 ^ 32 % 2 ^ 16 ∧ u.dev.tsq p = t))

/-! The block as a whole. -/

/-- A step takes the command at the front of the queue and runs exec on it with the queue's rest. With no command waiting time goes on by one cycle of
TIME_CLK, unless the device is in DEEP (log entry 1; the advance is R284's).
Rests on log entry 1. -/
def Obligations.StepTakesTheFrontCommand : Prop :=
  ∀ (s : State) (c : Instr) (q : List Instr),
    (s.pending = c :: q → step s = exec c { s with pending := q }) ∧
    (s.pending = [] → ∃ u, step s = .next u ∧ u.pending = [] ∧
      (s.dev.on .x_DEEP 0 = false → u.dev.get .x_CYC 0 = s.dev.get .x_CYC 0 + 1 ∧
        ∀ k, k < 4 → u.dev.get .x_TBV k = ((s.dev.get .x_TBV k : Int) + 2 ^ 34 + s.dev.sget .TB_RATE k).toNat % (2 ^ 64 * 10 ^ 9 * 2 ^ 32)) ∧
      (s.dev.on .x_DEEP 0 = true → u.dev.get .x_CYC 0 = s.dev.get .x_CYC 0 ∧ ∀ k, u.dev.get .x_TBV k = s.dev.get .x_TBV k))

/-- From every state in canonical form a step answers a next state in canonical form, and takes exactly the front command from the queue: no field ever holds
more bits than its width, no read-as-default entry is listed, and only fields with shadows are ever in a shadow or a snapshot. -/
def Obligations.EveryStepKeepsTheCanonicalForm : Prop :=
  ∀ s : State, s.wf → ∃ t, step s = .next t ∧ t.wf ∧ t.pending = s.pending.tail

/-- Right after reset every register field reads its Reset value, memory and flash their reset contents, every region is held in reset, no command waits and
nothing is in motion; the state is in canonical form.
Rests on log entries 5, 6, 7. -/
def Obligations.StateAfterReset : Prop :=
  State.reset.wf ∧ State.reset.pending = [] ∧ (∀ f i, State.reset.dev.get f i = f.resetAt i) ∧ (∀ x, State.reset.dev.byte x = memReset x) ∧
  (∀ x, State.reset.dev.fbyte x = 0xFF) ∧ (∀ r, State.reset.dev.held r = true) ∧ State.reset.dev.get .PAIR_STAT_ROLE 0 = 0 ∧
  State.reset.dev.get .C_STAT_MODE 4 = 3 ∧ State.reset.dev.get .SED_NEXT 0 = 1 ∧ State.reset.dev.get .PAIR_CTL_MAJOR 0 = 1000 ∧
  State.reset.dev.get .TEMP_WLIM 0 = 100 ∧ State.reset.dev.get .PCIE_AP 0 = 0x40 ∧ State.reset.dev.net = [] ∧ State.reset.dev.banks = [] ∧
  State.reset.dev.tasks = [] ∧ State.reset.dev.queues = [] ∧ State.reset.dev.plans = [] ∧ State.reset.dev.psSet = []
end

