-- ==== Sys2Proof/Laws/Canonical.lean ====
section
/-!
SUPPORT. The canonical form of the stored data: what the operations on registers, memory and flash keep.
-/

namespace Sys2Proof.Machine

variable {κ α : Type}

/-! Ordered maps. -/

/-- A strict order on keys. -/
structure StrictOrder (lt : κ → κ → Bool) : Prop where
  irrefl : ∀ a, lt a a = false
  trans : ∀ a b c, lt a b = true → lt b c = true → lt a c = true
  total : ∀ a b, lt a b = false → a ≠ b → lt b a = true

theorem ltNat_strict : StrictOrder ltNat where
  irrefl a := by simp [ltNat]
  trans a b c h1 h2 := by simp [ltNat] at *; omega
  total a b h1 h2 := by simp [ltNat] at *; omega

theorem F.ctorIdx_inj {a b : F} (h : a.ctorIdx = b.ctorIdx) : a = b := by
  have ha : F.ofNat a.ctorIdx = a := F.ofNat_ctorIdx a
  have hb : F.ofNat b.ctorIdx = b := F.ofNat_ctorIdx b
  rw [← ha, ← hb, h]

theorem ltReg_strict : StrictOrder ltReg where
  irrefl a := by simp [ltReg]
  trans a b c h1 h2 := by simp [ltReg] at *; omega
  total a b h1 h2 := by
    simp only [ltReg, Bool.or_eq_false_iff, decide_eq_false_iff_not, Bool.and_eq_false_imp, decide_eq_true_eq, Bool.or_eq_true,
      Bool.and_eq_true] at *
    by_cases he : a.1.ctorIdx = b.1.ctorIdx
    · right
      refine ⟨he.symm, ?_⟩
      have h3 := h1.2 he
      have h4 : a.2 ≠ b.2 := fun h => h2 (Prod.ext (F.ctorIdx_inj he) h)
      omega
    · left; omega

/-- Every key of the list comes after k. -/
def keysAbove (lt : κ → κ → Bool) (k : κ) (l : List (κ × α)) : Prop := ∀ e, e ∈ l → lt k e.1 = true

theorem mapOrdered_cons {lt : κ → κ → Bool} (o : StrictOrder lt) (a : κ × α) (l : List (κ × α)) :
    mapOrdered lt (a :: l) = true ↔ keysAbove lt a.1 l ∧ mapOrdered lt l = true := by
  induction l generalizing a with
  | nil => simp [mapOrdered, keysAbove]
  | cons b t ih =>
    simp only [mapOrdered, Bool.and_eq_true]
    constructor
    · rintro ⟨h1, h2⟩
      refine ⟨?_, h2⟩
      intro e he
      rcases List.mem_cons.mp he with rfl | he
      · exact h1
      · exact o.trans _ _ _ h1 (((ih b).mp h2).1 e he)
    · rintro ⟨h1, h2⟩
      exact ⟨h1 b (by simp), h2⟩

theorem mapOrdered_filter {lt : κ → κ → Bool} (o : StrictOrder lt) (p : κ × α → Bool) (l : List (κ × α)) (h : mapOrdered lt l = true) :
    mapOrdered lt (l.filter p) = true := by
  induction l with
  | nil => exact h
  | cons a t ih =>
    have h' := (mapOrdered_cons o a t).mp h
    by_cases hp : p a = true
    · rw [List.filter_cons_of_pos hp, mapOrdered_cons o]
      exact ⟨fun e he => h'.1 e (List.mem_filter.mp he).1, ih h'.2⟩
    · rw [List.filter_cons_of_neg hp]; exact ih h'.2

theorem mem_mapInsert [DecidableEq κ] (lt : κ → κ → Bool) (k : κ) (v : α) (l : List (κ × α)) (e : κ × α) (h : e ∈ mapInsert lt k v l) :
    e = (k, v) ∨ e ∈ l := by
  induction l with
  | nil => simpa [mapInsert] using h
  | cons a t ih =>
    unfold mapInsert at h
    split at h
    · rcases List.mem_cons.mp h with h | h
      · exact .inl h
      · exact .inr (List.mem_cons_of_mem _ h)
    · split at h
      · rcases List.mem_cons.mp h with h | h
        · exact .inl h
        · exact .inr h
      · rcases List.mem_cons.mp h with h | h
        · exact .inr (h ▸ List.mem_cons_self ..)
        · rcases ih h with h | h
          · exact .inl h
          · exact .inr (List.mem_cons_of_mem _ h)

theorem mapOrdered_mapInsert [DecidableEq κ] {lt : κ → κ → Bool} (o : StrictOrder lt) (k : κ) (v : α) (l : List (κ × α))
    (h : mapOrdered lt l = true) : mapOrdered lt (mapInsert lt k v l) = true := by
  induction l with
  | nil => simp [mapInsert, mapOrdered]
  | cons a t ih =>
    have h' := (mapOrdered_cons o a t).mp h
    unfold mapInsert
    split
    · rename_i hk
      rw [mapOrdered_cons o]; exact ⟨hk ▸ h'.1, h'.2⟩
    · rename_i hk
      split
      · rename_i hl
        rw [mapOrdered_cons o]
        refine ⟨?_, h⟩
        intro e he
        rcases List.mem_cons.mp he with rfl | he
        · exact hl
        · exact o.trans _ _ _ hl (h'.1 e he)
      · rename_i hl
        rw [mapOrdered_cons o]
        refine ⟨?_, ih h'.2⟩
        intro e he
        rcases mem_mapInsert lt k v t e he with rfl | he
        · exact o.total _ _ (by simpa using hl) (fun h => hk h.symm)
        · exact h'.1 e he

theorem mapOrdered_mapSet [DecidableEq κ] {lt : κ → κ → Bool} (o : StrictOrder lt) (k : κ) (v : Option α) (l : List (κ × α))
    (h : mapOrdered lt l = true) : mapOrdered lt (mapSet lt k v l) = true := by
  cases v with
  | none => exact mapOrdered_filter o _ l h
  | some v => exact mapOrdered_mapInsert o k v l h

theorem mem_mapSet [DecidableEq κ] (lt : κ → κ → Bool) (k : κ) (v : Option α) (l : List (κ × α)) (e : κ × α) (h : e ∈ mapSet lt k v l) :
    (e.1 = k ∧ v = some e.2) ∨ e ∈ l := by
  cases v with
  | none => exact .inr (List.mem_filter.mp h).1
  | some v =>
    rcases mem_mapInsert lt k v l e h with rfl | h
    · exact .inl ⟨rfl, rfl⟩
    · exact .inr h

theorem all_mapSet [DecidableEq κ] (lt : κ → κ → Bool) (p : κ × α → Bool) (k : κ) (v : Option α) (l : List (κ × α))
    (hv : ∀ x, v = some x → p (k, x) = true) (h : l.all p = true) : (mapSet lt k v l).all p = true := by
  rw [List.all_eq_true] at *
  intro e he
  rcases mem_mapSet lt k v l e he with ⟨h1, h2⟩ | h1
  · have := hv e.2 h2
    rwa [← h1] at this
  · exact h e h1

/-! The parts of the canonical form. -/

theorem fit_fit (f : F) (v : Nat) : f.fit (f.fit v) = f.fit v := by
  unfold F.fit
  split
  · rfl
  · exact Nat.mod_mod _ _

theorem regsWf_set {l : List ((F × Nat) × Nat)} (f : F) (i v : Nat) (h : regsWf l = true) :
    regsWf (mapSet ltReg (f, i) (if f.fit v = f.resetAt i then none else some (f.fit v)) l) = true := by
  unfold regsWf at *
  rw [Bool.and_eq_true] at *
  refine ⟨mapOrdered_mapSet ltReg_strict _ _ _ h.1, all_mapSet _ _ _ _ _ ?_ h.2⟩
  intro x hx
  split at hx
  · cases hx
  · rename_i hne
    cases hx
    simp [fit_fit, hne]

theorem all_filter {p q : α → Bool} {l : List α} (h : l.all p = true) : (l.filter q).all p = true := by
  rw [List.all_eq_true] at *
  intro e he
  exact h e (List.mem_filter.mp he).1

theorem regsWf_filter {l : List ((F × Nat) × Nat)} (p : (F × Nat) × Nat → Bool) (h : regsWf l = true) : regsWf (l.filter p) = true := by
  unfold regsWf at *
  rw [Bool.and_eq_true] at *
  exact ⟨mapOrdered_filter ltReg_strict _ _ h.1, all_filter h.2⟩

theorem memWf_set {m : List Host.Cell} (a : Nat) (b : Byte) (h : memWf m = true) :
    memWf (mapSet ltNat a (if b = memReset a then none else some b) m) = true := by
  unfold memWf at *
  rw [Bool.and_eq_true] at *
  refine ⟨mapOrdered_mapSet ltNat_strict _ _ _ h.1, all_mapSet _ _ _ _ _ ?_ h.2⟩
  intro x hx
  split at hx
  · cases hx
  · rename_i hne
    cases hx
    simp [hne]

theorem memWf_filter {m : List Host.Cell} (p : Host.Cell → Bool) (h : memWf m = true) : memWf (m.filter p) = true := by
  unfold memWf at *
  rw [Bool.and_eq_true] at *
  exact ⟨mapOrdered_filter ltNat_strict _ _ h.1, all_filter h.2⟩

theorem flashWf_set {m : List Host.Cell} (a : Nat) (b : Byte) (h : flashWf m = true) : flashWf (natSet 0xFF#8 a b m) = true := by
  unfold flashWf natSet at *
  rw [Bool.and_eq_true] at *
  refine ⟨mapOrdered_mapSet ltNat_strict _ _ _ h.1, all_mapSet _ _ _ _ _ ?_ h.2⟩
  intro x hx
  split at hx
  · cases hx
  · rename_i hne
    cases hx
    simp [hne]

theorem flashWf_filter {m : List Host.Cell} (p : Host.Cell → Bool) (h : flashWf m = true) : flashWf (m.filter p) = true := by
  unfold flashWf at *
  rw [Bool.and_eq_true] at *
  exact ⟨mapOrdered_filter ltNat_strict _ _ h.1, all_filter h.2⟩

theorem shadowWf_set {l : List ((F × Nat) × Nat)} (k : F × Nat) (v : Nat) (hk : k.1.desc.acc = .ST) (h : shadowWf l = true) :
    shadowWf (mapSet ltReg k (some v) l) = true := by
  unfold shadowWf at *
  rw [Bool.and_eq_true] at *
  exact ⟨mapOrdered_mapSet ltReg_strict _ _ _ h.1, all_mapSet _ _ _ _ _ (fun x _ => by simp [hk]) h.2⟩

theorem shadowWf_filter {l : List ((F × Nat) × Nat)} (p : (F × Nat) × Nat → Bool) (h : shadowWf l = true) :
    shadowWf (l.filter p) = true := by
  unfold shadowWf at *
  rw [Bool.and_eq_true] at *
  exact ⟨mapOrdered_filter ltReg_strict _ _ h.1, all_filter h.2⟩

theorem shadowWf_join {l m : List ((F × Nat) × Nat)} (hl : shadowWf l = true) (hm : shadowWf m = true) :
    shadowWf (l.foldl (fun m e => mapSet ltReg e.1 (some e.2) m) m) = true := by
  have ha : ∀ e, e ∈ l → e.1.1.desc.acc = .ST := by
    intro e he
    unfold shadowWf at hl
    rw [Bool.and_eq_true, List.all_eq_true] at hl
    simpa using hl.2 e he
  clear hl
  induction l generalizing m with
  | nil => exact hm
  | cons a t ih =>
    exact ih (shadowWf_set a.1 a.2 (ha a (by simp)) hm) (fun e he => ha e (List.mem_cons_of_mem _ he))

theorem caps_join (l : List (F × Nat × Nat)) (m : List ((F × Nat) × Nat)) (hm : mapOrdered ltReg m = true) :
    mapOrdered ltReg (l.foldl (fun m e => mapSet ltReg (e.1, e.2.1) (some e.2.2) m) m) = true := by
  induction l generalizing m with
  | nil => exact hm
  | cons a t ih => exact ih _ (mapOrdered_mapSet ltReg_strict _ _ _ hm)

/-! The device. -/

/-- A device with the stored data of one in canonical form. -/
theorem Dev.wf_mk {d : Dev} {free} {banks} {net} {stalled} {backlog} {entries} {readyq} {fates} {stageVals} {admq} {copies} {capFifo}
    {events} {tasks} {readyt} {waitq} {queues} {latches} {published} {changes} {pairOut} {hostOut} {plans} {paths} {sarq} {fsk} {olPend}
    {olSnap} {olRx} {olFrame} {ethTx} {ethTsq} {dcReady} {errHold} {sedHold} {sedOwn} {dirty} {carried} {psSet} (h : d.wf) :
    Dev.wf (Dev.mk d.regs d.shadow d.snap d.caps d.mem d.flash free banks net stalled backlog entries readyq fates stageVals admq copies
    capFifo events tasks readyt waitq queues latches published changes pairOut hostOut plans paths sarq fsk olPend olSnap olRx olFrame ethTx
    ethTsq dcReady errHold sedHold sedOwn dirty carried psSet) := h

theorem Dev.wf_ite {c : Prop} [Decidable c] {a b : Dev} (ha : c → a.wf) (hb : ¬c → b.wf) : (if c then a else b).wf := by
  split
  · exact ha ‹_›
  · exact hb ‹_›

theorem Dev.wf_ite_snd {c : Prop} [Decidable c] {a b : α × Dev} (ha : c → a.2.wf) (hb : ¬c → b.2.wf) : (if c then a else b).2.wf := by
  split
  · exact ha ‹_›
  · exact hb ‹_›

theorem Dev.wf_getD {o : Option Dev} {e : Dev} (ho : ∀ x, o = some x → x.wf) (h : e.wf) : (o.getD e).wf := by
  cases o with
  | none => exact h
  | some x => exact ho x rfl

theorem Dev.wf_snd {p : α × Dev} {a : α} {e : Dev} (hp : p = (a, e)) (h : p.2.wf) : e.wf := by
  rw [hp] at h; exact h

theorem forN_wf {n : Nat} {f : Dev → Nat → Dev} {d : Dev} (hf : ∀ d i, d.wf → (f d i).wf) (h : d.wf) : (forN n f d).wf := by
  unfold forN
  generalize List.range n = l
  induction l generalizing d with
  | nil => exact h
  | cons a t ih => exact ih (hf d a h)

theorem foldl_wf {f : Dev → α → Dev} {l : List α} {d : Dev} (hf : ∀ d a, d.wf → (f d a).wf) (h : d.wf) : (l.foldl f d).wf := by
  induction l generalizing d with
  | nil => exact h
  | cons a t ih => exact ih (hf d a h)

theorem timesN_wf {n : Nat} {f : Dev → Dev} {d : Dev} (hf : ∀ d, d.wf → (f d).wf) (h : d.wf) : (timesN n f d).wf := by
  induction n generalizing d with
  | zero => exact h
  | succ n ih => exact ih (hf d h)

theorem Dev.put_wf {d : Dev} (f : F) (i v : Nat) (h : d.wf) : (d.put f i v).wf := ⟨regsWf_set f i v h.1, h.2⟩

theorem Dev.setByte_wf {d : Dev} (a : Nat) (b : Byte) (h : d.wf) : (d.setByte a b).wf := ⟨h.1, memWf_set a b h.2.1, h.2.2⟩

theorem Dev.wr_wf {d : Dev} (a n v : Nat) (h : d.wf) : (d.wr a n v).wf := by
  induction n generalizing d a v with
  | zero => exact h
  | succ n ih => exact ih _ _ (Dev.setByte_wf a _ h)

/-- A command whose effect keeps the canonical form answers a next state that has it. -/
theorem act_wf {s : State} {f : Dev → Dev} (hf : ∀ d, d.wf → (f d).wf) (h : s.wf) : ∃ t, act s f = .next t ∧ t.wf ∧ t.pending = s.pending :=
  ⟨_, rfl, hf _ h, rfl⟩

theorem Dev.reset_wf : Dev.reset.wf := ⟨rfl, rfl, rfl, rfl, rfl, rfl⟩

end Sys2Proof.Machine
end

