-- ==== Sys2Proof/Laws/CanonicalLoop.lean ====
section
/-!
SUPPORT. The canonical form of the stored data: what the operations, the loop fabric, roles and the cells' issue rules keep. One lemma for each definition that changes the device.
-/

namespace Sys2Proof.Machine

/-! Machine/Ops.lean. -/

theorem Dev.flag_wf {d : Dev} (a1 : F) (a2 : Nat) (a3 : Bool) (h : d.wf) : (Dev.flag d a1 a2 a3).wf := by
  unfold Dev.flag
  repeat' with_reducible first
    | assumption
    | apply Dev.put_wf

theorem Dev.bump_wf {d : Dev} (a1 : F) (a2 : Nat) (a3 : Nat) (h : d.wf) : (Dev.bump d a1 a2 a3).wf := by
  unfold Dev.bump
  repeat' with_reducible first
    | assumption
    | apply Dev.put_wf

theorem Dev.bumpSat_wf {d : Dev} (a1 : F) (a2 : Nat) (h : d.wf) : (Dev.bumpSat d a1 a2).wf := by
  unfold Dev.bumpSat
  repeat' with_reducible first
    | assumption
    | (apply Dev.wf_ite <;> intro _)
    | apply Dev.put_wf

theorem Dev.sput_wf {d : Dev} (a1 : F) (a2 : Nat) (a3 : Int) (h : d.wf) : (Dev.sput d a1 a2 a3).wf := by
  unfold Dev.sput
  repeat' with_reducible first
    | assumption
    | apply Dev.put_wf

theorem Dev.fresh_wf {d : Dev} (h : d.wf) : (Dev.fresh d).2.wf := by
  unfold Dev.fresh
  repeat' with_reducible first
    | assumption
    | apply foldl_wf
    | intro _
    | refine Dev.wf_snd (by assumption) ?_
    | split
    | apply Dev.wf_mk

theorem Dev.report_wf {d : Dev} (a1 : Nat) (a2 : Nat) (a3 : Nat) (a4 : Nat) (h : d.wf) : (Dev.report d a1 a2 a3 a4).wf := by
  unfold Dev.report
  repeat' with_reducible first
    | assumption
    | apply Dev.put_wf
    | apply foldl_wf
    | intro _
    | refine Dev.wf_snd (by assumption) ?_
    | split
    | apply Dev.wf_mk

theorem Dev.copyToTaps_wf {d : Dev} (a1 : Bool) (a2 : Nat) (a3 : Nat) (a4 : Nat) (a5 : Nat) (a6 : Nat) (a7 : Nat) (h : d.wf) : (Dev.copyToTaps d a1 a2 a3 a4 a5 a6 a7).wf := by
  unfold Dev.copyToTaps
  repeat' with_reducible first
    | assumption
    | (apply Dev.wf_ite <;> intro _)
    | apply forN_wf
    | apply foldl_wf
    | intro _
    | refine Dev.wf_snd (by assumption) ?_
    | split
    | apply Dev.wf_mk

theorem Dev.tapEvent_wf {d : Dev} (a1 : Nat) (a2 : Nat) (a3 : Nat) (a4 : Nat) (h : d.wf) : (Dev.tapEvent d a1 a2 a3 a4).wf := by
  unfold Dev.tapEvent
  repeat' with_reducible first
    | assumption
    | apply Dev.copyToTaps_wf

theorem Dev.forceTok_wf {d : Dev} (a1 : Token) (h : d.wf) : (Dev.forceTok d a1).2.wf := by
  unfold Dev.forceTok
  repeat' with_reducible first
    | assumption
    | apply Dev.bump_wf
    | apply Dev.put_wf
    | apply foldl_wf
    | intro _
    | refine Dev.wf_snd (by assumption) ?_
    | split

theorem Dev.enterNet_wf {d : Dev} (a1 : Flight) (h : d.wf) : (Dev.enterNet d a1).wf := by
  unfold Dev.enterNet
  repeat' with_reducible first
    | assumption
    | apply Dev.bump_wf
    | apply Dev.copyToTaps_wf
    | apply Dev.forceTok_wf
    | apply foldl_wf
    | intro _
    | refine Dev.wf_snd (by assumption) ?_
    | split
    | apply Dev.wf_mk

theorem Dev.launch_wf {d : Dev} (a1 : Flight) (h : d.wf) : (Dev.launch d a1).wf := by
  unfold Dev.launch
  repeat' with_reducible first
    | assumption
    | (apply Dev.wf_ite <;> intro _)
    | apply Dev.enterNet_wf
    | apply foldl_wf
    | intro _
    | refine Dev.wf_snd (by assumption) ?_
    | split
    | apply Dev.wf_mk

theorem Dev.resume_wf {d : Dev} (a1 : Prod) (h : d.wf) : (Dev.resume d a1).wf := by
  unfold Dev.resume
  repeat' with_reducible first
    | assumption
    | apply Dev.enterNet_wf
    | apply foldl_wf
    | intro _
    | refine Dev.wf_snd (by assumption) ?_
    | split
    | apply Dev.wf_mk

/-! Machine/Fabric.lean. -/

theorem Dev.setFate_wf {d : Dev} (a1 : Nat) (a2 : Nat) (a3 : FateKind) (h : d.wf) : (Dev.setFate d a1 a2 a3).wf := by
  unfold Dev.setFate
  repeat' with_reducible first
    | assumption
    | apply foldl_wf
    | intro _
    | refine Dev.wf_snd (by assumption) ?_
    | split
    | apply Dev.wf_mk

theorem Dev.dropFate_wf {d : Dev} (a1 : Nat) (a2 : Nat) (h : d.wf) : (Dev.dropFate d a1 a2).wf := by
  unfold Dev.dropFate
  repeat' with_reducible first
    | assumption
    | apply foldl_wf
    | intro _
    | refine Dev.wf_snd (by assumption) ?_
    | split
    | apply Dev.wf_mk

theorem Dev.setBank_wf {d : Dev} (a1 : Nat) (a2 : Nat) (a3 : Bank) (h : d.wf) : (Dev.setBank d a1 a2 a3).wf := by
  unfold Dev.setBank
  repeat' with_reducible first
    | assumption
    | apply foldl_wf
    | intro _
    | refine Dev.wf_snd (by assumption) ?_
    | split
    | apply Dev.wf_mk

theorem Dev.setLoaded_wf {d : Dev} (a1 : Nat) (a2 : Nat) (a3 : Bool) (h : d.wf) : (Dev.setLoaded d a1 a2 a3).wf := by
  unfold Dev.setLoaded
  repeat' with_reducible first
    | assumption
    | (apply Dev.wf_ite <;> intro _)
    | apply Dev.flag_wf

theorem Dev.restoreDone_wf {d : Dev} (a1 : Nat) (h : d.wf) : (Dev.restoreDone d a1).wf := by
  unfold Dev.restoreDone
  repeat' with_reducible first
    | assumption
    | (apply Dev.wf_ite <;> intro _)
    | apply Dev.put_wf

theorem Dev.release_wf {d : Dev} (a1 : Nat) (h : d.wf) : (Dev.release d a1).wf := by
  unfold Dev.release
  repeat' with_reducible first
    | assumption
    | (apply Dev.wf_ite <;> intro _)
    | apply Dev.put_wf
    | apply Dev.restoreDone_wf
    | apply Dev.setBank_wf
    | apply Dev.setLoaded_wf

theorem Dev.abort_wf {d : Dev} (a1 : Nat) (a2 : Nat) (a3 : BitVec 13) (h : d.wf) : (Dev.abort d a1 a2 a3).wf := by
  unfold Dev.abort
  repeat' with_reducible first
    | assumption
    | apply Dev.bumpSat_wf
    | apply Dev.put_wf
    | apply Dev.release_wf
    | apply Dev.report_wf
    | apply Dev.setFate_wf

theorem Dev.putEntry_wf {d : Dev} (a1 : Entry) (h : d.wf) : (Dev.putEntry d a1).wf := by
  unfold Dev.putEntry
  repeat' with_reducible first
    | assumption
    | apply foldl_wf
    | intro _
    | refine Dev.wf_snd (by assumption) ?_
    | split
    | apply Dev.wf_mk

theorem Dev.freeEntry_wf {d : Dev} (a1 : Nat) (a2 : Nat) (h : d.wf) : (Dev.freeEntry d a1 a2).wf := by
  unfold Dev.freeEntry
  repeat' with_reducible first
    | assumption
    | apply foldl_wf
    | intro _
    | refine Dev.wf_snd (by assumption) ?_
    | split
    | apply Dev.wf_mk

theorem Dev.notePeak_wf {d : Dev} (a1 : Nat) (h : d.wf) : (Dev.notePeak d a1).wf := by
  unfold Dev.notePeak
  repeat' with_reducible first
    | assumption
    | (apply Dev.wf_ite <;> intro _)
    | apply Dev.put_wf

theorem Dev.consume_wf {d : Dev} (a1 : Nat) (a2 : Nat) (a3 : Word) (a4 : Byte) (h : d.wf) : (Dev.consume d a1 a2 a3 a4).wf := by
  unfold Dev.consume
  repeat' with_reducible first
    | assumption
    | apply Dev.put_wf

theorem Dev.consumeUnused_wf {d : Dev} (a1 : Nat) (a2 : Nat) (a3 : Word) (a4 : Byte) (h : d.wf) : (Dev.consumeUnused d a1 a2 a3 a4).wf := by
  unfold Dev.consumeUnused
  repeat' with_reducible first
    | assumption
    | apply Dev.bump_wf
    | apply Dev.consume_wf

theorem Dev.makeReady_wf {d : Dev} (a1 : Entry) (h : d.wf) : (Dev.makeReady d a1).wf := by
  unfold Dev.makeReady
  repeat' with_reducible first
    | assumption
    | apply Dev.putEntry_wf
    | apply foldl_wf
    | intro _
    | refine Dev.wf_snd (by assumption) ?_
    | split
    | apply Dev.wf_mk

theorem Dev.place_wf {d : Dev} (a1 : Entry) (a2 : Nat) (a3 : Token) (h : d.wf) : (Dev.place d a1 a2 a3).wf := by
  unfold Dev.place
  repeat' with_reducible first
    | assumption
    | (apply Dev.wf_ite <;> intro _)
    | apply Dev.consumeUnused_wf
    | apply Dev.makeReady_wf
    | apply Dev.putEntry_wf
    | apply foldl_wf
    | intro _
    | refine Dev.wf_snd (by assumption) ?_
    | split

theorem Dev.takeToken_wf {d : Dev} (a1 : Token) (h : d.wf) : ∀ x, (Dev.takeToken d a1) = some x → x.wf := by
  intro x hx
  unfold Dev.takeToken at hx
  dsimp only at hx
  have hc : ∀ e : Dev, e.wf → ∀ c : Bool, ∀ g, (if c = true then e.bumpSat .SLOT_PEND_TYPE_MM g else e).wf :=
    fun e he c g => Dev.wf_ite (fun _ => Dev.bumpSat_wf _ _ he) (fun _ => he)
  split at hx
  · cases hx; exact Dev.bump_wf _ _ _ h
  · split at hx
    · cases hx; exact Dev.consumeUnused_wf _ _ _ _ (hc _ (Dev.bump_wf _ _ _ h) _ _)
    · split at hx
      · cases hx; exact Dev.place_wf _ _ _ (hc _ (Dev.bump_wf _ _ _ h) _ _)
      · split at hx
        · cases hx; exact Dev.notePeak_wf _ (Dev.place_wf _ _ _ (hc _ (Dev.bump_wf _ _ _ h) _ _))
        · cases hx

theorem Dev.stall_wf {d : Dev} (a1 : Flight) (h : d.wf) : (Dev.stall d a1).wf := by
  unfold Dev.stall
  repeat' with_reducible first
    | assumption
    | apply Dev.put_wf
    | apply foldl_wf
    | intro _
    | refine Dev.wf_snd (by assumption) ?_
    | split
    | apply Dev.wf_mk

theorem Dev.tokenAccepted_wf {d : Dev} (a1 : Nat) (a2 : Nat) (h : d.wf) : (Dev.tokenAccepted d a1 a2).wf := by
  unfold Dev.tokenAccepted
  split
  · exact h
  · split
    · exact h
    · have he : Dev.wf { d with net := d.net.eraseIdx a2 } := Dev.wf_mk h
      exact Dev.wf_ite (fun _ => Dev.stall_wf _ he) (fun _ => Dev.wf_getD (Dev.takeToken_wf _ he) (Dev.stall_wf _ he))

theorem Dev.firstTakeable_wf {d : Dev} (a1 : Flight → Bool) (a2 : List Flight) (h : d.wf) : ∀ x, (Dev.firstTakeable d a1 a2) = some x → x.2.wf := by
  intro x hx
  induction a2 with
  | nil => cases hx
  | cons f t ih =>
    unfold Dev.firstTakeable at hx
    split at hx
    · split at hx
      · rename_i d' hd
        cases hx; exact Dev.takeToken_wf _ h _ hd
      · exact ih hx
    · exact ih hx

theorem Dev.unstall_wf {d : Dev} (a1 : Flight → Bool) (h : d.wf) : (Dev.unstall d a1).wf := by
  unfold Dev.unstall
  split
  · exact h
  · rename_i r hr
    exact Dev.resume_wf _ (Dev.wf_mk (Dev.firstTakeable_wf _ _ h _ hr))

theorem Dev.stalledTokenAccepted_wf {d : Dev} (a1 : Nat) (h : d.wf) : (Dev.stalledTokenAccepted d a1).wf := by
  unfold Dev.stalledTokenAccepted
  repeat' with_reducible first
    | assumption
    | (apply Dev.wf_ite <;> intro _)
    | apply Dev.unstall_wf

theorem Dev.cometLaneRelease_wf {d : Dev} (a1 : Nat) (h : d.wf) : (Dev.cometLaneRelease d a1).wf := by
  unfold Dev.cometLaneRelease
  repeat' with_reducible first
    | assumption
    | (apply Dev.wf_ite <;> intro _)
    | apply Dev.unstall_wf
    | apply foldl_wf
    | intro _
    | refine Dev.wf_snd (by assumption) ?_
    | split

theorem Dev.handoverEntry_wf {d : Dev} (a1 : Nat) (h : d.wf) : (Dev.handoverEntry d a1).wf := by
  unfold Dev.handoverEntry
  repeat' with_reducible first
    | assumption
    | (apply Dev.wf_ite <;> intro _)
    | apply Dev.makeReady_wf
    | apply Dev.notePeak_wf
    | apply foldl_wf
    | intro _
    | refine Dev.wf_snd (by assumption) ?_
    | split

theorem Dev.consumeEntry_wf {d : Dev} (a1 : Nat) (a2 : Bool) (a3 : List Placed) (h : d.wf) : (Dev.consumeEntry d a1 a2 a3).wf := by
  unfold Dev.consumeEntry
  repeat' with_reducible first
    | assumption
    | (apply Dev.wf_ite <;> intro _)
    | apply Dev.bump_wf
    | apply Dev.consumeUnused_wf
    | apply Dev.consume_wf
    | apply foldl_wf
    | intro _

theorem Dev.loadBank_wf {d : Dev} (a1 : Nat) (a2 : Nat) (a3 : ReadyF) (h : d.wf) : (Dev.loadBank d a1 a2 a3).wf := by
  unfold Dev.loadBank
  repeat' with_reducible first
    | assumption
    | (apply Dev.wf_ite <;> intro _)
    | apply Dev.consumeEntry_wf
    | apply Dev.freeEntry_wf
    | apply Dev.put_wf
    | apply Dev.setBank_wf
    | apply Dev.setFate_wf
    | apply Dev.setLoaded_wf
    | apply foldl_wf
    | intro _
    | refine Dev.wf_snd (by assumption) ?_
    | split
    | apply Dev.wf_mk

theorem Dev.dispatch_wf {d : Dev} (a1 : Nat) (h : d.wf) : (Dev.dispatch d a1).wf := by
  unfold Dev.dispatch
  repeat' with_reducible first
    | assumption
    | (apply Dev.wf_ite <;> intro _)
    | apply Dev.fresh_wf
    | apply Dev.loadBank_wf
    | apply Dev.put_wf
    | apply foldl_wf
    | intro _
    | refine Dev.wf_snd (by assumption) ?_
    | split
    | apply Dev.wf_mk

theorem Dev.preempt_wf {d : Dev} (a1 : Nat) (h : d.wf) : (Dev.preempt d a1).wf := by
  unfold Dev.preempt
  repeat' with_reducible first
    | assumption
    | (apply Dev.wf_ite <;> intro _)
    | apply Dev.put_wf
    | apply Dev.setBank_wf

theorem Dev.withdraw_wf {d : Dev} (a1 : Nat) (a2 : Nat) (h : d.wf) : (Dev.withdraw d a1 a2).wf := by
  unfold Dev.withdraw
  repeat' with_reducible first
    | assumption
    | apply Dev.consumeUnused_wf
    | apply Dev.freeEntry_wf
    | apply foldl_wf
    | intro _
    | refine Dev.wf_snd (by assumption) ?_
    | split
    | apply Dev.wf_mk

theorem Dev.deadlineMiss_wf {d : Dev} (a1 : Nat) (h : d.wf) : (Dev.deadlineMiss d a1).wf := by
  unfold Dev.deadlineMiss
  repeat' with_reducible first
    | assumption
    | (apply Dev.wf_ite <;> intro _)
    | apply Dev.bump_wf
    | apply Dev.put_wf
    | apply Dev.report_wf
    | apply Dev.setFate_wf
    | apply Dev.withdraw_wf
    | apply foldl_wf
    | intro _
    | refine Dev.wf_snd (by assumption) ?_
    | split

theorem Dev.stageToImage_wf {d : Dev} (a1 : Nat) (h : d.wf) : (Dev.stageToImage d a1).wf := by
  unfold Dev.stageToImage
  repeat' with_reducible first
    | assumption
    | (apply Dev.wf_ite <;> intro _)
    | apply Dev.setByte_wf
    | apply forN_wf
    | apply foldl_wf
    | intro _

theorem Dev.stageWrite_wf {d : Dev} (a1 : Nat) (a2 : Nat) (a3 : Nat) (h : d.wf) : (Dev.stageWrite d a1 a2 a3).wf := by
  unfold Dev.stageWrite
  repeat' with_reducible first
    | assumption
    | apply Dev.put_wf
    | apply Dev.stageToImage_wf

theorem Dev.stageSafe_wf {d : Dev} (a1 : Nat) (h : d.wf) : (Dev.stageSafe d a1).wf := by
  unfold Dev.stageSafe
  repeat' with_reducible first
    | assumption
    | apply Dev.put_wf
    | apply Dev.stageToImage_wf

theorem Dev.stageHold_wf {d : Dev} (a1 : Nat) (h : d.wf) : (Dev.stageHold d a1).wf := by
  unfold Dev.stageHold
  repeat' with_reducible first
    | assumption
    | apply Dev.put_wf

theorem Dev.stageFiring_wf {d : Dev} (a1 : Nat) (a2 : Nat) (a3 : Nat) (a4 : Nat) (h : d.wf) : (Dev.stageFiring d a1 a2 a3 a4).wf := by
  unfold Dev.stageFiring
  repeat' with_reducible first
    | assumption
    | (apply Dev.wf_ite <;> intro _)
    | apply Dev.flag_wf
    | apply Dev.put_wf
    | apply Dev.stageWrite_wf

theorem Dev.stageInstant_wf {d : Dev} (a1 : Nat) (a2 : Nat) (a3 : OutAct) (a4 : Nat) (h : d.wf) : (Dev.stageInstant d a1 a2 a3 a4).wf := by
  unfold Dev.stageInstant
  repeat' with_reducible first
    | assumption
    | apply Dev.put_wf
    | apply Dev.stageFiring_wf
    | apply Dev.stageHold_wf
    | apply Dev.stageSafe_wf
    | apply Dev.stageWrite_wf
    | apply foldl_wf
    | intro _
    | refine Dev.wf_snd (by assumption) ?_
    | split

theorem Dev.outputInstant_wf {d : Dev} (a1 : Nat) (h : d.wf) : (Dev.outputInstant d a1).wf := by
  unfold Dev.outputInstant
  repeat' with_reducible first
    | assumption
    | (apply Dev.wf_ite <;> intro _)
    | apply Dev.dropFate_wf
    | apply Dev.put_wf
    | apply Dev.report_wf
    | apply Dev.stageInstant_wf
    | apply Dev.stageSafe_wf
    | apply foldl_wf
    | intro _
    | refine Dev.wf_snd (by assumption) ?_
    | split
    | apply Dev.wf_mk

theorem Dev.tokenAtStage_wf {d : Dev} (a1 : Nat) (h : d.wf) : (Dev.tokenAtStage d a1).wf := by
  unfold Dev.tokenAtStage
  repeat' with_reducible first
    | assumption
    | (apply Dev.wf_ite <;> intro _)
    | apply Dev.bumpSat_wf
    | apply foldl_wf
    | intro _
    | refine Dev.wf_snd (by assumption) ?_
    | split
    | apply Dev.wf_mk

theorem Dev.reqEn_wf {d : Dev} (a1 : Nat) (h : d.wf) : (Dev.reqEn d a1).wf := by
  unfold Dev.reqEn
  repeat' with_reducible first
    | assumption
    | (apply Dev.wf_ite <;> intro _)
    | apply Dev.put_wf
    | apply foldl_wf
    | intro _
    | refine Dev.wf_snd (by assumption) ?_
    | split
    | apply Dev.wf_mk

theorem Dev.reqSwap_wf {d : Dev} (a1 : Nat) (h : d.wf) : (Dev.reqSwap d a1).wf := by
  unfold Dev.reqSwap
  repeat' with_reducible first
    | assumption
    | (apply Dev.wf_ite <;> intro _)
    | apply Dev.put_wf
    | apply foldl_wf
    | intro _
    | refine Dev.wf_snd (by assumption) ?_
    | split
    | apply Dev.wf_mk

theorem Dev.reqDis_wf {d : Dev} (a1 : Nat) (h : d.wf) : (Dev.reqDis d a1).wf := by
  unfold Dev.reqDis
  repeat' with_reducible first
    | assumption
    | (apply Dev.wf_ite <;> intro _)
    | apply Dev.put_wf

theorem Dev.reqBits_wf {d : Dev} (a1 : Nat) (a2 : Bool) (a3 : Bool) (a4 : Bool) (h : d.wf) : (Dev.reqBits d a1 a2 a3 a4).wf := by
  unfold Dev.reqBits
  repeat' with_reducible first
    | assumption
    | (apply Dev.wf_ite <;> intro _)
    | apply Dev.put_wf
    | apply Dev.reqDis_wf
    | apply Dev.reqEn_wf
    | apply Dev.reqSwap_wf

theorem Dev.putLoad_wf {d : Dev} (a1 : Nat) (a2 : Nat) (h : d.wf) : (Dev.putLoad d a1 a2).wf := by
  unfold Dev.putLoad
  repeat' with_reducible first
    | assumption
    | apply Dev.put_wf

theorem Dev.passEnable_wf {d : Dev} (a1 : Nat) (h : d.wf) : (Dev.passEnable d a1).wf := by
  unfold Dev.passEnable
  repeat' with_reducible first
    | assumption
    | apply Dev.putLoad_wf
    | apply Dev.put_wf
    | apply forN_wf
    | apply foldl_wf
    | intro _

theorem Dev.passSwap_wf {d : Dev} (a1 : Nat) (h : d.wf) : (Dev.passSwap d a1).wf := by
  unfold Dev.passSwap
  repeat' with_reducible first
    | assumption
    | apply Dev.put_wf

theorem Dev.admissionCheck_wf {d : Dev} (a1 : Nat) (h : d.wf) : (Dev.admissionCheck d a1).wf := by
  unfold Dev.admissionCheck
  repeat' with_reducible first
    | assumption
    | (apply Dev.wf_ite <;> intro _)
    | apply Dev.passEnable_wf
    | apply Dev.passSwap_wf
    | apply Dev.put_wf
    | apply foldl_wf
    | intro _
    | refine Dev.wf_snd (by assumption) ?_
    | split
    | apply Dev.wf_mk

theorem Dev.mirrorStale_wf {d : Dev} (a1 : Nat) (h : d.wf) : (Dev.mirrorStale d a1).wf := by
  unfold Dev.mirrorStale
  repeat' with_reducible first
    | assumption
    | apply Dev.put_wf

theorem Dev.slotEnable_wf {d : Dev} (a1 : Nat) (h : d.wf) : (Dev.slotEnable d a1).wf := by
  unfold Dev.slotEnable
  repeat' with_reducible first
    | assumption
    | (apply Dev.wf_ite <;> intro _)
    | apply Dev.mirrorStale_wf
    | apply Dev.put_wf

theorem Dev.disable_wf {d : Dev} (a1 : Nat) (h : d.wf) : (Dev.disable d a1).wf := by
  unfold Dev.disable
  repeat' with_reducible first
    | assumption
    | apply Dev.mirrorStale_wf
    | apply Dev.putLoad_wf
    | apply Dev.put_wf
    | apply Dev.withdraw_wf
    | apply foldl_wf
    | intro _
    | refine Dev.wf_snd (by assumption) ?_
    | split
    | apply Dev.wf_mk

theorem Dev.slotDisable_wf {d : Dev} (a1 : Nat) (h : d.wf) : (Dev.slotDisable d a1).wf := by
  unfold Dev.slotDisable
  repeat' with_reducible first
    | assumption
    | (apply Dev.wf_ite <;> intro _)
    | apply Dev.disable_wf

theorem Dev.swapEffect_wf {d : Dev} (a1 : Nat) (h : d.wf) : (Dev.swapEffect d a1).wf := by
  unfold Dev.swapEffect
  repeat' with_reducible first
    | assumption
    | (apply Dev.wf_ite <;> intro _)
    | apply Dev.putLoad_wf
    | apply Dev.put_wf

theorem Dev.disableBlock_wf {d : Dev} (a1 : Nat) (a2 : Nat) (h : d.wf) : (Dev.disableBlock d a1 a2).wf := by
  unfold Dev.disableBlock
  repeat' with_reducible first
    | assumption
    | (apply Dev.wf_ite <;> intro _)
    | apply Dev.disable_wf
    | apply Dev.put_wf
    | apply forN_wf
    | apply foldl_wf
    | intro _

theorem Dev.blockStop_wf {d : Dev} (a1 : Nat) (h : d.wf) : (Dev.blockStop d a1).wf := by
  unfold Dev.blockStop
  repeat' with_reducible first
    | assumption
    | (apply Dev.wf_ite <;> intro _)
    | apply Dev.disableBlock_wf
    | apply Dev.put_wf

theorem Dev.capture_wf {d : Dev} (a1 : List (F × Nat × Nat)) (h : d.wf) : (Dev.capture d a1).wf :=
  ⟨h.1, h.2.1, h.2.2.1, h.2.2.2.1, h.2.2.2.2.1, caps_join a1 _ h.2.2.2.2.2⟩

theorem Dev.fullseenClear_wf {d : Dev} (a1 : Nat) (h : d.wf) : (Dev.fullseenClear d a1).wf := by
  unfold Dev.fullseenClear
  repeat' with_reducible first
    | assumption
    | apply Dev.put_wf

theorem Dev.tokInRead_wf {d : Dev} (a1 : Nat) (h : d.wf) : (Dev.tokInRead d a1).wf := by
  unfold Dev.tokInRead
  repeat' with_reducible first
    | assumption
    | apply Dev.capture_wf

/-! Machine/Roles.lean. -/

theorem Dev.setRole_wf {d : Dev} (a1 : Nat) (a2 : Nat) (h : d.wf) : (Dev.setRole d a1 a2).wf := by
  unfold Dev.setRole
  repeat' with_reducible first
    | assumption
    | (apply Dev.wf_ite <;> intro _)
    | apply Dev.put_wf
    | apply Dev.report_wf

theorem Dev.sendPair_wf {d : Dev} (a1 : PairMsg) (h : d.wf) : (Dev.sendPair d a1).wf := by
  unfold Dev.sendPair
  repeat' with_reducible first
    | assumption
    | apply foldl_wf
    | intro _
    | refine Dev.wf_snd (by assumption) ?_
    | split
    | apply Dev.wf_mk

theorem Dev.resignIfActive_wf {d : Dev} (h : d.wf) : (Dev.resignIfActive d).wf := by
  unfold Dev.resignIfActive
  repeat' with_reducible first
    | assumption
    | (apply Dev.wf_ite <;> intro _)
    | apply Dev.sendPair_wf

theorem Dev.takeFailed_wf {d : Dev} (a1 : Nat) (h : d.wf) : (Dev.takeFailed d a1).wf := by
  unfold Dev.takeFailed
  repeat' with_reducible first
    | assumption
    | apply Dev.setRole_wf
    | apply Dev.stageSafe_wf
    | apply foldl_wf

theorem Dev.deviceFault_wf {d : Dev} (a1 : Nat) (h : d.wf) : (Dev.deviceFault d a1).wf := by
  unfold Dev.deviceFault
  repeat' with_reducible first
    | assumption
    | (apply Dev.wf_ite <;> intro _)
    | apply Dev.report_wf
    | apply Dev.resignIfActive_wf
    | apply Dev.takeFailed_wf

/-! Machine/Operands.lean. -/

theorem Dev.mirrorWrite_wf {d : Dev} (a1 : Nat) (a2 : Nat) (a3 : Nat) (h : d.wf) : (Dev.mirrorWrite d a1 a2 a3).wf := by
  unfold Dev.mirrorWrite
  repeat' with_reducible first
    | assumption
    | (apply Dev.wf_ite <;> intro _)
    | apply Dev.wr_wf
    | apply foldl_wf
    | intro _
    | refine Dev.wf_snd (by assumption) ?_
    | split

theorem Dev.dmWrite_wf {d : Dev} (a1 : Nat) (a2 : BitVec 14) (a3 : Word) (h : d.wf) : (Dev.dmWrite d a1 a2 a3).wf := by
  unfold Dev.dmWrite
  repeat' with_reducible first
    | assumption
    | apply Dev.mirrorWrite_wf
    | apply Dev.wr_wf

theorem Dev.issue_wf {d : Dev} (a1 : Nat) (a2 : Issue) (a3 : Dev → Bank → Dev × Bank) (h3 : ∀ x0 x1, x0.wf → (a3 x0 x1).1.wf) (h : d.wf) : (Dev.issue d a1 a2 a3).wf := by
  unfold Dev.issue
  split
  · exact h
  · split
    · exact Dev.abort_wf _ _ _ h
    · split
      · exact Dev.abort_wf _ _ _ h
      · dsimp only
        split
        · exact Dev.abort_wf _ _ _ h
        · apply Dev.setBank_wf
          have key : ∀ n (x : Dev × Bank), x.1.wf → (timesN n (fun x => a3 x.1 x.2) x).1.wf := by
            intro n
            induction n with
            | zero => exact fun x hx => hx
            | succ n ih => exact fun x hx => ih _ (h3 _ _ hx)
          exact key _ _ h

theorem Dev.issueR_wf {d : Dev} (a1 : Nat) (a2 : Issue) (a3 : Bank → Bank) (h : d.wf) : (Dev.issueR d a1 a2 a3).wf := by
  unfold Dev.issueR
  repeat' with_reducible first
    | assumption
    | apply Dev.issue_wf
    | apply foldl_wf
    | intro _

end Sys2Proof.Machine
end

