-- ==== Sys2Proof/Laws/CanonicalMotion.lean ====
section
/-!
SUPPORT. The canonical form of the stored data: what the scheduler, cyclic tasks, encoders, axes, PWM and steppers keep. One lemma for each definition that changes the device.
-/

namespace Sys2Proof.Machine

/-! Machine/Sched.lean. -/

theorem Dev.setCtx_wf {d : Dev} (a1 : Nat) (a2 : TaskCtx) (h : d.wf) : (Dev.setCtx d a1 a2).wf := by
  unfold Dev.setCtx
  repeat' with_reducible first
    | assumption
    | apply foldl_wf
    | intro _
    | refine Dev.wf_snd (by assumption) ?_
    | split
    | apply Dev.wf_mk

theorem Dev.setX_wf {d : Dev} (a1 : Nat) (a2 : BitVec 5) (a3 : DWord) (h : d.wf) : (Dev.setX d a1 a2 a3).wf := by
  unfold Dev.setX
  repeat' with_reducible first
    | assumption
    | apply Dev.setCtx_wf

theorem Dev.srBit_wf {d : Dev} (a1 : Nat) (a2 : Nat) (a3 : Bool) (h : d.wf) : (Dev.srBit d a1 a2 a3).wf := by
  unfold Dev.srBit
  repeat' with_reducible first
    | assumption
    | apply Dev.setCtx_wf

theorem Dev.ready_wf {d : Dev} (a1 : Nat) (h : d.wf) : (Dev.ready d a1).wf := by
  unfold Dev.ready
  repeat' with_reducible first
    | assumption
    | apply Dev.put_wf
    | apply Dev.setCtx_wf
    | apply foldl_wf
    | intro _
    | refine Dev.wf_snd (by assumption) ?_
    | split
    | apply Dev.wf_mk

theorem Dev.leaveCore_wf {d : Dev} (a1 : Nat) (h : d.wf) : (Dev.leaveCore d a1).wf := by
  unfold Dev.leaveCore
  repeat' with_reducible first
    | assumption
    | (apply Dev.wf_ite <;> intro _)
    | apply Dev.put_wf

theorem Dev.dormant_wf {d : Dev} (a1 : Nat) (h : d.wf) : (Dev.dormant d a1).wf := by
  unfold Dev.dormant
  repeat' with_reducible first
    | assumption
    | apply Dev.leaveCore_wf
    | apply Dev.put_wf
    | apply Dev.setCtx_wf
    | apply foldl_wf
    | intro _
    | refine Dev.wf_snd (by assumption) ?_
    | split
    | apply Dev.wf_mk

theorem Dev.start_wf {d : Dev} (a1 : Nat) (h : d.wf) : (Dev.start d a1).wf := by
  unfold Dev.start
  repeat' with_reducible first
    | assumption
    | apply Dev.put_wf
    | apply Dev.ready_wf
    | apply Dev.setCtx_wf

theorem Dev.block_wf {d : Dev} (a1 : Nat) (a2 : Nat) (a3 : Wait) (h : d.wf) : (Dev.block d a1 a2 a3).wf := by
  unfold Dev.block
  repeat' with_reducible first
    | assumption
    | (apply Dev.wf_ite <;> intro _)
    | apply Dev.leaveCore_wf
    | apply Dev.put_wf
    | apply Dev.setCtx_wf
    | apply foldl_wf
    | intro _
    | refine Dev.wf_snd (by assumption) ?_
    | split
    | apply Dev.wf_mk

theorem Dev.setWake_wf {d : Dev} (a1 : Nat) (a2 : Nat) (h : d.wf) : (Dev.setWake d a1 a2).wf := by
  unfold Dev.setWake
  repeat' with_reducible first
    | assumption
    | apply Dev.put_wf

theorem Dev.setFlags_wf {d : Dev} (a1 : Nat) (a2 : Nat) (h : d.wf) : (Dev.setFlags d a1 a2).wf := by
  unfold Dev.setFlags
  repeat' with_reducible first
    | assumption
    | (apply Dev.wf_ite <;> intro _)
    | apply Dev.put_wf

theorem Dev.flagDone_wf {d : Dev} (a1 : Nat) (a2 : Nat) (a3 : Bool) (a4 : Bool) (a5 : BitVec 5) (h : d.wf) : (Dev.flagDone d a1 a2 a3 a4 a5).wf := by
  unfold Dev.flagDone
  repeat' with_reducible first
    | assumption
    | (apply Dev.wf_ite <;> intro _)
    | apply Dev.put_wf
    | apply Dev.setX_wf
    | apply Dev.srBit_wf

theorem Dev.imageWrite_wf {d : Dev} (a1 : Nat) (a2 : Nat) (a3 : Nat) (h : d.wf) : (Dev.imageWrite d a1 a2 a3).wf := by
  unfold Dev.imageWrite
  repeat' with_reducible first
    | assumption
    | (apply Dev.wf_ite <;> intro _)
    | apply Dev.bumpSat_wf
    | apply Dev.setByte_wf
    | apply forN_wf
    | apply foldl_wf
    | intro _

theorem Dev.portLaunch_wf {d : Dev} (a1 : Nat) (a2 : Token) (h : d.wf) : (Dev.portLaunch d a1 a2).wf := by
  unfold Dev.portLaunch
  repeat' with_reducible first
    | assumption
    | apply Dev.launch_wf

theorem Dev.safeImage_wf {d : Dev} (a1 : Nat) (h : d.wf) : (Dev.safeImage d a1).wf := by
  unfold Dev.safeImage
  repeat' with_reducible first
    | assumption
    | (apply Dev.wf_ite <;> intro _)
    | apply Dev.imageWrite_wf
    | apply forN_wf
    | apply foldl_wf
    | intro _

theorem Dev.abandonChange_wf {d : Dev} (h : d.wf) : (Dev.abandonChange d).wf := by
  unfold Dev.abandonChange
  repeat' with_reducible first
    | assumption
    | (apply Dev.wf_ite <;> intro _)
    | apply Dev.put_wf
    | apply foldl_wf
    | intro _
    | refine Dev.wf_snd (by assumption) ?_
    | split
    | apply Dev.wf_mk

theorem Dev.stopProgram_wf {d : Dev} (a1 : Nat) (a2 : Nat) (h : d.wf) : (Dev.stopProgram d a1 a2).wf := by
  unfold Dev.stopProgram
  repeat' with_reducible first
    | assumption
    | (apply Dev.wf_ite <;> intro _)
    | apply Dev.abandonChange_wf
    | apply Dev.put_wf
    | apply Dev.report_wf
    | apply Dev.resignIfActive_wf
    | apply Dev.safeImage_wf
    | apply Dev.takeFailed_wf
    | apply forN_wf
    | apply foldl_wf
    | intro _
    | refine Dev.wf_snd (by assumption) ?_
    | split
    | apply Dev.wf_mk

theorem Dev.taskFault_wf {d : Dev} (a1 : Nat) (a2 : Nat) (h : d.wf) : (Dev.taskFault d a1 a2).wf := by
  unfold Dev.taskFault
  repeat' with_reducible first
    | assumption
    | apply Dev.leaveCore_wf
    | apply Dev.put_wf
    | apply Dev.stopProgram_wf

theorem Dev.issueT_wf {d : Dev} (a1 : Nat) (a2 : Bool) (a3 : Nat) (a4 : Nat → Dev → Dev) (h4 : ∀ x0 x1, x1.wf → (a4 x0 x1).wf) (h : d.wf) : (Dev.issueT d a1 a2 a3 a4).wf := by
  unfold Dev.issueT
  repeat' with_reducible first
    | assumption
    | (apply Dev.wf_ite <;> intro _)
    | apply Dev.bump_wf
    | apply Dev.put_wf
    | apply Dev.taskFault_wf
    | apply h4
    | apply foldl_wf
    | intro _
    | refine Dev.wf_snd (by assumption) ?_
    | split

theorem Dev.issueX_wf {d : Dev} (a1 : Nat) (a2 : Bool) (a3 : Nat) (a4 : TaskCtx → TaskCtx) (h : d.wf) : (Dev.issueX d a1 a2 a3 a4).wf := by
  unfold Dev.issueX
  repeat' with_reducible first
    | assumption
    | apply Dev.issueT_wf
    | apply Dev.setCtx_wf
    | apply foldl_wf
    | intro _

theorem Dev.faultBack_wf {d : Dev} (a1 : Nat) (a2 : Nat) (h : d.wf) : (Dev.faultBack d a1 a2).wf := by
  unfold Dev.faultBack
  repeat' with_reducible first
    | assumption
    | apply Dev.put_wf
    | apply Dev.taskFault_wf

theorem Dev.setQueue_wf {d : Dev} (a1 : Nat) (a2 : Queue) (h : d.wf) : (Dev.setQueue d a1 a2).wf := by
  unfold Dev.setQueue
  repeat' with_reducible first
    | assumption
    | apply foldl_wf
    | intro _
    | refine Dev.wf_snd (by assumption) ?_
    | split
    | apply Dev.wf_mk

theorem Dev.qstore_wf {d : Dev} (a1 : Nat) (a2 : Nat) (h : d.wf) : (Dev.qstore d a1 a2).wf := by
  unfold Dev.qstore
  repeat' with_reducible first
    | assumption
    | (apply Dev.wf_ite <;> intro _)
    | apply Dev.bump_wf
    | apply Dev.setQueue_wf
    | apply Dev.wr_wf

theorem Dev.qcommit_wf {d : Dev} (a1 : Nat) (h : d.wf) : (Dev.qcommit d a1).wf := by
  unfold Dev.qcommit
  repeat' with_reducible first
    | assumption
    | (apply Dev.wf_ite <;> intro _)
    | apply Dev.setQueue_wf

theorem Dev.qrewind_wf {d : Dev} (a1 : Nat) (h : d.wf) : (Dev.qrewind d a1).wf := by
  unfold Dev.qrewind
  repeat' with_reducible first
    | assumption
    | apply Dev.bump_wf
    | apply Dev.setQueue_wf

theorem Dev.qtake_wf {d : Dev} (a1 : Nat) (h : d.wf) : (Dev.qtake d a1).2.2.wf := by
  unfold Dev.qtake
  dsimp only
  split
  · exact h
  · exact Dev.bump_wf _ _ _ (Dev.setQueue_wf _ _ h)

theorem Dev.qdrop_wf {d : Dev} (a1 : Nat) (h : d.wf) : (Dev.qdrop d a1).2.wf := by
  unfold Dev.qdrop
  dsimp only
  split
  · exact h
  · exact Dev.bump_wf _ _ _ (Dev.setQueue_wf _ _ h)

theorem Dev.qtakePacket_wf {d : Dev} (a1 : Nat) (h : d.wf) : (Dev.qtakePacket d a1).wf := by
  unfold Dev.qtakePacket
  repeat' with_reducible first
    | assumption
    | apply Dev.qtake_wf
    | apply timesN_wf
    | apply foldl_wf
    | intro _
    | refine Dev.wf_snd (by assumption) ?_
    | split

theorem Dev.qputPacket_wf {d : Dev} (a1 : Nat) (a2 : List Nat) (h : d.wf) : (Dev.qputPacket d a1 a2).2.wf := by
  unfold Dev.qputPacket
  repeat' with_reducible first
    | assumption
    | (apply Dev.wf_ite_snd <;> intro _)
    | apply Dev.qcommit_wf
    | apply Dev.qrewind_wf
    | apply Dev.qstore_wf
    | apply foldl_wf
    | intro _

theorem Dev.qattach_wf {d : Dev} (a1 : Nat) (a2 : Nat) (h : d.wf) : (Dev.qattach d a1 a2).wf := by
  unfold Dev.qattach
  repeat' with_reducible first
    | assumption
    | apply Dev.put_wf

theorem Dev.qdetach_wf {d : Dev} (a1 : Nat) (h : d.wf) : (Dev.qdetach d a1).wf := by
  unfold Dev.qdetach
  repeat' with_reducible first
    | assumption
    | apply Dev.put_wf

theorem Dev.doPush_wf {d : Dev} (a1 : Nat) (a2 : Nat) (a3 : DWord) (h : d.wf) : (Dev.doPush d a1 a2 a3).wf := by
  unfold Dev.doPush
  repeat' with_reducible first
    | assumption
    | (apply Dev.wf_ite <;> intro _)
    | apply Dev.qstore_wf
    | apply Dev.setQueue_wf
    | apply Dev.srBit_wf

theorem Dev.doPop_wf {d : Dev} (a1 : Nat) (a2 : Nat) (a3 : BitVec 5) (h : d.wf) : (Dev.doPop d a1 a2 a3).wf := by
  unfold Dev.doPop
  repeat' with_reducible first
    | assumption
    | apply Dev.qtake_wf
    | apply Dev.setX_wf
    | apply Dev.srBit_wf

theorem Dev.rewindOf_wf {d : Dev} (a1 : Nat) (h : d.wf) : (Dev.rewindOf d a1).wf := by
  unfold Dev.rewindOf
  repeat' with_reducible first
    | assumption
    | (apply Dev.wf_ite <;> intro _)
    | apply Dev.qrewind_wf
    | apply foldl_wf
    | intro _

theorem Dev.kill_wf {d : Dev} (a1 : Nat) (h : d.wf) : (Dev.kill d a1).wf := by
  unfold Dev.kill
  repeat' with_reducible first
    | assumption
    | apply Dev.dormant_wf
    | apply Dev.put_wf
    | apply Dev.rewindOf_wf

/-! Machine/Encoder.lean. -/

theorem Dev.fieldToken_wf {d : Dev} (a1 : Prod) (a2 : Nat) (a3 : Nat) (a4 : Nat) (a5 : Nat) (a6 : Nat) (h : d.wf) : (Dev.fieldToken d a1 a2 a3 a4 a5 a6).wf := by
  unfold Dev.fieldToken
  repeat' with_reducible first
    | assumption
    | (apply Dev.wf_ite <;> intro _)
    | apply Dev.launch_wf

theorem Dev.setCount_wf {d : Dev} (a1 : Nat) (a2 : DWord) (h : d.wf) : (Dev.setCount d a1 a2).wf := by
  unfold Dev.setCount
  repeat' with_reducible first
    | assumption
    | apply Dev.put_wf

theorem Dev.divider_wf {d : Dev} (a1 : Nat) (a2 : Int) (h : d.wf) : (Dev.divider d a1 a2).wf := by
  unfold Dev.divider
  repeat' with_reducible first
    | assumption
    | (apply Dev.wf_ite <;> intro _)
    | apply Dev.put_wf
    | apply Dev.sput_wf

theorem Dev.feedDividers_wf {d : Dev} (a1 : Nat) (a2 : Int) (h : d.wf) : (Dev.feedDividers d a1 a2).wf := by
  unfold Dev.feedDividers
  repeat' with_reducible first
    | assumption
    | (apply Dev.wf_ite <;> intro _)
    | apply Dev.divider_wf
    | apply forN_wf
    | apply foldl_wf
    | intro _

theorem Dev.pulseStart_wf {d : Dev} (a1 : Nat) (h : d.wf) : (Dev.pulseStart d a1).wf := by
  unfold Dev.pulseStart
  repeat' with_reducible first
    | assumption
    | apply Dev.put_wf

theorem Dev.pulseOut_wf {d : Dev} (a1 : Nat) (a2 : Nat) (h : d.wf) : (Dev.pulseOut d a1 a2).wf := by
  unfold Dev.pulseOut
  repeat' with_reducible first
    | assumption
    | apply Dev.put_wf
    | apply Dev.sput_wf

theorem Dev.pulseEmit_wf {d : Dev} (a1 : Nat) (h : d.wf) : (Dev.pulseEmit d a1).wf := by
  unfold Dev.pulseEmit
  repeat' with_reducible first
    | assumption
    | (apply Dev.wf_ite <;> intro _)
    | apply Dev.flag_wf
    | apply Dev.pulseOut_wf
    | apply Dev.put_wf

theorem Dev.edge_wf {d : Dev} (a1 : Nat) (a2 : Bool) (a3 : Nat) (a4 : DWord) (h : d.wf) : (Dev.edge d a1 a2 a3 a4).wf := by
  unfold Dev.edge
  repeat' with_reducible first
    | assumption
    | (apply Dev.wf_ite <;> intro _)
    | apply Dev.flag_wf
    | apply Dev.put_wf

theorem Dev.countBy_wf {d : Dev} (a1 : Nat) (a2 : Int) (h : d.wf) : (Dev.countBy d a1 a2).wf := by
  unfold Dev.countBy
  repeat' with_reducible first
    | assumption
    | (apply Dev.wf_ite <;> intro _)
    | apply Dev.bump_wf
    | apply Dev.feedDividers_wf
    | apply Dev.setCount_wf

theorem Dev.countEdge_wf {d : Dev} (a1 : Nat) (a2 : Bool) (h : d.wf) : (Dev.countEdge d a1 a2).wf := by
  unfold Dev.countEdge
  repeat' with_reducible first
    | assumption
    | apply Dev.countBy_wf
    | apply Dev.edge_wf

theorem Dev.illegalEdge_wf {d : Dev} (a1 : Nat) (h : d.wf) : (Dev.illegalEdge d a1).wf := by
  unfold Dev.illegalEdge
  repeat' with_reducible first
    | assumption
    | apply Dev.bump_wf
    | apply Dev.put_wf

theorem Dev.quadChange_wf {d : Dev} (a1 : Nat) (a2 : Bool) (a3 : Bool) (h : d.wf) : (Dev.quadChange d a1 a2 a3).wf := by
  unfold Dev.quadChange
  repeat' with_reducible first
    | assumption
    | (apply Dev.wf_ite <;> intro _)
    | apply Dev.countEdge_wf
    | apply Dev.illegalEdge_wf
    | apply Dev.put_wf

theorem Dev.stepEdge_wf {d : Dev} (a1 : Nat) (a2 : Bool) (a3 : Bool) (h : d.wf) : (Dev.stepEdge d a1 a2 a3).wf := by
  unfold Dev.stepEdge
  repeat' with_reducible first
    | assumption
    | (apply Dev.wf_ite <;> intro _)
    | apply Dev.countEdge_wf
    | apply Dev.put_wf

theorem Dev.hallChange_wf {d : Dev} (a1 : Nat) (a2 : Bool) (a3 : Bool) (a4 : Bool) (h : d.wf) : (Dev.hallChange d a1 a2 a3 a4).wf := by
  unfold Dev.hallChange
  repeat' with_reducible first
    | assumption
    | (apply Dev.wf_ite <;> intro _)
    | apply Dev.countEdge_wf
    | apply Dev.illegalEdge_wf
    | apply Dev.put_wf

theorem Dev.enAdd_wf {d : Dev} (a1 : Nat) (a2 : Word) (h : d.wf) : (Dev.enAdd d a1 a2).wf := by
  unfold Dev.enAdd
  repeat' with_reducible first
    | assumption
    | (apply Dev.wf_ite <;> intro _)
    | apply Dev.bump_wf
    | apply Dev.put_wf
    | apply Dev.setCount_wf

theorem Dev.countRead_wf {d : Dev} (a1 : Nat) (h : d.wf) : (Dev.countRead d a1).wf := by
  unfold Dev.countRead
  repeat' with_reducible first
    | assumption
    | apply Dev.capture_wf

theorem Dev.poutRead_wf {d : Dev} (a1 : Nat) (h : d.wf) : (Dev.poutRead d a1).wf := by
  unfold Dev.poutRead
  repeat' with_reducible first
    | assumption
    | apply Dev.capture_wf

theorem Dev.encRestart_wf {d : Dev} (a1 : Nat) (h : d.wf) : (Dev.encRestart d a1).wf := by
  unfold Dev.encRestart
  repeat' with_reducible first
    | assumption
    | (apply Dev.wf_ite <;> intro _)
    | apply Dev.put_wf

theorem Dev.speedAt_wf {d : Dev} (a1 : Nat) (a2 : Nat) (h : d.wf) : (Dev.speedAt d a1 a2).2.wf := by
  unfold Dev.speedAt
  repeat' with_reducible first
    | assumption
    | (apply Dev.wf_ite_snd <;> intro _)
    | apply Dev.put_wf

theorem Dev.encTokens_wf {d : Dev} (a1 : Nat) (a2 : Nat) (a3 : Nat) (a4 : Nat) (h : d.wf) : (Dev.encTokens d a1 a2 a3 a4).wf := by
  unfold Dev.encTokens
  repeat' with_reducible first
    | assumption
    | (apply Dev.wf_ite <;> intro _)
    | apply Dev.fieldToken_wf
    | apply Dev.put_wf

theorem Dev.serialStill_wf {d : Dev} (a1 : Nat) (h : d.wf) : (Dev.serialStill d a1).wf := by
  unfold Dev.serialStill
  repeat' with_reducible first
    | assumption
    | (apply Dev.wf_ite <;> intro _)
    | apply Dev.put_wf

theorem Dev.encSample_wf {d : Dev} (a1 : Nat) (h : d.wf) : (Dev.encSample d a1).wf := by
  unfold Dev.encSample
  repeat' with_reducible first
    | assumption
    | (apply Dev.wf_ite <;> intro _)
    | apply Dev.bumpSat_wf
    | apply Dev.encTokens_wf
    | apply Dev.put_wf
    | apply Dev.serialStill_wf
    | apply Dev.speedAt_wf
    | apply foldl_wf
    | intro _
    | refine Dev.wf_snd (by assumption) ?_
    | split
    | apply Dev.wf_mk

theorem Dev.goodFrame_wf {d : Dev} (a1 : Nat) (a2 : Nat) (a3 : Bool) (a4 : Bool) (h : d.wf) : (Dev.goodFrame d a1 a2 a3 a4).wf := by
  unfold Dev.goodFrame
  repeat' with_reducible first
    | assumption
    | (apply Dev.wf_ite <;> intro _)
    | apply Dev.bump_wf
    | apply Dev.countBy_wf
    | apply Dev.flag_wf
    | apply Dev.put_wf
    | apply Dev.serialStill_wf
    | apply Dev.setCount_wf

theorem Dev.frameEnd_wf {d : Dev} (a1 : Nat) (a2 : Bool) (a3 : Nat) (a4 : Bool) (a5 : Bool) (a6 : Nat) (h : d.wf) : (Dev.frameEnd d a1 a2 a3 a4 a5 a6).wf := by
  unfold Dev.frameEnd
  repeat' with_reducible first
    | assumption
    | (apply Dev.wf_ite <;> intro _)
    | apply Dev.bumpSat_wf
    | apply Dev.encTokens_wf
    | apply Dev.goodFrame_wf
    | apply Dev.put_wf
    | apply Dev.serialStill_wf

theorem Dev.latchEvent_wf {d : Dev} (a1 : Nat) (a2 : Bool) (h : d.wf) : (Dev.latchEvent d a1 a2).wf := by
  unfold Dev.latchEvent
  repeat' with_reducible first
    | assumption
    | (apply Dev.wf_ite <;> intro _)
    | apply Dev.bump_wf
    | apply Dev.flag_wf
    | apply Dev.put_wf
    | apply Dev.setFlags_wf
    | apply Dev.tapEvent_wf

theorem Dev.latchRead_wf {d : Dev} (a1 : Nat) (h : d.wf) : (Dev.latchRead d a1).wf := by
  unfold Dev.latchRead
  repeat' with_reducible first
    | assumption
    | (apply Dev.wf_ite <;> intro _)
    | apply Dev.put_wf
    | apply forN_wf
    | apply foldl_wf
    | intro _

/-! Machine/Cyclic.lean. -/

theorem Dev.latchImage_wf {d : Dev} (a1 : Nat) (h : d.wf) : (Dev.latchImage d a1).wf := by
  unfold Dev.latchImage
  repeat' with_reducible first
    | assumption
    | (apply Dev.wf_ite <;> intro _)
    | apply Dev.bumpSat_wf
    | apply Dev.wr_wf
    | apply forN_wf
    | apply foldl_wf
    | intro _
    | refine Dev.wf_snd (by assumption) ?_
    | split
    | apply Dev.wf_mk

theorem Dev.forgetLatches_wf {d : Dev} (a1 : Nat) (h : d.wf) : (Dev.forgetLatches d a1).wf := by
  unfold Dev.forgetLatches
  repeat' with_reducible first
    | assumption
    | apply foldl_wf
    | intro _
    | refine Dev.wf_snd (by assumption) ?_
    | split
    | apply Dev.wf_mk

theorem Dev.publish_wf {d : Dev} (a1 : Nat) (h : d.wf) : (Dev.publish d a1).wf := by
  unfold Dev.publish
  repeat' with_reducible first
    | assumption
    | (apply Dev.wf_ite <;> intro _)
    | apply Dev.bumpSat_wf
    | apply Dev.imageWrite_wf
    | apply Dev.portLaunch_wf
    | apply forN_wf
    | apply foldl_wf
    | intro _
    | refine Dev.wf_snd (by assumption) ?_
    | split
    | apply Dev.wf_mk

theorem Dev.stoppedCycle_wf {d : Dev} (a1 : Nat) (h : d.wf) : (Dev.stoppedCycle d a1).wf := by
  unfold Dev.stoppedCycle
  repeat' with_reducible first
    | assumption
    | (apply Dev.wf_ite <;> intro _)
    | apply Dev.imageWrite_wf
    | apply Dev.portLaunch_wf
    | apply forN_wf
    | apply foldl_wf
    | intro _

theorem Dev.chgGo_wf {d : Dev} (h : d.wf) : (Dev.chgGo d).wf := by
  unfold Dev.chgGo
  repeat' with_reducible first
    | assumption
    | (apply Dev.wf_ite <;> intro _)
    | apply Dev.put_wf

theorem Dev.chgAbort_wf {d : Dev} (h : d.wf) : (Dev.chgAbort d).wf := by
  unfold Dev.chgAbort
  repeat' with_reducible first
    | assumption
    | apply Dev.abandonChange_wf

theorem Dev.chgCheckEnd_wf {d : Dev} (h : d.wf) : (Dev.chgCheckEnd d).wf := by
  unfold Dev.chgCheckEnd
  repeat' with_reducible first
    | assumption
    | (apply Dev.wf_ite <;> intro _)
    | apply Dev.put_wf
    | apply foldl_wf
    | intro _
    | refine Dev.wf_snd (by assumption) ?_
    | split
    | apply Dev.wf_mk

theorem Dev.timClear_wf {d : Dev} (a1 : Nat) (h : d.wf) : (Dev.timClear d a1).wf := by
  unfold Dev.timClear
  repeat' with_reducible first
    | assumption
    | apply Dev.put_wf
    | apply foldl_wf
    | intro _

theorem Dev.timMoves_wf {d : Dev} (a1 : List ChgEntry) (h : d.wf) : (Dev.timMoves d a1).wf := by
  unfold Dev.timMoves
  repeat' with_reducible first
    | assumption
    | apply Dev.put_wf
    | apply Dev.timClear_wf
    | apply foldl_wf
    | intro _
    | refine Dev.wf_snd (by assumption) ?_
    | split

theorem Dev.taskSwitch_wf {d : Dev} (a1 : Nat) (a2 : Nat) (h : d.wf) : (Dev.taskSwitch d a1 a2).wf := by
  unfold Dev.taskSwitch
  repeat' with_reducible first
    | assumption
    | (apply Dev.wf_ite <;> intro _)
    | apply Dev.forgetLatches_wf
    | apply Dev.latchImage_wf
    | apply Dev.put_wf
    | apply Dev.timClear_wf
    | apply Dev.timMoves_wf
    | apply Dev.wr_wf
    | apply forN_wf
    | apply foldl_wf
    | intro _
    | refine Dev.wf_snd (by assumption) ?_
    | split
    | apply Dev.wf_mk

theorem Dev.watchdog_wf {d : Dev} (a1 : Nat) (h : d.wf) : (Dev.watchdog d a1).wf := by
  unfold Dev.watchdog
  repeat' with_reducible first
    | assumption
    | (apply Dev.wf_ite <;> intro _)
    | apply Dev.stopProgram_wf

theorem Dev.cycleStart_wf {d : Dev} (a1 : Nat) (h : d.wf) : (Dev.cycleStart d a1).wf := by
  unfold Dev.cycleStart
  repeat' with_reducible first
    | assumption
    | (apply Dev.wf_ite <;> intro _)
    | apply Dev.bumpSat_wf
    | apply Dev.latchImage_wf
    | apply Dev.publish_wf
    | apply Dev.put_wf
    | apply Dev.start_wf
    | apply Dev.stopProgram_wf
    | apply Dev.stoppedCycle_wf
    | apply Dev.taskSwitch_wf
    | apply foldl_wf
    | intro _
    | refine Dev.wf_snd (by assumption) ?_
    | split

/-! Machine/Axis.lean. -/

theorem Dev.setPlan_wf {d : Dev} (a1 : Nat) (a2 : Plan) (h : d.wf) : (Dev.setPlan d a1 a2).wf := by
  unfold Dev.setPlan
  repeat' with_reducible first
    | assumption
    | apply foldl_wf
    | intro _
    | refine Dev.wf_snd (by assumption) ?_
    | split
    | apply Dev.wf_mk

theorem Dev.setPath_wf {d : Dev} (a1 : Nat) (a2 : Path) (h : d.wf) : (Dev.setPath d a1 a2).wf := by
  unfold Dev.setPath
  repeat' with_reducible first
    | assumption
    | apply foldl_wf
    | intro _
    | refine Dev.wf_snd (by assumption) ?_
    | split
    | apply Dev.wf_mk

theorem Dev.put64_wf {d : Dev} (a1 : F) (a2 : F) (a3 : Nat) (a4 : DWord) (h : d.wf) : (Dev.put64 d a1 a2 a3 a4).wf := by
  unfold Dev.put64
  repeat' with_reducible first
    | assumption
    | apply Dev.put_wf

theorem Dev.showMotion_wf {d : Dev} (a1 : Nat) (a2 : Motion) (h : d.wf) : (Dev.showMotion d a1 a2).wf := by
  unfold Dev.showMotion
  repeat' with_reducible first
    | assumption
    | apply Dev.put64_wf
    | apply Dev.put_wf

theorem Dev.axisRested_wf {d : Dev} (a1 : Nat) (a2 : Nat) (a3 : Nat) (a4 : DWord) (h : d.wf) : (Dev.axisRested d a1 a2 a3 a4).wf := by
  unfold Dev.axisRested
  repeat' with_reducible first
    | assumption
    | (apply Dev.wf_ite <;> intro _)
    | apply Dev.put64_wf
    | apply Dev.put_wf
    | apply Dev.setPlan_wf
    | apply Dev.showMotion_wf

theorem Dev.axisRequest_wf {d : Dev} (a1 : Nat) (a2 : Nat) (a3 : Nat) (h : d.wf) : (Dev.axisRequest d a1 a2 a3).wf := by
  unfold Dev.axisRequest
  repeat' with_reducible first
    | assumption
    | (apply Dev.wf_ite <;> intro _)
    | apply Dev.put_wf

theorem Dev.groupRequest_wf {d : Dev} (a1 : Nat) (a2 : Nat) (a3 : Nat) (h : d.wf) : (Dev.groupRequest d a1 a2 a3).wf := by
  unfold Dev.groupRequest
  repeat' with_reducible first
    | assumption
    | (apply Dev.wf_ite <;> intro _)
    | apply Dev.put_wf
    | apply foldl_wf
    | intro _

theorem Dev.requestStop_wf {d : Dev} (a1 : Nat) (a2 : Nat) (a3 : Nat) (h : d.wf) : (Dev.requestStop d a1 a2 a3).wf := by
  unfold Dev.requestStop
  repeat' with_reducible first
    | assumption
    | (apply Dev.wf_ite <;> intro _)
    | apply Dev.axisRequest_wf
    | apply Dev.groupRequest_wf

theorem Dev.axisGo_wf {d : Dev} (a1 : Nat) (h : d.wf) : (Dev.axisGo d a1).wf := by
  unfold Dev.axisGo
  repeat' with_reducible first
    | assumption
    | (apply Dev.wf_ite <;> intro _)
    | apply Dev.put_wf

theorem Dev.axisStop_wf {d : Dev} (a1 : Nat) (a2 : Nat) (h : d.wf) : (Dev.axisStop d a1 a2).wf := by
  unfold Dev.axisStop
  repeat' with_reducible first
    | assumption
    | (apply Dev.wf_ite <;> intro _)
    | apply Dev.put_wf
    | apply Dev.requestStop_wf

theorem Dev.axisCmd_wf {d : Dev} (a1 : Nat) (a2 : Bool) (a3 : Bool) (a4 : Bool) (h : d.wf) : (Dev.axisCmd d a1 a2 a3 a4).wf := by
  unfold Dev.axisCmd
  repeat' with_reducible first
    | assumption
    | (apply Dev.wf_ite <;> intro _)
    | apply Dev.axisGo_wf
    | apply Dev.axisStop_wf

theorem Dev.axisClr_wf {d : Dev} (a1 : Nat) (h : d.wf) : (Dev.axisClr d a1).wf := by
  unfold Dev.axisClr
  repeat' with_reducible first
    | assumption
    | (apply Dev.wf_ite <;> intro _)
    | apply Dev.put_wf

theorem Dev.stopRamp_wf {d : Dev} (a1 : Nat) (a2 : Nat) (a3 : Motion) (a4 : Bool) (h : d.wf) : (Dev.stopRamp d a1 a2 a3 a4).2.wf := by
  unfold Dev.stopRamp
  repeat' with_reducible first
    | assumption
    | (apply Dev.wf_ite <;> intro _)
    | apply Dev.put_wf

theorem Dev.takeStop_wf {d : Dev} (a1 : Nat) (a2 : Nat) (a3 : Motion) (h : d.wf) : (Dev.takeStop d a1 a2 a3).wf := by
  unfold Dev.takeStop
  repeat' with_reducible first
    | assumption
    | (apply Dev.wf_ite <;> intro _)
    | apply Dev.axisRested_wf
    | apply Dev.put_wf
    | apply Dev.setPlan_wf
    | apply Dev.stopRamp_wf

theorem Dev.takeGo_wf {d : Dev} (a1 : Nat) (a2 : Nat) (a3 : Motion) (h : d.wf) : (Dev.takeGo d a1 a2 a3).wf := by
  unfold Dev.takeGo
  repeat' with_reducible first
    | assumption
    | (apply Dev.wf_ite <;> intro _)
    | apply Dev.put_wf
    | apply Dev.setPlan_wf
    | apply Dev.stopRamp_wf

theorem Dev.flushPath_wf {d : Dev} (a1 : Nat) (h : d.wf) : (Dev.flushPath d a1).wf := by
  unfold Dev.flushPath
  repeat' with_reducible first
    | assumption
    | (apply Dev.wf_ite <;> intro _)
    | apply Dev.put_wf
    | apply Dev.qdrop_wf
    | apply Dev.setPath_wf
    | apply timesN_wf
    | apply foldl_wf
    | intro _

theorem Dev.groupRested_wf {d : Dev} (a1 : Nat) (a2 : Nat) (a3 : Nat) (a4 : Nat) (h : d.wf) : (Dev.groupRested d a1 a2 a3 a4).wf := by
  unfold Dev.groupRested
  repeat' with_reducible first
    | assumption
    | (apply Dev.wf_ite <;> intro _)
    | apply Dev.axisRested_wf
    | apply Dev.flushPath_wf
    | apply Dev.put_wf
    | apply Dev.setPath_wf
    | apply foldl_wf
    | intro _

theorem Dev.groupTakes_wf {d : Dev} (a1 : Nat) (h : d.wf) : (Dev.groupTakes d a1).wf := by
  unfold Dev.groupTakes
  repeat' with_reducible first
    | assumption
    | (apply Dev.wf_ite <;> intro _)
    | apply Dev.flushPath_wf
    | apply Dev.groupRested_wf
    | apply Dev.put_wf
    | apply Dev.setPath_wf
    | apply foldl_wf
    | intro _
    | refine Dev.wf_snd (by assumption) ?_
    | split
    | apply Dev.wf_mk

theorem Dev.planTakes_wf {d : Dev} (a1 : Nat) (h : d.wf) : (Dev.planTakes d a1).wf := by
  unfold Dev.planTakes
  repeat' with_reducible first
    | assumption
    | (apply Dev.wf_ite <;> intro _)
    | apply Dev.groupTakes_wf
    | apply Dev.takeGo_wf
    | apply Dev.takeStop_wf

theorem Dev.axisAtRest_wf {d : Dev} (a1 : Nat) (h : d.wf) : (Dev.axisAtRest d a1).wf := by
  unfold Dev.axisAtRest
  repeat' with_reducible first
    | assumption
    | (apply Dev.wf_ite <;> intro _)
    | apply Dev.axisRested_wf
    | apply Dev.groupRested_wf
    | apply Dev.put_wf
    | apply Dev.setPlan_wf
    | apply Dev.showMotion_wf

theorem Dev.engage_wf {d : Dev} (a1 : Nat) (a2 : DWord) (h : d.wf) : (Dev.engage d a1 a2).wf := by
  unfold Dev.engage
  repeat' with_reducible first
    | assumption
    | apply Dev.put_wf
    | apply Dev.showMotion_wf

theorem Dev.modeEffect_wf {d : Dev} (a1 : Nat) (a2 : Motion) (h : d.wf) : (Dev.modeEffect d a1 a2).wf := by
  unfold Dev.modeEffect
  repeat' with_reducible first
    | assumption
    | (apply Dev.wf_ite <;> intro _)
    | apply Dev.engage_wf
    | apply Dev.put_wf
    | apply Dev.setPlan_wf
    | apply Dev.showMotion_wf

theorem Dev.sampleMotion_wf {d : Dev} (a1 : Nat) (a2 : Nat) (h : d.wf) : (Dev.sampleMotion d a1 a2).2.wf := by
  unfold Dev.sampleMotion
  repeat' with_reducible first
    | assumption
    | (apply Dev.wf_ite <;> intro _)
    | (apply Dev.wf_ite_snd <;> intro _)
    | apply Dev.fresh_wf
    | apply Dev.put64_wf
    | apply Dev.put_wf
    | apply Dev.showMotion_wf

theorem Dev.axisSample_wf {d : Dev} (a1 : Nat) (h : d.wf) : (Dev.axisSample d a1).wf := by
  unfold Dev.axisSample
  repeat' with_reducible first
    | assumption
    | (apply Dev.wf_ite <;> intro _)
    | apply Dev.fieldToken_wf
    | apply Dev.put_wf
    | apply Dev.requestStop_wf
    | apply Dev.sampleMotion_wf
    | apply foldl_wf
    | intro _
    | refine Dev.wf_snd (by assumption) ?_
    | split
    | apply Dev.wf_mk

theorem Dev.axisPosRead_wf {d : Dev} (a1 : Nat) (h : d.wf) : (Dev.axisPosRead d a1).wf := by
  unfold Dev.axisPosRead
  repeat' with_reducible first
    | assumption
    | apply Dev.capture_wf
    | apply Dev.showMotion_wf

theorem Dev.axisStop1_wf {d : Dev} (a1 : Nat) (a2 : Bool) (h : d.wf) : (Dev.axisStop1 d a1 a2).wf := by
  unfold Dev.axisStop1
  repeat' with_reducible first
    | assumption
    | (apply Dev.wf_ite <;> intro _)
    | apply Dev.put_wf
    | apply Dev.requestStop_wf

theorem Dev.axisStop0_wf {d : Dev} (a1 : Nat) (a2 : Bool) (h : d.wf) : (Dev.axisStop0 d a1 a2).wf := by
  unfold Dev.axisStop0
  repeat' with_reducible first
    | assumption
    | (apply Dev.wf_ite <;> intro _)
    | apply Dev.axisRested_wf
    | apply Dev.groupRequest_wf
    | apply Dev.put_wf

theorem Dev.stopSignal_wf {d : Dev} (h : d.wf) : (Dev.stopSignal d).wf := by
  unfold Dev.stopSignal
  repeat' with_reducible first
    | assumption
    | (apply Dev.wf_ite <;> intro _)
    | apply Dev.put_wf
    | apply Dev.requestStop_wf
    | apply forN_wf
    | apply foldl_wf
    | intro _

theorem Dev.groupStart_wf {d : Dev} (a1 : Nat) (h : d.wf) : (Dev.groupStart d a1).wf := by
  unfold Dev.groupStart
  repeat' with_reducible first
    | assumption
    | (apply Dev.wf_ite <;> intro _)
    | apply Dev.put_wf
    | apply Dev.setPath_wf
    | apply foldl_wf
    | intro _
    | refine Dev.wf_snd (by assumption) ?_
    | split
    | apply Dev.wf_mk

theorem Dev.groupStop_wf {d : Dev} (a1 : Nat) (a2 : Nat) (a3 : Bool) (h : d.wf) : (Dev.groupStop d a1 a2 a3).wf := by
  unfold Dev.groupStop
  repeat' with_reducible first
    | assumption
    | (apply Dev.wf_ite <;> intro _)
    | apply Dev.groupRequest_wf
    | apply Dev.put_wf

theorem Dev.segmentStart_wf {d : Dev} (a1 : Nat) (h : d.wf) : (Dev.segmentStart d a1).wf := by
  unfold Dev.segmentStart
  repeat' with_reducible first
    | assumption
    | (apply Dev.wf_ite <;> intro _)
    | apply Dev.groupRequest_wf
    | apply Dev.put_wf
    | apply Dev.qtakePacket_wf
    | apply Dev.setPath_wf
    | apply foldl_wf
    | intro _
    | refine Dev.wf_snd (by assumption) ?_
    | split
    | apply Dev.wf_mk

theorem Dev.segmentComplete_wf {d : Dev} (a1 : Nat) (h : d.wf) : (Dev.segmentComplete d a1).wf := by
  unfold Dev.segmentComplete
  repeat' with_reducible first
    | assumption
    | (apply Dev.wf_ite <;> intro _)
    | apply Dev.bump_wf
    | apply Dev.setPath_wf
    | apply Dev.setPlan_wf
    | apply Dev.showMotion_wf
    | apply foldl_wf
    | intro _

theorem Dev.pathStarved_wf {d : Dev} (a1 : Nat) (h : d.wf) : (Dev.pathStarved d a1).wf := by
  unfold Dev.pathStarved
  repeat' with_reducible first
    | assumption
    | (apply Dev.wf_ite <;> intro _)
    | apply Dev.bump_wf
    | apply Dev.put_wf

/-! Machine/Pwm.lean. -/

theorem Dev.compareUpdate_wf {d : Dev} (a1 : Nat) (h : d.wf) : (Dev.compareUpdate d a1).wf := by
  unfold Dev.compareUpdate
  repeat' with_reducible first
    | assumption
    | (apply Dev.wf_ite <;> intro _)
    | apply Dev.put_wf
    | apply forN_wf
    | apply foldl_wf
    | intro _
    | refine Dev.wf_snd (by assumption) ?_
    | split

theorem Dev.gatesOff_wf {d : Dev} (a1 : Nat) (h : d.wf) : (Dev.gatesOff d a1).wf := by
  unfold Dev.gatesOff
  repeat' with_reducible first
    | assumption
    | apply Dev.put_wf

theorem Dev.holdEnds_wf {d : Dev} (a1 : Nat) (h : d.wf) : (Dev.holdEnds d a1).wf := by
  unfold Dev.holdEnds
  repeat' with_reducible first
    | assumption
    | apply Dev.put_wf

theorem Dev.gatesResume_wf {d : Dev} (a1 : Nat) (h : d.wf) : (Dev.gatesResume d a1).wf := by
  unfold Dev.gatesResume
  repeat' with_reducible first
    | assumption
    | (apply Dev.wf_ite <;> intro _)
    | apply Dev.put_wf
    | apply foldl_wf
    | intro _
    | refine Dev.wf_snd (by assumption) ?_
    | split

theorem Dev.trip_wf {d : Dev} (a1 : Nat) (a2 : Bool) (h : d.wf) : (Dev.trip d a1 a2).wf := by
  unfold Dev.trip
  repeat' with_reducible first
    | assumption
    | (apply Dev.wf_ite <;> intro _)
    | apply Dev.flag_wf
    | apply Dev.gatesOff_wf
    | apply Dev.put_wf
    | apply Dev.requestStop_wf
    | apply Dev.tapEvent_wf

theorem Dev.tripClear_wf {d : Dev} (a1 : Nat) (h : d.wf) : (Dev.tripClear d a1).wf := by
  unfold Dev.tripClear
  repeat' with_reducible first
    | assumption
    | (apply Dev.wf_ite <;> intro _)
    | apply Dev.holdEnds_wf
    | apply Dev.put_wf

theorem Dev.pwmStop0_wf {d : Dev} (a1 : Nat) (a2 : Bool) (h : d.wf) : (Dev.pwmStop0 d a1 a2).wf := by
  unfold Dev.pwmStop0
  repeat' with_reducible first
    | assumption
    | (apply Dev.wf_ite <;> intro _)
    | apply Dev.gatesOff_wf
    | apply Dev.holdEnds_wf
    | apply Dev.put_wf

/-! Machine/Stepper.lean. -/

theorem Dev.stepReplan_wf {d : Dev} (a1 : Nat) (h : d.wf) : (Dev.stepReplan d a1).wf := by
  unfold Dev.stepReplan
  repeat' with_reducible first
    | assumption
    | (apply Dev.wf_ite <;> intro _)
    | apply Dev.flag_wf
    | apply Dev.fresh_wf
    | apply Dev.put_wf
    | apply foldl_wf
    | intro _
    | refine Dev.wf_snd (by assumption) ?_
    | split

theorem Dev.microstep_wf {d : Dev} (a1 : Nat) (h : d.wf) : (Dev.microstep d a1).wf := by
  unfold Dev.microstep
  repeat' with_reducible first
    | assumption
    | (apply Dev.wf_ite <;> intro _)
    | apply Dev.flag_wf
    | apply Dev.put_wf

theorem Dev.phaseOff_wf {d : Dev} (a1 : Nat) (h : d.wf) : (Dev.phaseOff d a1).wf := by
  unfold Dev.phaseOff
  repeat' with_reducible first
    | assumption
    | (apply Dev.wf_ite <;> intro _)
    | apply Dev.bump_wf
    | apply Dev.put_wf

theorem Dev.chopTrip_wf {d : Dev} (a1 : Nat) (a2 : Nat) (h : d.wf) : (Dev.chopTrip d a1 a2).wf := by
  unfold Dev.chopTrip
  repeat' with_reducible first
    | assumption
    | (apply Dev.wf_ite <;> intro _)
    | apply Dev.bump_wf
    | apply Dev.phaseOff_wf

theorem Dev.chopOn_wf {d : Dev} (a1 : Nat) (a2 : Nat) (h : d.wf) : (Dev.chopOn d a1 a2).wf := by
  unfold Dev.chopOn
  repeat' with_reducible first
    | assumption
    | (apply Dev.wf_ite <;> intro _)
    | apply Dev.put_wf

theorem Dev.adjustHyst_wf {d : Dev} (a1 : Nat) (a2 : Nat) (h : d.wf) : (Dev.adjustHyst d a1 a2).wf := by
  unfold Dev.adjustHyst
  repeat' with_reducible first
    | assumption
    | (apply Dev.wf_ite <;> intro _)
    | apply Dev.put_wf

theorem Dev.windowEnd_wf {d : Dev} (a1 : Nat) (h : d.wf) : (Dev.windowEnd d a1).wf := by
  unfold Dev.windowEnd
  repeat' with_reducible first
    | assumption
    | (apply Dev.wf_ite <;> intro _)
    | apply Dev.adjustHyst_wf
    | apply Dev.put_wf
    | apply forN_wf
    | apply foldl_wf
    | intro _

theorem Dev.holdCurrent_wf {d : Dev} (a1 : Nat) (h : d.wf) : (Dev.holdCurrent d a1).wf := by
  unfold Dev.holdCurrent
  repeat' with_reducible first
    | assumption
    | (apply Dev.wf_ite <;> intro _)
    | apply Dev.put_wf

theorem Dev.stepEnable_wf {d : Dev} (a1 : Nat) (h : d.wf) : (Dev.stepEnable d a1).wf := by
  unfold Dev.stepEnable
  repeat' with_reducible first
    | assumption
    | (apply Dev.wf_ite <;> intro _)
    | apply Dev.phaseOff_wf
    | apply Dev.put_wf

theorem Dev.stepStop0_wf {d : Dev} (a1 : Nat) (a2 : Bool) (h : d.wf) : (Dev.stepStop0 d a1 a2).wf := by
  unfold Dev.stepStop0
  repeat' with_reducible first
    | assumption
    | (apply Dev.wf_ite <;> intro _)
    | apply Dev.phaseOff_wf
    | apply Dev.put_wf

end Sys2Proof.Machine
end

