-- ==== Sys2Proof/Laws/CanonicalLinks.lean ====
section
/-!
SUPPORT. The canonical form of the stored data: what analogue units, links, the safety region, Ethernet, CAN and PCIe keep. One lemma for each definition that changes the device.
-/

namespace Sys2Proof.Machine

/-! Machine/Analog.lean. -/

theorem Dev.convStart_wf {d : Dev} (a1 : Nat) (a2 : Nat) (h : d.wf) : (Dev.convStart d a1 a2).wf := by
  unfold Dev.convStart
  repeat' with_reducible first
    | assumption
    | (apply Dev.wf_ite <;> intro _)
    | apply Dev.put_wf

theorem Dev.seqStart_wf {d : Dev} (a1 : Nat) (a2 : Nat) (a3 : Nat) (h : d.wf) : (Dev.seqStart d a1 a2 a3).wf := by
  unfold Dev.seqStart
  repeat' with_reducible first
    | assumption
    | (apply Dev.wf_ite <;> intro _)
    | apply Dev.convStart_wf
    | apply Dev.put_wf

theorem Dev.abandon_wf {d : Dev} (a1 : Nat) (h : d.wf) : (Dev.abandon d a1).wf := by
  unfold Dev.abandon
  repeat' with_reducible first
    | assumption
    | (apply Dev.wf_ite <;> intro _)
    | apply Dev.bumpSat_wf
    | apply Dev.put_wf

theorem Dev.seqRestart_wf {d : Dev} (a1 : Nat) (h : d.wf) : (Dev.seqRestart d a1).wf := by
  unfold Dev.seqRestart
  repeat' with_reducible first
    | assumption
    | (apply Dev.wf_ite <;> intro _)
    | apply Dev.abandon_wf
    | apply Dev.put_wf
    | apply Dev.seqStart_wf

theorem Dev.deliver_wf {d : Dev} (a1 : Nat) (a2 : Nat) (a3 : Word) (a4 : Nat) (h : d.wf) : (Dev.deliver d a1 a2 a3 a4).wf := by
  unfold Dev.deliver
  repeat' with_reducible first
    | assumption
    | (apply Dev.wf_ite <;> intro _)
    | apply Dev.bump_wf
    | apply Dev.put_wf

theorem Dev.conversionResult_wf {d : Dev} (a1 : Nat) (a2 : Word) (a3 : Bool) (h : d.wf) : (Dev.conversionResult d a1 a2 a3).wf := by
  unfold Dev.conversionResult
  repeat' with_reducible first
    | assumption
    | (apply Dev.wf_ite <;> intro _)
    | apply Dev.convStart_wf
    | apply Dev.deliver_wf
    | apply Dev.put_wf

theorem Dev.urgent_wf {d : Dev} (a1 : Nat) (a2 : Nat) (h : d.wf) : (Dev.urgent d a1 a2).wf := by
  unfold Dev.urgent
  repeat' with_reducible first
    | assumption
    | (apply Dev.wf_ite <;> intro _)
    | apply Dev.abandon_wf
    | apply Dev.bumpSat_wf
    | apply Dev.put_wf

theorem Dev.urgentReq_wf {d : Dev} (a1 : Nat) (h : d.wf) : (Dev.urgentReq d a1).wf := by
  unfold Dev.urgentReq
  repeat' with_reducible first
    | assumption
    | apply Dev.fresh_wf
    | apply Dev.urgent_wf

theorem Dev.urgentTrigger_wf {d : Dev} (a1 : Nat) (h : d.wf) : (Dev.urgentTrigger d a1).wf := by
  unfold Dev.urgentTrigger
  repeat' with_reducible first
    | assumption
    | (apply Dev.wf_ite <;> intro _)
    | apply Dev.put_wf
    | apply Dev.urgent_wf
    | apply foldl_wf
    | intro _
    | refine Dev.wf_snd (by assumption) ?_
    | split

theorem Dev.urgentResult_wf {d : Dev} (a1 : Nat) (a2 : Word) (a3 : Bool) (h : d.wf) : (Dev.urgentResult d a1 a2 a3).wf := by
  unfold Dev.urgentResult
  repeat' with_reducible first
    | assumption
    | (apply Dev.wf_ite <;> intro _)
    | apply Dev.bump_wf
    | apply Dev.deliver_wf
    | apply Dev.put_wf
    | apply Dev.seqStart_wf
    | apply Dev.setFlags_wf

theorem Dev.inputToken_wf {d : Dev} (a1 : Nat) (h : d.wf) : (Dev.inputToken d a1).wf := by
  unfold Dev.inputToken
  repeat' with_reducible first
    | assumption
    | (apply Dev.wf_ite <;> intro _)
    | apply Dev.fieldToken_wf
    | apply Dev.put_wf
    | apply foldl_wf
    | intro _
    | refine Dev.wf_snd (by assumption) ?_
    | split
    | apply Dev.wf_mk

theorem Dev.uresRead_wf {d : Dev} (a1 : Nat) (h : d.wf) : (Dev.uresRead d a1).wf := by
  unfold Dev.uresRead
  repeat' with_reducible first
    | assumption
    | apply Dev.capture_wf

theorem Dev.resRead_wf {d : Dev} (a1 : Nat) (h : d.wf) : (Dev.resRead d a1).wf := by
  unfold Dev.resRead
  repeat' with_reducible first
    | assumption
    | apply Dev.capture_wf

theorem Dev.sarSample_wf {d : Dev} (a1 : Nat) (h : d.wf) : (Dev.sarSample d a1).wf := by
  unfold Dev.sarSample
  repeat' with_reducible first
    | assumption
    | (apply Dev.wf_ite <;> intro _)
    | apply Dev.bumpSat_wf
    | apply Dev.put_wf
    | apply foldl_wf
    | intro _
    | refine Dev.wf_snd (by assumption) ?_
    | split
    | apply Dev.wf_mk

theorem Dev.sarEnd_wf {d : Dev} (a1 : Nat) (a2 : Nat) (a3 : Nat) (h : d.wf) : (Dev.sarEnd d a1 a2 a3).wf := by
  unfold Dev.sarEnd
  repeat' with_reducible first
    | assumption
    | (apply Dev.wf_ite <;> intro _)
    | apply Dev.fieldToken_wf
    | apply Dev.put_wf
    | apply foldl_wf
    | intro _
    | refine Dev.wf_snd (by assumption) ?_
    | split
    | apply Dev.wf_mk

/-! Machine/Aout.lean. -/

theorem Dev.calFields_wf {d : Dev} (a1 : Nat) (a2 : Nat) (a3 : Nat) (a4 : Nat) (h : d.wf) : (Dev.calFields d a1 a2 a3 a4).wf := by
  unfold Dev.calFields
  repeat' with_reducible first
    | assumption
    | (apply Dev.wf_ite <;> intro _)
    | apply Dev.put_wf

theorem Dev.calRefuse_wf {d : Dev} (a1 : Nat) (h : d.wf) : (Dev.calRefuse d a1).wf := by
  unfold Dev.calRefuse
  repeat' with_reducible first
    | assumption
    | apply Dev.put_wf

theorem Dev.calRun_wf {d : Dev} (a1 : Nat) (h : d.wf) : (Dev.calRun d a1).wf := by
  unfold Dev.calRun
  repeat' with_reducible first
    | assumption
    | apply Dev.put_wf

theorem Dev.calBegin_wf {d : Dev} (a1 : Nat) (a2 : Nat) (h : d.wf) : (Dev.calBegin d a1 a2).wf := by
  unfold Dev.calBegin
  repeat' with_reducible first
    | assumption
    | apply Dev.calRun_wf
    | apply Dev.put_wf

theorem Dev.calStart_wf {d : Dev} (a1 : Bool) (a2 : Nat) (a3 : Nat) (a4 : Dev → Dev) (h4 : ∀ x0, x0.wf → (a4 x0).wf) (h : d.wf) : (Dev.calStart d a1 a2 a3 a4).wf := by
  unfold Dev.calStart
  repeat' with_reducible first
    | assumption
    | (apply Dev.wf_ite <;> intro _)
    | apply Dev.calBegin_wf
    | apply Dev.calRefuse_wf
    | apply h4

theorem Dev.calZero_wf {d : Dev} (h : d.wf) : (Dev.calZero d).wf := by
  unfold Dev.calZero
  repeat' with_reducible first
    | assumption
    | (apply Dev.wf_ite <;> intro _)
    | apply Dev.abandon_wf
    | apply Dev.calStart_wf
    | apply Dev.put_wf
    | apply foldl_wf
    | intro _

theorem Dev.calEnd_wf {d : Dev} (h : d.wf) : (Dev.calEnd d).wf := by
  unfold Dev.calEnd
  repeat' with_reducible first
    | assumption
    | (apply Dev.wf_ite <;> intro _)
    | apply Dev.put_wf
    | apply Dev.seqStart_wf

theorem Dev.spanOut_wf {d : Dev} (h : d.wf) : (Dev.spanOut d).wf := by
  unfold Dev.spanOut
  repeat' with_reducible first
    | assumption
    | (apply Dev.wf_ite <;> intro _)
    | apply Dev.calRefuse_wf
    | apply Dev.calRun_wf
    | apply Dev.put_wf
    | apply Dev.sput_wf

theorem Dev.calSpan_wf {d : Dev} (h : d.wf) : (Dev.calSpan d).wf := by
  unfold Dev.calSpan
  repeat' with_reducible first
    | assumption
    | (apply Dev.wf_ite <;> intro _)
    | apply Dev.calRefuse_wf
    | apply Dev.calRun_wf
    | apply Dev.spanOut_wf

theorem Dev.calStore_wf {d : Dev} (h : d.wf) : (Dev.calStore d).wf := by
  unfold Dev.calStore
  repeat' with_reducible first
    | assumption
    | (apply Dev.wf_ite <;> intro _)
    | apply Dev.calEnd_wf
    | apply Dev.calRefuse_wf
    | apply Dev.calRun_wf
    | apply Dev.wr_wf

theorem Dev.calCancel_wf {d : Dev} (h : d.wf) : (Dev.calCancel d).wf := by
  unfold Dev.calCancel
  repeat' with_reducible first
    | assumption
    | (apply Dev.wf_ite <;> intro _)
    | apply Dev.calEnd_wf
    | apply Dev.calRun_wf

theorem Dev.calOutlo_wf {d : Dev} (h : d.wf) : (Dev.calOutlo d).wf := by
  unfold Dev.calOutlo
  repeat' with_reducible first
    | assumption
    | apply Dev.calStart_wf
    | apply Dev.put_wf
    | apply foldl_wf
    | intro _

theorem Dev.calOuthi_wf {d : Dev} (h : d.wf) : (Dev.calOuthi d).wf := by
  unfold Dev.calOuthi
  repeat' with_reducible first
    | assumption
    | (apply Dev.wf_ite <;> intro _)
    | apply Dev.calRefuse_wf
    | apply Dev.calRun_wf
    | apply Dev.put_wf

theorem Dev.calDone_wf {d : Dev} (a1 : Word) (h : d.wf) : (Dev.calDone d a1).wf := by
  unfold Dev.calDone
  repeat' with_reducible first
    | assumption
    | (apply Dev.wf_ite <;> intro _)
    | apply Dev.calRefuse_wf
    | apply Dev.put_wf
    | apply Dev.sput_wf

theorem Dev.dacTake_wf {d : Dev} (a1 : Nat) (h : d.wf) : (Dev.dacTake d a1).wf := by
  unfold Dev.dacTake
  repeat' with_reducible first
    | assumption
    | (apply Dev.wf_ite <;> intro _)
    | apply Dev.flag_wf
    | apply Dev.put_wf

theorem Dev.dacUpdate_wf {d : Dev} (a1 : Nat) (h : d.wf) : (Dev.dacUpdate d a1).wf := by
  unfold Dev.dacUpdate
  repeat' with_reducible first
    | assumption
    | (apply Dev.wf_ite <;> intro _)
    | apply Dev.dacTake_wf

theorem Dev.aforce_wf {d : Dev} (a1 : Nat) (a2 : Bool) (h : d.wf) : (Dev.aforce d a1 a2).wf := by
  unfold Dev.aforce
  repeat' with_reducible first
    | assumption
    | (apply Dev.wf_ite <;> intro _)
    | apply Dev.flag_wf
    | apply Dev.put_wf

theorem Dev.headroom_wf {d : Dev} (a1 : Nat) (a2 : Bool) (h : d.wf) : (Dev.headroom d a1 a2).wf := by
  unfold Dev.headroom
  repeat' with_reducible first
    | assumption
    | (apply Dev.wf_ite <;> intro _)
    | apply Dev.flag_wf
    | apply Dev.put_wf

theorem Dev.setFsk_wf {d : Dev} (a1 : Nat) (a2 : Fsk) (h : d.wf) : (Dev.setFsk d a1 a2).wf := by
  unfold Dev.setFsk
  repeat' with_reducible first
    | assumption
    | apply foldl_wf
    | intro _
    | refine Dev.wf_snd (by assumption) ?_
    | split
    | apply Dev.wf_mk

theorem Dev.burstStart_wf {d : Dev} (a1 : Nat) (h : d.wf) : (Dev.burstStart d a1).wf := by
  unfold Dev.burstStart
  repeat' with_reducible first
    | assumption
    | (apply Dev.wf_ite <;> intro _)
    | apply Dev.put_wf
    | apply Dev.qtakePacket_wf
    | apply Dev.setFsk_wf

theorem Dev.burstEnd_wf {d : Dev} (a1 : Nat) (h : d.wf) : (Dev.burstEnd d a1).wf := by
  unfold Dev.burstEnd
  repeat' with_reducible first
    | assumption
    | (apply Dev.wf_ite <;> intro _)
    | apply Dev.put_wf
    | apply Dev.setFsk_wf

theorem Dev.fskDrain_wf {d : Dev} (a1 : Nat) (h : d.wf) : (Dev.fskDrain d a1).wf := by
  unfold Dev.fskDrain
  repeat' with_reducible first
    | assumption
    | (apply Dev.wf_ite <;> intro _)
    | apply Dev.put_wf
    | apply Dev.qcommit_wf
    | apply Dev.qstore_wf
    | apply Dev.setFsk_wf
    | apply timesN_wf
    | apply foldl_wf
    | intro _
    | refine Dev.wf_snd (by assumption) ?_
    | split

theorem Dev.fskByte_wf {d : Dev} (a1 : Nat) (a2 : Nat) (a3 : Bool) (a4 : Bool) (h : d.wf) : (Dev.fskByte d a1 a2 a3 a4).wf := by
  unfold Dev.fskByte
  repeat' with_reducible first
    | assumption
    | (apply Dev.wf_ite <;> intro _)
    | apply Dev.bumpSat_wf
    | apply Dev.bump_wf
    | apply Dev.fskDrain_wf
    | apply Dev.qrewind_wf
    | apply Dev.qstore_wf
    | apply Dev.setFsk_wf

theorem Dev.carrier_wf {d : Dev} (a1 : Nat) (a2 : Bool) (h : d.wf) : (Dev.carrier d a1 a2).wf := by
  unfold Dev.carrier
  repeat' with_reducible first
    | assumption
    | (apply Dev.wf_ite <;> intro _)
    | apply Dev.flag_wf
    | apply Dev.fskDrain_wf
    | apply Dev.put_wf
    | apply Dev.setFsk_wf

theorem Dev.fmAttach_wf {d : Dev} (a1 : Nat) (h : d.wf) : (Dev.fmAttach d a1).wf := by
  unfold Dev.fmAttach
  repeat' with_reducible first
    | assumption
    | (apply Dev.wf_ite <;> intro _)
    | apply Dev.qattach_wf
    | apply Dev.qdetach_wf
    | apply Dev.setFsk_wf

theorem Dev.fmChange_wf {d : Dev} (a1 : Nat) (a2 : Nat) (a3 : Nat) (h : d.wf) : (Dev.fmChange d a1 a2 a3).wf := by
  unfold Dev.fmChange
  repeat' with_reducible first
    | assumption
    | (apply Dev.wf_ite <;> intro _)
    | apply Dev.fmAttach_wf
    | apply Dev.put_wf

theorem Dev.chanChange_wf {d : Dev} (a1 : Nat) (h : d.wf) : (Dev.chanChange d a1).wf := by
  unfold Dev.chanChange
  repeat' with_reducible first
    | assumption
    | (apply Dev.wf_ite <;> intro _)
    | apply Dev.fmChange_wf

/-! Machine/Olisol.lean. -/

theorem Dev.olApply_wf {d : Dev} (a1 : Nat) (a2 : List (F × Nat × Nat)) (h : d.wf) : (Dev.olApply d a1 a2).wf := by
  unfold Dev.olApply
  repeat' with_reducible first
    | assumption
    | (apply Dev.wf_ite <;> intro _)
    | apply Dev.put_wf
    | apply Dev.qattach_wf
    | apply Dev.qdetach_wf
    | apply foldl_wf
    | intro _

theorem Dev.olCommit_wf {d : Dev} (a1 : Nat) (a2 : List (F × Nat × Nat)) (h : d.wf) : (Dev.olCommit d a1 a2).wf := by
  unfold Dev.olCommit
  repeat' with_reducible first
    | assumption
    | (apply Dev.wf_ite <;> intro _)
    | apply Dev.olApply_wf
    | apply Dev.put_wf
    | apply foldl_wf
    | intro _
    | refine Dev.wf_snd (by assumption) ?_
    | split
    | apply Dev.wf_mk

theorem Dev.linkStart_wf {d : Dev} (a1 : Nat) (h : d.wf) : (Dev.linkStart d a1).wf := by
  unfold Dev.linkStart
  repeat' with_reducible first
    | assumption
    | (apply Dev.wf_ite <;> intro _)
    | apply Dev.olApply_wf
    | apply Dev.put_wf
    | apply foldl_wf
    | intro _
    | refine Dev.wf_snd (by assumption) ?_
    | split
    | apply Dev.wf_mk

theorem Dev.imageSnapshot_wf {d : Dev} (a1 : Nat) (h : d.wf) : (Dev.imageSnapshot d a1).wf := by
  unfold Dev.imageSnapshot
  repeat' with_reducible first
    | assumption
    | (apply Dev.wf_ite <;> intro _)
    | apply Dev.put_wf
    | apply foldl_wf
    | intro _
    | refine Dev.wf_snd (by assumption) ?_
    | split
    | apply Dev.wf_mk

theorem Dev.frameTransmit_wf {d : Dev} (a1 : Nat) (h : d.wf) : (Dev.frameTransmit d a1).wf := by
  unfold Dev.frameTransmit
  repeat' with_reducible first
    | assumption
    | (apply Dev.wf_ite <;> intro _)
    | apply Dev.bump_wf
    | apply Dev.put_wf
    | apply foldl_wf
    | intro _
    | refine Dev.wf_snd (by assumption) ?_
    | split
    | apply Dev.wf_mk

theorem Dev.rxPacket_wf {d : Dev} (a1 : Nat) (a2 : Bool) (a3 : List Nat) (h : d.wf) : (Dev.rxPacket d a1 a2 a3).wf := by
  unfold Dev.rxPacket
  repeat' with_reducible first
    | assumption
    | (apply Dev.wf_ite <;> intro _)
    | apply Dev.bump_wf
    | apply Dev.qputPacket_wf
    | apply Dev.qrewind_wf
    | apply Dev.qstore_wf
    | apply foldl_wf
    | intro _

theorem Dev.blockReceived_wf {d : Dev} (a1 : Nat) (a2 : Nat) (a3 : List Nat) (a4 : Nat) (h : d.wf) : (Dev.blockReceived d a1 a2 a3 a4).wf := by
  unfold Dev.blockReceived
  repeat' with_reducible first
    | assumption
    | (apply Dev.wf_ite <;> intro _)
    | apply Dev.put_wf
    | apply Dev.rxPacket_wf
    | apply foldl_wf
    | intro _
    | refine Dev.wf_snd (by assumption) ?_
    | split
    | apply Dev.wf_mk

theorem Dev.judgeStation_wf {d : Dev} (a1 : Nat) (a2 : Nat) (h : d.wf) : (Dev.judgeStation d a1 a2).wf := by
  unfold Dev.judgeStation
  repeat' with_reducible first
    | assumption
    | (apply Dev.wf_ite <;> intro _)
    | apply Dev.bumpSat_wf
    | apply Dev.bump_wf
    | apply Dev.put_wf
    | apply Dev.setByte_wf
    | apply forN_wf
    | apply foldl_wf
    | intro _
    | refine Dev.wf_snd (by assumption) ?_
    | split
    | apply Dev.wf_mk

theorem Dev.completion_wf {d : Dev} (a1 : Nat) (h : d.wf) : (Dev.completion d a1).wf := by
  unfold Dev.completion
  repeat' with_reducible first
    | assumption
    | (apply Dev.wf_ite <;> intro _)
    | apply Dev.bump_wf
    | apply Dev.flag_wf
    | apply Dev.judgeStation_wf
    | apply Dev.put_wf
    | apply Dev.tapEvent_wf
    | apply foldl_wf
    | intro _

theorem Dev.inputMap_wf {d : Dev} (a1 : Nat) (a2 : Nat) (h : d.wf) : (Dev.inputMap d a1 a2).wf := by
  unfold Dev.inputMap
  repeat' with_reducible first
    | assumption
    | (apply Dev.wf_ite <;> intro _)
    | apply Dev.fieldToken_wf
    | apply Dev.put_wf

theorem Dev.symbolLock_wf {d : Dev} (a1 : Nat) (a2 : Bool) (h : d.wf) : (Dev.symbolLock d a1 a2).wf := by
  unfold Dev.symbolLock
  repeat' with_reducible first
    | assumption
    | (apply Dev.wf_ite <;> intro _)
    | apply Dev.flag_wf

theorem Dev.passFrame_wf {d : Dev} (a1 : Nat) (a2 : List Nat) (h : d.wf) : (Dev.passFrame d a1 a2).wf := by
  unfold Dev.passFrame
  repeat' with_reducible first
    | assumption
    | (apply Dev.wf_ite <;> intro _)
    | apply foldl_wf
    | intro _
    | refine Dev.wf_snd (by assumption) ?_
    | split
    | apply Dev.wf_mk

theorem Dev.cyclesRead_wf {d : Dev} (a1 : Nat) (a2 : Nat) (h : d.wf) : (Dev.cyclesRead d a1 a2).wf := by
  unfold Dev.cyclesRead
  repeat' with_reducible first
    | assumption
    | apply Dev.capture_wf

/-! Machine/SafeUnit.lean. -/

theorem Dev.enterFault_wf {d : Dev} (a1 : Nat) (a2 : Bool) (a3 : Bool) (a4 : Bool) (h : d.wf) : (Dev.enterFault d a1 a2 a3 a4).wf := by
  unfold Dev.enterFault
  repeat' with_reducible first
    | assumption
    | apply Dev.bumpSat_wf
    | apply Dev.flag_wf
    | apply Dev.put_wf

theorem Dev.fnTrack_wf {d : Dev} (a1 : Nat) (a2 : Nat) (h : d.wf) : (Dev.fnTrack d a1 a2).wf := by
  unfold Dev.fnTrack
  repeat' with_reducible first
    | assumption
    | (apply Dev.wf_ite <;> intro _)
    | apply Dev.put_wf
    | apply forN_wf
    | apply foldl_wf
    | intro _

theorem Dev.fnDemand_wf {d : Dev} (a1 : Nat) (a2 : Nat) (h : d.wf) : (Dev.fnDemand d a1 a2).wf := by
  unfold Dev.fnDemand
  repeat' with_reducible first
    | assumption
    | apply Dev.bumpSat_wf
    | apply Dev.put_wf

theorem Dev.fnReset_wf {d : Dev} (a1 : Nat) (h : d.wf) : (Dev.fnReset d a1).wf := by
  unfold Dev.fnReset
  repeat' with_reducible first
    | assumption
    | (apply Dev.wf_ite <;> intro _)
    | apply Dev.put_wf

theorem Dev.fnStep_wf {d : Dev} (a1 : Nat) (a2 : Nat) (h : d.wf) : (Dev.fnStep d a1 a2).wf := by
  unfold Dev.fnStep
  repeat' with_reducible first
    | assumption
    | (apply Dev.wf_ite <;> intro _)
    | apply Dev.bumpSat_wf
    | apply Dev.enterFault_wf
    | apply Dev.fnDemand_wf
    | apply Dev.fnReset_wf
    | apply Dev.fnTrack_wf
    | apply Dev.put_wf

theorem Dev.fieldLines_wf {d : Dev} (h : d.wf) : (Dev.fieldLines d).wf := by
  unfold Dev.fieldLines
  repeat' with_reducible first
    | assumption
    | (apply Dev.wf_ite <;> intro _)
    | apply Dev.axisStop0_wf
    | apply Dev.axisStop1_wf
    | apply Dev.pwmStop0_wf
    | apply Dev.stepStop0_wf
    | apply forN_wf
    | apply foldl_wf
    | intro _

theorem Dev.recordStop_wf {d : Dev} (a1 : Nat) (h : d.wf) : (Dev.recordStop d a1).wf := by
  unfold Dev.recordStop
  repeat' with_reducible first
    | assumption
    | apply Dev.report_wf
    | apply Dev.tapEvent_wf

theorem Dev.driveLines_wf {d : Dev} (a1 : Nat) (a2 : Nat) (a3 : Nat) (h : d.wf) : (Dev.driveLines d a1 a2 a3).wf := by
  unfold Dev.driveLines
  repeat' with_reducible first
    | assumption
    | (apply Dev.wf_ite <;> intro _)
    | apply Dev.fieldLines_wf
    | apply Dev.put_wf
    | apply Dev.recordStop_wf

theorem Dev.driveOut_wf {d : Dev} (a1 : Nat) (h : d.wf) : (Dev.driveOut d a1).wf := by
  unfold Dev.driveOut
  repeat' with_reducible first
    | assumption
    | (apply Dev.wf_ite <;> intro _)
    | apply Dev.put_wf
    | apply forN_wf
    | apply foldl_wf
    | intro _

theorem Dev.driveSafe_wf {d : Dev} (h : d.wf) : (Dev.driveSafe d).wf := by
  unfold Dev.driveSafe
  repeat' with_reducible first
    | assumption
    | apply Dev.driveLines_wf
    | apply Dev.driveOut_wf

theorem Dev.outputFault_wf {d : Dev} (a1 : Nat) (h : d.wf) : (Dev.outputFault d a1).wf := by
  unfold Dev.outputFault
  repeat' with_reducible first
    | assumption
    | (apply Dev.wf_ite <;> intro _)
    | apply Dev.enterFault_wf
    | apply Dev.put_wf
    | apply foldl_wf
    | intro _

theorem Dev.lockout_wf {d : Dev} (a1 : Nat) (h : d.wf) : (Dev.lockout d a1).wf := by
  unfold Dev.lockout
  repeat' with_reducible first
    | assumption
    | apply Dev.driveLines_wf
    | apply Dev.driveOut_wf
    | apply Dev.put_wf
    | apply Dev.report_wf

theorem Dev.safeInputs_wf {d : Dev} (a1 : Nat) (a2 : Nat) (a3 : Nat) (h : d.wf) : (Dev.safeInputs d a1 a2 a3).wf := by
  unfold Dev.safeInputs
  repeat' with_reducible first
    | assumption
    | (apply Dev.wf_ite <;> intro _)
    | apply Dev.flag_wf
    | apply Dev.put_wf
    | apply forN_wf
    | apply foldl_wf
    | intro _

theorem Dev.safeFeedback_wf {d : Dev} (a1 : Nat) (a2 : Nat) (h : d.wf) : (Dev.safeFeedback d a1 a2).wf := by
  unfold Dev.safeFeedback
  repeat' with_reducible first
    | assumption
    | (apply Dev.wf_ite <;> intro _)
    | apply Dev.outputFault_wf
    | apply Dev.put_wf
    | apply forN_wf
    | apply foldl_wf
    | intro _

theorem Dev.safetyCycle_wf {d : Dev} (a1 : Nat) (a2 : Nat) (a3 : Nat) (a4 : Bool) (a5 : Bool) (a6 : Bool) (h : d.wf) : (Dev.safetyCycle d a1 a2 a3 a4 a5 a6).wf := by
  unfold Dev.safetyCycle
  repeat' with_reducible first
    | assumption
    | (apply Dev.wf_ite <;> intro _)
    | apply Dev.deviceFault_wf
    | apply Dev.driveLines_wf
    | apply Dev.driveOut_wf
    | apply Dev.driveSafe_wf
    | apply Dev.fnStep_wf
    | apply Dev.fresh_wf
    | apply Dev.lockout_wf
    | apply Dev.put_wf
    | apply Dev.safeFeedback_wf
    | apply Dev.safeInputs_wf
    | apply foldl_wf
    | intro _

theorem Dev.stop1Timeout_wf {d : Dev} (a1 : Nat) (h : d.wf) : (Dev.stop1Timeout d a1).wf := by
  unfold Dev.stop1Timeout
  repeat' with_reducible first
    | assumption
    | (apply Dev.wf_ite <;> intro _)
    | apply Dev.driveSafe_wf
    | apply Dev.put_wf

theorem Dev.testPulse_wf {d : Dev} (a1 : Nat) (a2 : Nat) (h : d.wf) : (Dev.testPulse d a1 a2).wf := by
  unfold Dev.testPulse
  repeat' with_reducible first
    | assumption
    | (apply Dev.wf_ite <;> intro _)
    | apply Dev.put_wf
    | apply forN_wf
    | apply foldl_wf
    | intro _

theorem Dev.offPulse_wf {d : Dev} (a1 : Nat) (a2 : Bool) (h : d.wf) : (Dev.offPulse d a1 a2).wf := by
  unfold Dev.offPulse
  repeat' with_reducible first
    | assumption
    | (apply Dev.wf_ite <;> intro _)
    | apply Dev.driveSafe_wf
    | apply Dev.outputFault_wf
    | apply Dev.put_wf

theorem Dev.safetyInitEnd_wf {d : Dev} (a1 : Bool) (h : d.wf) : (Dev.safetyInitEnd d a1).wf := by
  unfold Dev.safetyInitEnd
  repeat' with_reducible first
    | assumption
    | (apply Dev.wf_ite <;> intro _)
    | apply Dev.driveSafe_wf
    | apply Dev.put_wf
    | apply foldl_wf
    | intro _

/-! Machine/Eth.lean. -/

theorem Dev.openGates_wf {d : Dev} (a1 : Nat) (h : d.wf) : (Dev.openGates d a1).wf := by
  unfold Dev.openGates
  repeat' with_reducible first
    | assumption
    | apply Dev.put_wf

theorem Dev.gateEntry_wf {d : Dev} (a1 : Nat) (h : d.wf) : (Dev.gateEntry d a1).wf := by
  unfold Dev.gateEntry
  repeat' with_reducible first
    | assumption
    | (apply Dev.wf_ite <;> intro _)
    | apply Dev.openGates_wf

theorem Dev.gclSwap_wf {d : Dev} (a1 : Nat) (h : d.wf) : (Dev.gclSwap d a1).wf := by
  unfold Dev.gclSwap
  repeat' with_reducible first
    | assumption
    | (apply Dev.wf_ite <;> intro _)
    | apply Dev.put_wf

theorem Dev.gclSwapActs_wf {d : Dev} (a1 : Nat) (h : d.wf) : (Dev.gclSwapActs d a1).wf := by
  unfold Dev.gclSwapActs
  repeat' with_reducible first
    | assumption
    | (apply Dev.wf_ite <;> intro _)
    | apply Dev.openGates_wf
    | apply Dev.put_wf

theorem Dev.gclRestart_wf {d : Dev} (a1 : Nat) (h : d.wf) : (Dev.gclRestart d a1).wf := by
  unfold Dev.gclRestart
  repeat' with_reducible first
    | assumption
    | (apply Dev.wf_ite <;> intro _)
    | apply Dev.openGates_wf
    | apply Dev.put_wf
    | apply forN_wf
    | apply foldl_wf
    | intro _

theorem Dev.writeAndRewind_wf {d : Dev} (a1 : Nat) (a2 : List Nat) (h : d.wf) : (Dev.writeAndRewind d a1 a2).wf := by
  unfold Dev.writeAndRewind
  repeat' with_reducible first
    | assumption
    | apply Dev.qrewind_wf
    | apply Dev.qstore_wf
    | apply foldl_wf
    | intro _

theorem Dev.ethReceived_wf {d : Dev} (a1 : Nat) (a2 : List Nat) (a3 : Bool) (a4 : Nat) (h : d.wf) : (Dev.ethReceived d a1 a2 a3 a4).wf := by
  unfold Dev.ethReceived
  repeat' with_reducible first
    | assumption
    | (apply Dev.wf_ite <;> intro _)
    | apply Dev.bump_wf
    | apply Dev.qputPacket_wf
    | apply Dev.tapEvent_wf
    | apply Dev.writeAndRewind_wf

theorem Dev.ethStart_wf {d : Dev} (a1 : Nat) (a2 : Nat) (h : d.wf) : (Dev.ethStart d a1 a2).wf := by
  unfold Dev.ethStart
  repeat' with_reducible first
    | assumption
    | apply Dev.fresh_wf
    | apply Dev.put_wf
    | apply Dev.qtakePacket_wf
    | apply foldl_wf
    | intro _
    | refine Dev.wf_snd (by assumption) ?_
    | split
    | apply Dev.wf_mk

theorem Dev.ethTransmit_wf {d : Dev} (a1 : Nat) (h : d.wf) : (Dev.ethTransmit d a1).wf := by
  unfold Dev.ethTransmit
  repeat' with_reducible first
    | assumption
    | (apply Dev.wf_ite <;> intro _)
    | apply Dev.bump_wf
    | apply Dev.ethStart_wf
    | apply Dev.put_wf
    | apply Dev.qtakePacket_wf
    | apply foldl_wf
    | intro _
    | refine Dev.wf_snd (by assumption) ?_
    | split
    | apply Dev.wf_mk

theorem Dev.setTsq_wf {d : Dev} (a1 : Nat) (a2 : List (Nat × Nat)) (h : d.wf) : (Dev.setTsq d a1 a2).wf := by
  unfold Dev.setTsq
  repeat' with_reducible first
    | assumption
    | apply foldl_wf
    | intro _
    | refine Dev.wf_snd (by assumption) ?_
    | split
    | apply Dev.wf_mk

theorem Dev.tsqPut_wf {d : Dev} (a1 : Nat) (a2 : Nat) (a3 : Nat) (h : d.wf) : (Dev.tsqPut d a1 a2 a3).wf := by
  unfold Dev.tsqPut
  repeat' with_reducible first
    | assumption
    | (apply Dev.wf_ite <;> intro _)
    | apply Dev.bump_wf
    | apply Dev.put_wf
    | apply Dev.setTsq_wf

theorem Dev.ethTransmitEnd_wf {d : Dev} (a1 : Nat) (h : d.wf) : (Dev.ethTransmitEnd d a1).wf := by
  unfold Dev.ethTransmitEnd
  repeat' with_reducible first
    | assumption
    | (apply Dev.wf_ite <;> intro _)
    | apply Dev.bump_wf
    | apply Dev.put_wf
    | apply Dev.tapEvent_wf
    | apply Dev.tsqPut_wf
    | apply foldl_wf
    | intro _
    | refine Dev.wf_snd (by assumption) ?_
    | split

theorem Dev.tsqRead_wf {d : Dev} (a1 : Nat) (h : d.wf) : (Dev.tsqRead d a1).wf := by
  unfold Dev.tsqRead
  repeat' with_reducible first
    | assumption
    | (apply Dev.wf_ite <;> intro _)
    | apply Dev.fresh_wf
    | apply Dev.put_wf
    | apply Dev.setTsq_wf
    | apply foldl_wf
    | intro _
    | refine Dev.wf_snd (by assumption) ?_
    | split

theorem Dev.txokRead_wf {d : Dev} (a1 : Nat) (h : d.wf) : (Dev.txokRead d a1).wf := by
  unfold Dev.txokRead
  repeat' with_reducible first
    | assumption
    | apply Dev.capture_wf

theorem Dev.sgmii_wf {d : Dev} (a1 : Nat) (a2 : Bool) (a3 : Nat) (h : d.wf) : (Dev.sgmii d a1 a2 a3).wf := by
  unfold Dev.sgmii
  repeat' with_reducible first
    | assumption
    | (apply Dev.wf_ite <;> intro _)
    | apply Dev.put_wf

/-! Machine/Can.lean. -/

theorem Dev.canEnd_wf {d : Dev} (a1 : Nat) (a2 : Nat) (a3 : Nat) (h : d.wf) : (Dev.canEnd d a1 a2 a3).wf := by
  unfold Dev.canEnd
  repeat' with_reducible first
    | assumption
    | (apply Dev.wf_ite <;> intro _)
    | apply Dev.fresh_wf
    | apply Dev.put_wf
    | apply Dev.setFlags_wf
    | apply Dev.tapEvent_wf
    | apply Dev.wr_wf
    | apply foldl_wf
    | intro _
    | refine Dev.wf_snd (by assumption) ?_
    | split

theorem Dev.txreq1_wf {d : Dev} (a1 : Nat) (a2 : Nat) (h : d.wf) : (Dev.txreq1 d a1 a2).wf := by
  unfold Dev.txreq1
  repeat' with_reducible first
    | assumption
    | (apply Dev.wf_ite <;> intro _)
    | apply Dev.canEnd_wf
    | apply Dev.put_wf

theorem Dev.txcan1_wf {d : Dev} (a1 : Nat) (a2 : Nat) (a3 : Bool) (h : d.wf) : (Dev.txcan1 d a1 a2 a3).wf := by
  unfold Dev.txcan1
  repeat' with_reducible first
    | assumption
    | (apply Dev.wf_ite <;> intro _)
    | apply Dev.canEnd_wf
    | apply Dev.put_wf

theorem Dev.txreq_wf {d : Dev} (a1 : Nat) (a2 : Nat) (h : d.wf) : (Dev.txreq d a1 a2).wf := by
  unfold Dev.txreq
  repeat' with_reducible first
    | assumption
    | (apply Dev.wf_ite <;> intro _)
    | apply Dev.txreq1_wf
    | apply forN_wf
    | apply foldl_wf
    | intro _

theorem Dev.txcan_wf {d : Dev} (a1 : Nat) (a2 : Nat) (a3 : Nat) (h : d.wf) : (Dev.txcan d a1 a2 a3).wf := by
  unfold Dev.txcan
  repeat' with_reducible first
    | assumption
    | (apply Dev.wf_ite <;> intro _)
    | apply Dev.txcan1_wf
    | apply Dev.txreq1_wf
    | apply forN_wf
    | apply foldl_wf
    | intro _

theorem Dev.canState_wf {d : Dev} (a1 : Nat) (h : d.wf) : (Dev.canState d a1).wf := by
  unfold Dev.canState
  repeat' with_reducible first
    | assumption
    | (apply Dev.wf_ite <;> intro _)
    | apply Dev.put_wf

theorem Dev.canBusOff_wf {d : Dev} (a1 : Nat) (h : d.wf) : (Dev.canBusOff d a1).wf := by
  unfold Dev.canBusOff
  repeat' with_reducible first
    | assumption
    | (apply Dev.wf_ite <;> intro _)
    | apply Dev.canEnd_wf
    | apply Dev.put_wf
    | apply forN_wf
    | apply foldl_wf
    | intro _

theorem Dev.tecUp_wf {d : Dev} (a1 : Nat) (a2 : Nat) (h : d.wf) : (Dev.tecUp d a1 a2).wf := by
  unfold Dev.tecUp
  repeat' with_reducible first
    | assumption
    | (apply Dev.wf_ite <;> intro _)
    | apply Dev.canBusOff_wf
    | apply Dev.canState_wf
    | apply Dev.put_wf

theorem Dev.recUp_wf {d : Dev} (a1 : Nat) (a2 : Nat) (h : d.wf) : (Dev.recUp d a1 a2).wf := by
  unfold Dev.recUp
  repeat' with_reducible first
    | assumption
    | apply Dev.canState_wf
    | apply Dev.put_wf

theorem Dev.tecDown_wf {d : Dev} (a1 : Nat) (h : d.wf) : (Dev.tecDown d a1).wf := by
  unfold Dev.tecDown
  repeat' with_reducible first
    | assumption
    | apply Dev.canState_wf
    | apply Dev.put_wf

theorem Dev.recDown_wf {d : Dev} (a1 : Nat) (h : d.wf) : (Dev.recDown d a1).wf := by
  unfold Dev.recDown
  repeat' with_reducible first
    | assumption
    | (apply Dev.wf_ite <;> intro _)
    | apply Dev.canState_wf
    | apply Dev.fresh_wf
    | apply Dev.put_wf

theorem Dev.canAttemptFails_wf {d : Dev} (a1 : Nat) (h : d.wf) : (Dev.canAttemptFails d a1).wf := by
  unfold Dev.canAttemptFails
  repeat' with_reducible first
    | assumption
    | (apply Dev.wf_ite <;> intro _)
    | apply Dev.canEnd_wf
    | apply Dev.put_wf

theorem Dev.canTxError_wf {d : Dev} (a1 : Nat) (a2 : Nat) (a3 : Bool) (h : d.wf) : (Dev.canTxError d a1 a2 a3).wf := by
  unfold Dev.canTxError
  repeat' with_reducible first
    | assumption
    | (apply Dev.wf_ite <;> intro _)
    | apply Dev.canAttemptFails_wf
    | apply Dev.put_wf
    | apply Dev.tecUp_wf

theorem Dev.canBusError_wf {d : Dev} (a1 : Nat) (a2 : Nat) (a3 : Bool) (h : d.wf) : (Dev.canBusError d a1 a2 a3).wf := by
  unfold Dev.canBusError
  repeat' with_reducible first
    | assumption
    | (apply Dev.wf_ite <;> intro _)
    | apply Dev.canTxError_wf
    | apply Dev.put_wf
    | apply Dev.recUp_wf

theorem Dev.canRecov_wf {d : Dev} (a1 : Nat) (h : d.wf) : (Dev.canRecov d a1).wf := by
  unfold Dev.canRecov
  repeat' with_reducible first
    | assumption
    | (apply Dev.wf_ite <;> intro _)
    | apply Dev.put_wf

theorem Dev.canRecovered_wf {d : Dev} (a1 : Nat) (h : d.wf) : (Dev.canRecovered d a1).wf := by
  unfold Dev.canRecovered
  repeat' with_reducible first
    | assumption
    | (apply Dev.wf_ite <;> intro _)
    | apply Dev.put_wf

theorem Dev.canStart_wf {d : Dev} (a1 : Nat) (a2 : Nat) (h : d.wf) : (Dev.canStart d a1 a2).wf := by
  unfold Dev.canStart
  repeat' with_reducible first
    | assumption
    | (apply Dev.wf_ite <;> intro _)
    | apply Dev.canEnd_wf
    | apply Dev.canTxError_wf
    | apply Dev.flag_wf
    | apply Dev.fresh_wf
    | apply Dev.put_wf
    | apply foldl_wf
    | intro _
    | refine Dev.wf_snd (by assumption) ?_
    | split

theorem Dev.canTake_wf {d : Dev} (a1 : Nat) (a2 : CanFrame) (a3 : Nat) (h : d.wf) : (Dev.canTake d a1 a2 a3).wf := by
  unfold Dev.canTake
  repeat' with_reducible first
    | assumption
    | (apply Dev.wf_ite <;> intro _)
    | apply Dev.bump_wf
    | apply Dev.qputPacket_wf
    | apply Dev.tapEvent_wf

theorem Dev.canReceived_wf {d : Dev} (a1 : Nat) (a2 : CanFrame) (a3 : Nat) (h : d.wf) : (Dev.canReceived d a1 a2 a3).wf := by
  unfold Dev.canReceived
  repeat' with_reducible first
    | assumption
    | (apply Dev.wf_ite <;> intro _)
    | apply Dev.canTake_wf
    | apply Dev.recDown_wf

theorem Dev.canFinish_wf {d : Dev} (a1 : Nat) (a2 : Bool) (h : d.wf) : (Dev.canFinish d a1 a2).wf := by
  unfold Dev.canFinish
  repeat' with_reducible first
    | assumption
    | (apply Dev.wf_ite <;> intro _)
    | apply Dev.canEnd_wf
    | apply Dev.canTake_wf
    | apply Dev.put_wf
    | apply Dev.tecDown_wf

theorem Dev.canColClose_wf {d : Dev} (a1 : Nat) (h : d.wf) : (Dev.canColClose d a1).wf := by
  unfold Dev.canColClose
  repeat' with_reducible first
    | assumption
    | (apply Dev.wf_ite <;> intro _)
    | apply Dev.canEnd_wf
    | apply Dev.put_wf

theorem Dev.canCycle_wf {d : Dev} (a1 : Nat) (a2 : Nat) (a3 : Nat) (h : d.wf) : (Dev.canCycle d a1 a2 a3).wf := by
  unfold Dev.canCycle
  repeat' with_reducible first
    | assumption
    | apply Dev.canColClose_wf
    | apply Dev.put_wf

theorem Dev.basicCycle_wf {d : Dev} (a1 : Nat) (a2 : Nat) (a3 : Nat) (h : d.wf) : (Dev.basicCycle d a1 a2 a3).wf := by
  unfold Dev.basicCycle
  repeat' with_reducible first
    | assumption
    | (apply Dev.wf_ite <;> intro _)
    | apply Dev.canCycle_wf
    | apply Dev.put_wf
    | apply Dev.setByte_wf
    | apply foldl_wf
    | intro _
    | refine Dev.wf_snd (by assumption) ?_
    | split

theorem Dev.columnStart_wf {d : Dev} (a1 : Nat) (h : d.wf) : (Dev.columnStart d a1).wf := by
  unfold Dev.columnStart
  repeat' with_reducible first
    | assumption
    | (apply Dev.wf_ite <;> intro _)
    | apply Dev.canColClose_wf
    | apply Dev.put_wf

theorem Dev.missRef_wf {d : Dev} (a1 : Nat) (h : d.wf) : (Dev.missRef d a1).wf := by
  unfold Dev.missRef
  repeat' with_reducible first
    | assumption
    | (apply Dev.wf_ite <;> intro _)
    | apply Dev.canColClose_wf
    | apply Dev.put_wf

theorem Dev.canRestart_wf {d : Dev} (a1 : Nat) (h : d.wf) : (Dev.canRestart d a1).wf := by
  unfold Dev.canRestart
  repeat' with_reducible first
    | assumption
    | apply Dev.put_wf

theorem Dev.canRxokRead_wf {d : Dev} (a1 : Nat) (h : d.wf) : (Dev.canRxokRead d a1).wf := by
  unfold Dev.canRxokRead
  repeat' with_reducible first
    | assumption
    | apply Dev.capture_wf

/-! Machine/Pcie.lean. -/

theorem Dev.postHost_wf {d : Dev} (a1 : Nat) (a2 : Nat) (a3 : Nat) (h : d.wf) : (Dev.postHost d a1 a2 a3).wf := by
  unfold Dev.postHost
  repeat' with_reducible first
    | assumption
    | apply foldl_wf
    | intro _
    | refine Dev.wf_snd (by assumption) ?_
    | split
    | apply Dev.wf_mk

theorem Dev.hostWrite_wf {d : Dev} (a1 : Nat) (a2 : Nat) (h : d.wf) : (Dev.hostWrite d a1 a2).wf := by
  unfold Dev.hostWrite
  repeat' with_reducible first
    | assumption
    | (apply Dev.wf_ite <;> intro _)
    | apply Dev.put_wf

theorem Dev.hqAdvance_wf {d : Dev} (a1 : Nat) (h : d.wf) : (Dev.hqAdvance d a1).wf := by
  unfold Dev.hqAdvance
  repeat' with_reducible first
    | assumption
    | apply Dev.bump_wf
    | apply Dev.postHost_wf
    | apply Dev.put_wf

theorem Dev.hqTransfer_wf {d : Dev} (a1 : Nat) (a2 : Nat) (h : d.wf) : (Dev.hqTransfer d a1 a2).wf := by
  unfold Dev.hqTransfer
  repeat' with_reducible first
    | assumption
    | (apply Dev.wf_ite <;> intro _)
    | apply Dev.hqAdvance_wf
    | apply Dev.postHost_wf
    | apply Dev.qstore_wf
    | apply Dev.qtake_wf

theorem Dev.hqCfg_wf {d : Dev} (a1 : Nat) (a2 : Bool) (a3 : Bool) (a4 : Bool) (a5 : Nat) (a6 : Nat) (h : d.wf) : (Dev.hqCfg d a1 a2 a3 a4 a5 a6).wf := by
  unfold Dev.hqCfg
  repeat' with_reducible first
    | assumption
    | (apply Dev.wf_ite <;> intro _)
    | apply Dev.flag_wf
    | apply Dev.put_wf
    | apply Dev.qattach_wf

theorem Dev.msix_wf {d : Dev} (a1 : Nat) (h : d.wf) : (Dev.msix d a1).wf := by
  unfold Dev.msix
  repeat' with_reducible first
    | assumption
    | (apply Dev.wf_ite <;> intro _)
    | apply Dev.bump_wf
    | apply Dev.put_wf

theorem Dev.perst_wf {d : Dev} (h : d.wf) : (Dev.perst d).wf := by
  unfold Dev.perst
  repeat' with_reducible first
    | assumption
    | (apply Dev.wf_ite <;> intro _)
    | apply Dev.put_wf
    | apply Dev.qdetach_wf
    | apply forN_wf
    | apply foldl_wf
    | intro _

theorem Dev.linkTrained_wf {d : Dev} (a1 : Nat) (a2 : Nat) (h : d.wf) : (Dev.linkTrained d a1 a2).wf := by
  unfold Dev.linkTrained
  repeat' with_reducible first
    | assumption
    | (apply Dev.wf_ite <;> intro _)
    | apply Dev.put_wf

/-! Machine/Units.lean. -/

theorem Dev.attachIf_wf {d : Dev} (a1 : Bool) (a2 : Nat) (a3 : Nat) (h : d.wf) : (Dev.attachIf d a1 a2 a3).wf := by
  unfold Dev.attachIf
  repeat' with_reducible first
    | assumption
    | (apply Dev.wf_ite <;> intro _)
    | apply Dev.qattach_wf

theorem Dev.attachUnits_wf {d : Dev} (h : d.wf) : (Dev.attachUnits d).wf := by
  unfold Dev.attachUnits
  repeat' with_reducible first
    | assumption
    | (apply Dev.wf_ite <;> intro _)
    | apply Dev.attachIf_wf
    | apply forN_wf
    | apply foldl_wf
    | intro _
    | refine Dev.wf_snd (by assumption) ?_
    | split

theorem Dev.detachAll_wf {d : Dev} (h : d.wf) : (Dev.detachAll d).wf := by
  unfold Dev.detachAll
  repeat' with_reducible first
    | assumption
    | (apply Dev.wf_ite <;> intro _)
    | apply Dev.qdetach_wf
    | apply forN_wf
    | apply foldl_wf
    | intro _

theorem Dev.fieldStart_wf {d : Dev} (h : d.wf) : (Dev.fieldStart d).wf := by
  unfold Dev.fieldStart
  repeat' with_reducible first
    | assumption
    | (apply Dev.wf_ite <;> intro _)
    | apply Dev.attachUnits_wf
    | apply Dev.canRestart_wf
    | apply Dev.encRestart_wf
    | apply Dev.fieldLines_wf
    | apply Dev.holdEnds_wf
    | apply Dev.pulseStart_wf
    | apply Dev.put_wf
    | apply Dev.seqStart_wf
    | apply Dev.stepEnable_wf
    | apply forN_wf
    | apply foldl_wf
    | intro _

theorem Dev.followInputs_wf {d : Dev} {e1 : Dev} (h : d.wf) : (Dev.followInputs d e1).wf := by
  unfold Dev.followInputs
  repeat' with_reducible first
    | assumption
    | (apply Dev.wf_ite <;> intro _)
    | apply Dev.encRestart_wf
    | apply Dev.seqRestart_wf
    | apply forN_wf
    | apply foldl_wf
    | intro _

end Sys2Proof.Machine
end

