-- ==== Sys2Proof/Laws/CanonicalChip.lean ====
section
/-!
SUPPORT. The canonical form of the stored data: what faults, resets, commits, the pair, time, recording, power and service keep. One lemma for each definition that changes the device.
-/

namespace Sys2Proof.Machine

/-! Machine/Faults.lean. -/

theorem Dev.copyMem_wf {d : Dev} (a1 : Nat) (a2 : Nat) (a3 : Nat) (h : d.wf) : (Dev.copyMem d a1 a2 a3).wf := by
  unfold Dev.copyMem
  repeat' with_reducible first
    | assumption
    | apply Dev.setByte_wf
    | apply forN_wf
    | apply foldl_wf
    | intro _

theorem Dev.copyImage_wf {d : Dev} (a1 : Nat) (a2 : Nat) (h : d.wf) : (Dev.copyImage d a1 a2).wf := by
  unfold Dev.copyImage
  repeat' with_reducible first
    | assumption
    | apply Dev.copyMem_wf

theorem Dev.dropBanks_wf {d : Dev} (a1 : Nat) (h : d.wf) : (Dev.dropBanks d a1).wf := by
  unfold Dev.dropBanks
  repeat' with_reducible first
    | assumption
    | (apply Dev.wf_ite <;> intro _)
    | apply Dev.put_wf
    | apply Dev.setBank_wf
    | apply Dev.setFate_wf
    | apply Dev.setLoaded_wf
    | apply forN_wf
    | apply foldl_wf
    | intro _

theorem Dev.loseSlot_wf {d : Dev} (a1 : Nat) (h : d.wf) : (Dev.loseSlot d a1).wf := by
  unfold Dev.loseSlot
  repeat' with_reducible first
    | assumption
    | apply Dev.disable_wf
    | apply Dev.put_wf

theorem Dev.substitute_wf {d : Dev} (a1 : Nat) (h : d.wf) : (Dev.substitute d a1).wf := by
  unfold Dev.substitute
  repeat' with_reducible first
    | assumption
    | apply Dev.copyImage_wf
    | apply Dev.put_wf

theorem Dev.loopCellFault_wf {d : Dev} (a1 : Nat) (a2 : Bool) (a3 : Bool) (h : d.wf) : (Dev.loopCellFault d a1 a2 a3).wf := by
  unfold Dev.loopCellFault
  repeat' with_reducible first
    | assumption
    | (apply Dev.wf_ite <;> intro _)
    | apply Dev.dropBanks_wf
    | apply Dev.flag_wf
    | apply Dev.loseSlot_wf
    | apply Dev.put_wf
    | apply Dev.report_wf
    | apply Dev.restoreDone_wf
    | apply Dev.substitute_wf
    | apply foldl_wf

theorem Dev.retireEnc_wf {d : Dev} (a1 : Nat) (h : d.wf) : (Dev.retireEnc d a1).wf := by
  unfold Dev.retireEnc
  repeat' with_reducible first
    | assumption
    | (apply Dev.wf_ite <;> intro _)
    | apply Dev.encRestart_wf
    | apply Dev.put_wf

theorem Dev.retireAxis_wf {d : Dev} (a1 : Nat) (h : d.wf) : (Dev.retireAxis d a1).wf := by
  unfold Dev.retireAxis
  repeat' with_reducible first
    | assumption
    | (apply Dev.wf_ite <;> intro _)
    | apply Dev.modeEffect_wf
    | apply Dev.put_wf

theorem Dev.retireAin_wf {d : Dev} (a1 : Nat) (h : d.wf) : (Dev.retireAin d a1).wf := by
  unfold Dev.retireAin
  repeat' with_reducible first
    | assumption
    | apply Dev.put_wf

theorem Dev.retireAo_wf {d : Dev} (a1 : Nat) (h : d.wf) : (Dev.retireAo d a1).wf := by
  unfold Dev.retireAo
  repeat' with_reducible first
    | assumption
    | apply Dev.put_wf

theorem Dev.fieldCellFault_wf {d : Dev} (a1 : F) (a2 : Nat) (a3 : Nat) (a4 : Dev → Nat → Dev) (h4 : ∀ x0 x1, x0.wf → (a4 x0 x1).wf) (h : d.wf) : (Dev.fieldCellFault d a1 a2 a3 a4).wf := by
  unfold Dev.fieldCellFault
  repeat' with_reducible first
    | assumption
    | (apply Dev.wf_ite <;> intro _)
    | apply Dev.report_wf
    | apply h4

theorem Dev.cellFault_wf {d : Dev} (a1 : CellId) (a2 : Bool) (a3 : Bool) (h : d.wf) : (Dev.cellFault d a1 a2 a3).wf := by
  unfold Dev.cellFault
  repeat' with_reducible first
    | assumption
    | apply Dev.fieldCellFault_wf
    | apply Dev.loopCellFault_wf
    | apply Dev.retireAin_wf
    | apply Dev.retireAo_wf
    | apply Dev.retireAxis_wf
    | apply Dev.retireEnc_wf
    | apply foldl_wf
    | intro _
    | refine Dev.wf_snd (by assumption) ?_
    | split

theorem Dev.loopBlockFault_wf {d : Dev} (a1 : Nat) (a2 : Nat) (h : d.wf) : (Dev.loopBlockFault d a1 a2).wf := by
  unfold Dev.loopBlockFault
  repeat' with_reducible first
    | assumption
    | (apply Dev.wf_ite <;> intro _)
    | apply Dev.disableBlock_wf
    | apply Dev.dropBanks_wf
    | apply Dev.put_wf
    | apply Dev.report_wf
    | apply Dev.stageSafe_wf
    | apply forN_wf
    | apply foldl_wf
    | intro _

theorem Dev.fieldBlockFault_wf {d : Dev} (a1 : Nat) (a2 : Nat) (a3 : Dev → Dev) (h3 : ∀ x0, x0.wf → (a3 x0).wf) (h : d.wf) : (Dev.fieldBlockFault d a1 a2 a3).wf := by
  unfold Dev.fieldBlockFault
  repeat' with_reducible first
    | assumption
    | (apply Dev.wf_ite <;> intro _)
    | apply Dev.report_wf
    | apply h3

theorem Dev.retireAnalogue_wf (a0 : Nat) {d : Dev} (h : d.wf) : (Dev.retireAnalogue a0 d).wf := by
  unfold Dev.retireAnalogue
  repeat' with_reducible first
    | assumption
    | apply Dev.retireAin_wf
    | apply Dev.retireAo_wf
    | apply forN_wf
    | apply foldl_wf
    | intro _

theorem Dev.blockFault_wf {d : Dev} (a1 : BlockId) (a2 : Nat) (h : d.wf) : (Dev.blockFault d a1 a2).wf := by
  unfold Dev.blockFault
  repeat' with_reducible first
    | assumption
    | apply Dev.fieldBlockFault_wf
    | apply Dev.gatesOff_wf
    | apply Dev.loopBlockFault_wf
    | apply Dev.phaseOff_wf
    | apply Dev.put_wf
    | apply Dev.retireAnalogue_wf
    | apply Dev.retireAxis_wf
    | apply Dev.retireEnc_wf
    | apply forN_wf
    | apply foldl_wf
    | intro _
    | refine Dev.wf_snd (by assumption) ?_
    | split

theorem Dev.regionFault_wf {d : Dev} (a1 : Nat) (a2 : Nat) (h : d.wf) : (Dev.regionFault d a1 a2).wf := by
  unfold Dev.regionFault
  repeat' with_reducible first
    | assumption
    | (apply Dev.wf_ite <;> intro _)
    | apply Dev.deviceFault_wf
    | apply Dev.lockout_wf
    | apply Dev.report_wf

theorem Dev.pathFailure_wf {d : Dev} (a1 : SafePath) (h : d.wf) : (Dev.pathFailure d a1).wf := by
  unfold Dev.pathFailure
  repeat' with_reducible first
    | assumption
    | apply Dev.fieldLines_wf
    | apply Dev.put_wf
    | apply foldl_wf
    | intro _
    | refine Dev.wf_snd (by assumption) ?_
    | split

theorem Dev.mirrorRebuild_wf {d : Dev} (a1 : Nat) (h : d.wf) : (Dev.mirrorRebuild d a1).wf := by
  unfold Dev.mirrorRebuild
  repeat' with_reducible first
    | assumption
    | (apply Dev.wf_ite <;> intro _)
    | apply Dev.copyMem_wf
    | apply Dev.put_wf
    | apply forN_wf
    | apply foldl_wf
    | intro _

theorem Dev.touch_wf {d : Dev} (h : d.wf) : (Dev.touch d).wf := by
  unfold Dev.touch
  repeat' with_reducible first
    | assumption
    | apply Dev.put_wf

theorem Dev.spareReadmit_wf {d : Dev} (a1 : Nat) (a2 : Nat) (h : d.wf) : (Dev.spareReadmit d a1 a2).wf := by
  unfold Dev.spareReadmit
  repeat' with_reducible first
    | assumption
    | (apply Dev.wf_ite <;> intro _)
    | apply Dev.put_wf
    | apply Dev.touch_wf

theorem Dev.spareSelfTest_wf {d : Dev} (a1 : Nat) (a2 : Nat) (h : d.wf) : (Dev.spareSelfTest d a1 a2).wf := by
  unfold Dev.spareSelfTest
  repeat' with_reducible first
    | assumption
    | (apply Dev.wf_ite <;> intro _)
    | apply Dev.mirrorStale_wf
    | apply Dev.put_wf

theorem Dev.restore_wf {d : Dev} (a1 : Nat) (a2 : Nat) (h : d.wf) : (Dev.restore d a1 a2).wf := by
  unfold Dev.restore
  repeat' with_reducible first
    | assumption
    | (apply Dev.wf_ite <;> intro _)
    | apply Dev.copyImage_wf
    | apply Dev.copyMem_wf
    | apply Dev.put_wf
    | apply Dev.touch_wf
    | apply forN_wf
    | apply foldl_wf
    | intro _

theorem Dev.restoreSwitch_wf {d : Dev} (a1 : Nat) (h : d.wf) : (Dev.restoreSwitch d a1).wf := by
  unfold Dev.restoreSwitch
  repeat' with_reducible first
    | assumption
    | (apply Dev.wf_ite <;> intro _)
    | apply Dev.put_wf
    | apply Dev.restoreDone_wf

/-! Machine/Reset.lean. -/

theorem Dev.dropFields_wf {d : Dev} (a1 : F × Nat → Bool) (h : d.wf) : (Dev.dropFields d a1).wf :=
  ⟨regsWf_filter _ h.1, h.2.1, h.2.2.1, h.2.2.2.1, h.2.2.2.2.1, mapOrdered_filter ltReg_strict _ _ h.2.2.2.2.2⟩

theorem Dev.dropShadows_wf {d : Dev} (a1 : Nat) (h : d.wf) : (Dev.dropShadows d a1).wf :=
  ⟨h.1, h.2.1, h.2.2.1, shadowWf_filter _ h.2.2.2.1, shadowWf_filter _ h.2.2.2.2.1, h.2.2.2.2.2⟩

theorem Dev.dropMem_wf {d : Dev} (a1 : Nat → Bool) (h : d.wf) : (Dev.dropMem d a1).wf :=
  ⟨h.1, memWf_filter _ h.2.1, h.2.2⟩

theorem Dev.dropLists_wf {d : Dev} (h : d.wf) : (Dev.dropLists d).wf := h

theorem Dev.resetDone_wf {d : Dev} (a1 : Nat) (h : d.wf) : (Dev.resetDone d a1).wf := by
  unfold Dev.resetDone
  repeat' with_reducible first
    | assumption
    | apply Dev.put_wf
    | apply Dev.report_wf

theorem Dev.roleAfterReset_wf {d : Dev} (h : d.wf) : (Dev.roleAfterReset d).wf := by
  unfold Dev.roleAfterReset
  repeat' with_reducible first
    | assumption
    | (apply Dev.wf_ite <;> intro _)
    | apply Dev.setRole_wf

theorem Dev.wipe_wf {d : Dev} (h : d.wf) : (Dev.wipe d).wf := by
  unfold Dev.wipe
  apply Dev.dropLists_wf
  apply Dev.dropMem_wf
  apply Dev.dropFields_wf
  exact ⟨h.1, h.2.1, h.2.2.1, rfl, rfl, h.2.2.2.2.2⟩

theorem Dev.retireAgain_wf {d : Dev} (h : d.wf) : (Dev.retireAgain d).wf := by
  unfold Dev.retireAgain
  repeat' with_reducible first
    | assumption
    | (apply Dev.wf_ite <;> intro _)
    | apply Dev.put_wf
    | apply forN_wf
    | apply foldl_wf
    | intro _

theorem Dev.fullReset_wf {d : Dev} (a1 : Nat) (h : d.wf) : (Dev.fullReset d a1).wf := by
  unfold Dev.fullReset
  repeat' with_reducible first
    | assumption
    | apply Dev.resetDone_wf
    | apply Dev.retireAgain_wf
    | apply Dev.roleAfterReset_wf
    | apply Dev.wipe_wf

theorem Dev.pinReset_wf {d : Dev} (a1 : Bool) (h : d.wf) : (Dev.pinReset d a1).wf := by
  unfold Dev.pinReset
  repeat' with_reducible first
    | assumption
    | apply Dev.flag_wf
    | apply Dev.fullReset_wf
    | apply Dev.put_wf

theorem Dev.warmReset_wf {d : Dev} (h : d.wf) : (Dev.warmReset d).wf := by
  unfold Dev.warmReset
  apply Dev.resetDone_wf
  apply Dev.roleAfterReset_wf
  apply Dev.wf_mk (d := Dev.dropLists _)
  apply Dev.dropLists_wf
  apply Dev.dropMem_wf
  apply Dev.dropFields_wf
  exact ⟨h.1, h.2.1, h.2.2.1, rfl, rfl, h.2.2.2.2.2⟩

theorem Dev.dropRegion_wf {d : Dev} (a1 : Nat) (h : d.wf) : (Dev.dropRegion d a1).wf := by
  unfold Dev.dropRegion
  repeat' with_reducible first
    | assumption
    | apply Dev.dropFields_wf
    | apply Dev.dropShadows_wf

theorem Dev.holdRegion_wf {d : Dev} (a1 : Nat) (h : d.wf) : (Dev.holdRegion d a1).wf := by
  unfold Dev.holdRegion
  repeat' with_reducible first
    | assumption
    | apply Dev.put_wf

theorem Dev.absorbNet_wf {d : Dev} (a1 : Nat → Bool) (h : d.wf) : (Dev.absorbNet d a1).wf := by
  unfold Dev.absorbNet
  repeat' with_reducible first
    | assumption
    | apply Dev.bump_wf
    | apply foldl_wf
    | intro _
    | refine Dev.wf_snd (by assumption) ?_
    | split
    | apply Dev.wf_mk

theorem Dev.dropBuffers_wf {d : Dev} (a1 : Nat) (h : d.wf) : (Dev.dropBuffers d a1).wf := by
  unfold Dev.dropBuffers
  repeat' with_reducible first
    | assumption
    | apply foldl_wf
    | intro _
    | refine Dev.wf_snd (by assumption) ?_
    | split
    | apply Dev.wf_mk

theorem Dev.absorbStalled_wf {d : Dev} (h : d.wf) : (Dev.absorbStalled d).wf := by
  unfold Dev.absorbStalled
  repeat' with_reducible first
    | assumption
    | apply Dev.bump_wf
    | apply Dev.resume_wf
    | apply foldl_wf
    | intro _
    | refine Dev.wf_snd (by assumption) ?_
    | split
    | apply Dev.wf_mk

theorem Dev.resetLoop_wf {d : Dev} (h : d.wf) : (Dev.resetLoop d).wf := by
  unfold Dev.resetLoop
  repeat' with_reducible first
    | assumption
    | apply Dev.absorbNet_wf
    | apply Dev.absorbStalled_wf
    | apply Dev.dropBuffers_wf
    | apply Dev.dropRegion_wf
    | apply Dev.holdRegion_wf
    | apply Dev.put_wf
    | apply Dev.stageToImage_wf
    | apply foldl_wf
    | intro _
    | refine Dev.wf_snd (by assumption) ?_
    | split
    | apply Dev.wf_mk

theorem Dev.resetProg_wf {d : Dev} (h : d.wf) : (Dev.resetProg d).wf := by
  unfold Dev.resetProg
  repeat' with_reducible first
    | assumption
    | apply Dev.absorbNet_wf
    | apply Dev.dropBuffers_wf
    | apply Dev.dropMem_wf
    | apply Dev.dropRegion_wf
    | apply Dev.holdRegion_wf
    | apply Dev.put_wf
    | apply foldl_wf
    | intro _
    | refine Dev.wf_snd (by assumption) ?_
    | split
    | apply Dev.wf_mk

theorem Dev.resetField_wf {d : Dev} (h : d.wf) : (Dev.resetField d).wf := by
  unfold Dev.resetField
  repeat' with_reducible first
    | assumption
    | apply Dev.detachAll_wf
    | apply Dev.dropBuffers_wf
    | apply Dev.dropMem_wf
    | apply Dev.dropRegion_wf
    | apply Dev.holdRegion_wf
    | apply foldl_wf
    | intro _
    | refine Dev.wf_snd (by assumption) ?_
    | split
    | apply Dev.wf_mk

theorem Dev.resetSafe_wf {d : Dev} (h : d.wf) : (Dev.resetSafe d).wf := by
  unfold Dev.resetSafe
  repeat' with_reducible first
    | assumption
    | apply Dev.dropRegion_wf
    | apply Dev.holdRegion_wf
    | apply foldl_wf
    | intro _
    | refine Dev.wf_snd (by assumption) ?_
    | split
    | apply Dev.wf_mk

theorem Dev.regionReset1_wf {d : Dev} (a1 : Nat) (h : d.wf) : (Dev.regionReset1 d a1).wf := by
  unfold Dev.regionReset1
  repeat' with_reducible first
    | assumption
    | (apply Dev.wf_ite <;> intro _)
    | apply Dev.put_wf
    | apply Dev.resetField_wf
    | apply Dev.resetLoop_wf
    | apply Dev.resetProg_wf
    | apply Dev.resetSafe_wf

theorem Dev.regionReset_wf {d : Dev} (a1 : Nat) (a2 : Nat) (h : d.wf) : (Dev.regionReset d a1 a2).wf := by
  unfold Dev.regionReset
  repeat' with_reducible first
    | assumption
    | (apply Dev.wf_ite <;> intro _)
    | apply Dev.put_wf
    | apply Dev.regionReset1_wf
    | apply forN_wf
    | apply foldl_wf
    | intro _

theorem Dev.preResetComplete_wf {d : Dev} (h : d.wf) : (Dev.preResetComplete d).wf := by
  unfold Dev.preResetComplete
  repeat' with_reducible first
    | assumption
    | (apply Dev.wf_ite <;> intro _)
    | apply Dev.resetSafe_wf

theorem Dev.loadRegion_wf {d : Dev} (a1 : Nat) (a2 : Nat → Bool) (h : d.wf) : (Dev.loadRegion d a1 a2).2.wf := by
  unfold Dev.loadRegion
  dsimp only
  split
  · exact Dev.put_wf _ _ _ (Dev.put_wf _ _ _ h)
  · exact Dev.put_wf _ _ _ h

theorem Dev.loadSafe_wf {d : Dev} (a1 : Nat → Bool) (h : d.wf) : (Dev.loadSafe d a1).2.wf := by
  unfold Dev.loadSafe
  repeat' with_reducible first
    | assumption
    | (apply Dev.wf_ite <;> intro _)
    | (apply Dev.wf_ite_snd <;> intro _)
    | apply Dev.loadRegion_wf
    | apply Dev.put_wf
    | apply foldl_wf
    | intro _
    | refine Dev.wf_snd (by assumption) ?_
    | split
    | apply Dev.wf_mk

theorem Dev.releaseLoop_wf {d : Dev} (h : d.wf) : (Dev.releaseLoop d).wf := by
  unfold Dev.releaseLoop
  repeat' with_reducible first
    | assumption
    | (apply Dev.wf_ite <;> intro _)
    | apply Dev.put_wf
    | apply forN_wf
    | apply foldl_wf
    | intro _

theorem Dev.releaseRegion_wf {d : Dev} (a1 : Nat) (h : d.wf) : (Dev.releaseRegion d a1).wf := by
  unfold Dev.releaseRegion
  repeat' with_reducible first
    | assumption
    | (apply Dev.wf_ite <;> intro _)
    | apply Dev.attachUnits_wf
    | apply Dev.fieldStart_wf
    | apply Dev.put_wf
    | apply Dev.releaseLoop_wf

theorem Dev.regionResetEnd_wf {d : Dev} (a1 : Nat) (a2 : Nat) (h : d.wf) : (Dev.regionResetEnd d a1 a2).wf := by
  unfold Dev.regionResetEnd
  repeat' with_reducible first
    | assumption
    | (apply Dev.wf_ite <;> intro _)
    | apply Dev.loadRegion_wf
    | apply Dev.loadSafe_wf
    | apply Dev.put_wf
    | apply Dev.releaseRegion_wf
    | apply Dev.resetDone_wf
    | apply foldl_wf
    | intro _
    | refine Dev.wf_snd (by assumption) ?_
    | split

theorem Dev.pllLock_wf {d : Dev} (h : d.wf) : (Dev.pllLock d).wf := by
  unfold Dev.pllLock
  repeat' with_reducible first
    | assumption
    | (apply Dev.wf_ite <;> intro _)
    | apply Dev.put_wf

theorem Dev.bootRegion_wf {d : Dev} (a1 : Nat) (a2 : Nat → Nat → Bool) (h : d.wf) : (Dev.bootRegion d a1 a2).wf := by
  unfold Dev.bootRegion
  repeat' with_reducible first
    | assumption
    | (apply Dev.wf_ite <;> intro _)
    | apply Dev.loadRegion_wf
    | apply Dev.loadSafe_wf
    | apply Dev.put_wf
    | apply Dev.releaseRegion_wf
    | apply foldl_wf
    | intro _
    | refine Dev.wf_snd (by assumption) ?_
    | split

theorem Dev.bootRom_wf {d : Dev} (a1 : Nat) (h : d.wf) : (Dev.bootRom d a1).wf := by
  unfold Dev.bootRom
  repeat' with_reducible first
    | assumption
    | (apply Dev.wf_ite <;> intro _)
    | apply Dev.bootRegion_wf
    | apply Dev.loadRegion_wf
    | apply Dev.put_wf

theorem Dev.loopGo_wf {d : Dev} (h : d.wf) : (Dev.loopGo d).wf := by
  unfold Dev.loopGo
  repeat' with_reducible first
    | assumption
    | (apply Dev.wf_ite <;> intro _)
    | apply Dev.put_wf
    | apply Dev.releaseLoop_wf

/-! Machine/Commit.lean. -/

theorem Dev.shadowPut_wf {d : Dev} (a1 : F) (a2 : Nat) (a3 : Nat) (hf : a1.desc.acc = .ST) (h : d.wf) : (Dev.shadowPut d a1 a2 a3).wf :=
  ⟨h.1, h.2.1, h.2.2.1, shadowWf_set _ _ hf h.2.2.2.1, h.2.2.2.2⟩

theorem Dev.commit_wf {d : Dev} (a1 : Nat) (h : d.wf) : (Dev.commit d a1).wf := by
  unfold Dev.commit
  split
  · have he : Dev.wf { d with snap := (inRgn a1 d.shadow).foldl (fun m e => mapSet ltReg e.1 (some e.2) m) d.snap } :=
      ⟨h.1, h.2.1, h.2.2.1, h.2.2.2.1, shadowWf_join (shadowWf_filter _ h.2.2.2.1) h.2.2.2.2.1, h.2.2.2.2.2⟩
    exact Dev.wf_ite (fun _ => he) (fun _ => Dev.put_wf _ _ _ (Dev.put_wf _ _ _ he))
  · exact h

theorem Dev.putAll_wf {d : Dev} (a1 : F × Nat → Bool) (a2 : List ((F × Nat) × Nat)) (h : d.wf) : (Dev.putAll d a1 a2).wf := by
  unfold Dev.putAll
  repeat' with_reducible first
    | assumption
    | (apply Dev.wf_ite <;> intro _)
    | apply Dev.put_wf
    | apply foldl_wf
    | intro _

theorem Dev.commitMode_wf {d : Dev} (a1 : List ((F × Nat) × Nat)) (a2 : Nat) (a3 : Nat) (h : d.wf) : (Dev.commitMode d a1 a2 a3).wf := by
  unfold Dev.commitMode
  repeat' with_reducible first
    | assumption
    | (apply Dev.wf_ite <;> intro _)
    | apply Dev.put_wf

theorem Dev.stageRest_wf {d : Dev} (a1 : Nat) (h : d.wf) : (Dev.stageRest d a1).wf := by
  unfold Dev.stageRest
  repeat' with_reducible first
    | assumption
    | apply Dev.put_wf
    | apply Dev.stageToImage_wf

theorem Dev.stageCommit_wf {e0 : Dev} {d : Dev} (a2 : Nat) (h : d.wf) : (Dev.stageCommit e0 d a2).wf := by
  unfold Dev.stageCommit
  repeat' with_reducible first
    | assumption
    | (apply Dev.wf_ite <;> intro _)
    | apply Dev.put_wf
    | apply Dev.stageRest_wf

theorem Dev.loopSnapshot_wf {d : Dev} (a1 : List ((F × Nat) × Nat)) (h : d.wf) : (Dev.loopSnapshot d a1).wf := by
  unfold Dev.loopSnapshot
  repeat' with_reducible first
    | assumption
    | (apply Dev.wf_ite <;> intro _)
    | apply Dev.commitMode_wf
    | apply Dev.makeReady_wf
    | apply Dev.putAll_wf
    | apply Dev.stageCommit_wf
    | apply forN_wf
    | apply foldl_wf
    | intro _

theorem Dev.commitCam_wf {d : Dev} (a1 : List ((F × Nat) × Nat)) (a2 : Nat) (h : d.wf) : (Dev.commitCam d a1 a2).wf := by
  unfold Dev.commitCam
  repeat' with_reducible first
    | assumption
    | (apply Dev.wf_ite <;> intro _)
    | apply Dev.put_wf

theorem Dev.commitCan_wf {d : Dev} (a1 : List ((F × Nat) × Nat)) (a2 : Nat) (h : d.wf) : (Dev.commitCan d a1 a2).wf := by
  unfold Dev.commitCan
  repeat' with_reducible first
    | assumption
    | (apply Dev.wf_ite <;> intro _)
    | apply Dev.canRestart_wf
    | apply Dev.putAll_wf
    | apply Dev.put_wf

theorem Dev.commitLink_wf {d : Dev} (a1 : List ((F × Nat) × Nat)) (a2 : Nat) (h : d.wf) : (Dev.commitLink d a1 a2).wf := by
  unfold Dev.commitLink
  repeat' with_reducible first
    | assumption
    | (apply Dev.wf_ite <;> intro _)
    | apply Dev.olCommit_wf

theorem Dev.requeue_wf {e0 : Dev} {d : Dev} (a2 : Nat) (h : d.wf) : (Dev.requeue e0 d a2).wf := by
  unfold Dev.requeue
  repeat' with_reducible first
    | assumption
    | (apply Dev.wf_ite <;> intro _)
    | apply Dev.qattach_wf
    | apply Dev.qdetach_wf
    | apply foldl_wf
    | intro _

theorem Dev.commitAxis_wf {e0 : Dev} {d : Dev} (a2 : Nat) (h : d.wf) : (Dev.commitAxis e0 d a2).wf := by
  unfold Dev.commitAxis
  repeat' with_reducible first
    | assumption
    | (apply Dev.wf_ite <;> intro _)
    | apply Dev.engage_wf
    | apply Dev.modeEffect_wf

theorem Dev.commitPwm_wf {e0 : Dev} {d : Dev} (a2 : Nat) (h : d.wf) : (Dev.commitPwm e0 d a2).wf := by
  unfold Dev.commitPwm
  repeat' with_reducible first
    | assumption
    | (apply Dev.wf_ite <;> intro _)
    | apply Dev.gatesOff_wf
    | apply Dev.holdEnds_wf

theorem Dev.commitAout_wf {e0 : Dev} {d : Dev} (a2 : Nat) (h : d.wf) : (Dev.commitAout e0 d a2).wf := by
  unfold Dev.commitAout
  repeat' with_reducible first
    | assumption
    | (apply Dev.wf_ite <;> intro _)
    | apply Dev.put_wf

theorem Dev.commitEth_wf {e0 : Dev} {d : Dev} (a2 : Nat) (h : d.wf) : (Dev.commitEth e0 d a2).wf := by
  unfold Dev.commitEth
  repeat' with_reducible first
    | assumption
    | (apply Dev.wf_ite <;> intro _)
    | apply Dev.openGates_wf

theorem Dev.fieldSnapshot_wf {d : Dev} (a1 : List ((F × Nat) × Nat)) (h : d.wf) : (Dev.fieldSnapshot d a1).wf := by
  unfold Dev.fieldSnapshot
  repeat' with_reducible first
    | assumption
    | (apply Dev.wf_ite <;> intro _)
    | apply Dev.commitAout_wf
    | apply Dev.commitAxis_wf
    | apply Dev.commitCam_wf
    | apply Dev.commitCan_wf
    | apply Dev.commitEth_wf
    | apply Dev.commitLink_wf
    | apply Dev.commitPwm_wf
    | apply Dev.fmChange_wf
    | apply Dev.followInputs_wf
    | apply Dev.pulseStart_wf
    | apply Dev.putAll_wf
    | apply Dev.requeue_wf
    | apply Dev.stepEnable_wf
    | apply forN_wf
    | apply foldl_wf
    | intro _

theorem Dev.snapshotEffect_wf {d : Dev} (a1 : Nat) (h : d.wf) : (Dev.snapshotEffect d a1).wf := by
  unfold Dev.snapshotEffect
  split
  · have he : Dev.wf { d with snap := d.snap.filter (fun e => !decide (rgnOf e.1 = a1)) } :=
      ⟨h.1, h.2.1, h.2.2.1, h.2.2.2.1, shadowWf_filter _ h.2.2.2.2.1, h.2.2.2.2.2⟩
    have hp := Dev.put_wf .CFG_COMMIT_PENDING a1 0 he
    exact Dev.wf_ite (fun _ => Dev.loopSnapshot_wf _ hp) (fun _ => Dev.wf_ite (fun _ => Dev.fieldSnapshot_wf _ hp) (fun _ => Dev.putAll_wf _ _ hp))
  · exact h

/-! Machine/Pair.lean. -/

theorem Dev.becomeActive_wf {d : Dev} (a1 : Nat) (h : d.wf) : (Dev.becomeActive d a1).wf := by
  unfold Dev.becomeActive
  repeat' with_reducible first
    | assumption
    | apply Dev.flag_wf
    | apply Dev.put_wf
    | apply Dev.setRole_wf
    | apply forN_wf
    | apply foldl_wf
    | intro _

theorem Dev.holdLoop_wf {d : Dev} (h : d.wf) : (Dev.holdLoop d).wf := by
  unfold Dev.holdLoop
  repeat' with_reducible first
    | assumption
    | (apply Dev.wf_ite <;> intro _)
    | apply Dev.put_wf
    | apply Dev.resetLoop_wf

theorem Dev.partnerActive_wf {d : Dev} (a1 : Bool) (a2 : Nat) (a3 : Nat) (h : d.wf) : (Dev.partnerActive d a1 a2 a3).wf := by
  unfold Dev.partnerActive
  repeat' with_reducible first
    | assumption
    | (apply Dev.wf_ite <;> intro _)
    | apply Dev.holdLoop_wf
    | apply Dev.put_wf
    | apply Dev.setRole_wf

theorem Dev.pairingTimeout_wf {d : Dev} (h : d.wf) : (Dev.pairingTimeout d).wf := by
  unfold Dev.pairingTimeout
  repeat' with_reducible first
    | assumption
    | (apply Dev.wf_ite <;> intro _)
    | apply Dev.becomeActive_wf

theorem Dev.heartbeat_wf {d : Dev} (h : d.wf) : (Dev.heartbeat d).wf := by
  unfold Dev.heartbeat
  repeat' with_reducible first
    | assumption
    | (apply Dev.wf_ite <;> intro _)
    | apply Dev.put_wf
    | apply foldl_wf
    | intro _
    | refine Dev.wf_snd (by assumption) ?_
    | split

theorem Dev.heartbeatSeen_wf {d : Dev} (h : d.wf) : (Dev.heartbeatSeen d).wf := by
  unfold Dev.heartbeatSeen
  repeat' with_reducible first
    | assumption
    | (apply Dev.wf_ite <;> intro _)
    | apply Dev.put_wf

theorem Dev.heartbeatMissed_wf {d : Dev} (h : d.wf) : (Dev.heartbeatMissed d).wf := by
  unfold Dev.heartbeatMissed
  repeat' with_reducible first
    | assumption
    | (apply Dev.wf_ite <;> intro _)
    | apply Dev.put_wf
    | apply foldl_wf
    | intro _
    | refine Dev.wf_snd (by assumption) ?_
    | split

theorem Dev.startFull_wf {d : Dev} (h : d.wf) : (Dev.startFull d).wf := by
  unfold Dev.startFull
  repeat' with_reducible first
    | assumption
    | apply Dev.put_wf
    | apply forN_wf
    | apply foldl_wf
    | intro _

theorem Dev.abandonCp_wf {d : Dev} (h : d.wf) : (Dev.abandonCp d).wf := by
  unfold Dev.abandonCp
  repeat' with_reducible first
    | assumption
    | (apply Dev.wf_ite <;> intro _)
    | apply Dev.bump_wf
    | apply Dev.put_wf
    | apply Dev.sendPair_wf
    | apply Dev.startFull_wf
    | apply foldl_wf
    | intro _
    | refine Dev.wf_snd (by assumption) ?_
    | split
    | apply Dev.wf_mk

theorem Dev.startCp_wf {d : Dev} (a1 : Nat) (h : d.wf) : (Dev.startCp d a1).wf := by
  unfold Dev.startCp
  repeat' with_reducible first
    | assumption
    | apply Dev.bump_wf
    | apply Dev.put_wf
    | apply Dev.sendPair_wf
    | apply forN_wf
    | apply foldl_wf
    | intro _
    | refine Dev.wf_snd (by assumption) ?_
    | split
    | apply Dev.wf_mk

theorem Dev.cpBoundary_wf {d : Dev} (h : d.wf) : (Dev.cpBoundary d).wf := by
  unfold Dev.cpBoundary
  repeat' with_reducible first
    | assumption
    | (apply Dev.wf_ite <;> intro _)
    | apply Dev.put_wf
    | apply Dev.startCp_wf
    | apply foldl_wf
    | intro _
    | refine Dev.wf_snd (by assumption) ?_
    | split

theorem Dev.areaFlip_wf {d : Dev} (a1 : Nat) (h : d.wf) : (Dev.areaFlip d a1).wf := by
  unfold Dev.areaFlip
  repeat' with_reducible first
    | assumption
    | (apply Dev.wf_ite <;> intro _)
    | apply Dev.abandonCp_wf
    | apply Dev.put_wf
    | apply Dev.sendPair_wf
    | apply foldl_wf
    | intro _
    | refine Dev.wf_snd (by assumption) ?_
    | split
    | apply Dev.wf_mk

theorem Dev.commitMarker_wf {d : Dev} (h : d.wf) : (Dev.commitMarker d).wf := by
  unfold Dev.commitMarker
  repeat' with_reducible first
    | assumption
    | (apply Dev.wf_ite <;> intro _)
    | apply Dev.put_wf
    | apply Dev.sendPair_wf

theorem Dev.committed_wf {d : Dev} (h : d.wf) : (Dev.committed d).wf := by
  unfold Dev.committed
  repeat' with_reducible first
    | assumption
    | (apply Dev.wf_ite <;> intro _)
    | apply Dev.bump_wf
    | apply Dev.put_wf
    | apply forN_wf
    | apply foldl_wf
    | intro _
    | refine Dev.wf_snd (by assumption) ?_
    | split
    | apply Dev.wf_mk

theorem Dev.cpAck_wf {d : Dev} (a1 : Bool) (h : d.wf) : (Dev.cpAck d a1).wf := by
  unfold Dev.cpAck
  repeat' with_reducible first
    | assumption
    | (apply Dev.wf_ite <;> intro _)
    | apply Dev.committed_wf
    | apply Dev.put_wf
    | apply Dev.setRole_wf

theorem Dev.cpAbandon_wf {d : Dev} (a1 : Bool) (h : d.wf) : (Dev.cpAbandon d a1).wf := by
  unfold Dev.cpAbandon
  repeat' with_reducible first
    | assumption
    | (apply Dev.wf_ite <;> intro _)
    | apply Dev.abandonCp_wf

theorem Dev.applyCp_wf {d : Dev} (a1 : Checkpoint) (h : d.wf) : (Dev.applyCp d a1).wf := by
  unfold Dev.applyCp
  have h0 : Dev.wf { d with regs := d.regs.filter (fun e => !carriedField e.1.1), plans := a1.plans, paths := a1.paths } :=
    ⟨regsWf_filter _ h.1, h.2⟩
  have h1 := Dev.dropMem_wf inOutImage h0
  repeat' with_reducible first
    | assumption
    | (apply Dev.wf_ite <;> intro _)
    | apply Dev.followInputs_wf
    | apply Dev.put_wf
    | apply Dev.flag_wf
    | apply Dev.wr_wf
    | apply Dev.setByte_wf
    | apply forN_wf
    | apply foldl_wf
    | intro _

theorem Dev.cpApply_wf {d : Dev} (a1 : Checkpoint) (h : d.wf) : (Dev.cpApply d a1).wf := by
  unfold Dev.cpApply
  repeat' with_reducible first
    | assumption
    | (apply Dev.wf_ite <;> intro _)
    | apply Dev.applyCp_wf
    | apply Dev.put_wf
    | apply Dev.sendPair_wf
    | apply Dev.setRole_wf

theorem Dev.timeMessage_wf {d : Dev} (h : d.wf) : (Dev.timeMessage d).wf := by
  unfold Dev.timeMessage
  repeat' with_reducible first
    | assumption
    | (apply Dev.wf_ite <;> intro _)
    | apply Dev.fresh_wf
    | apply Dev.sput_wf

theorem Dev.resign_wf {d : Dev} (h : d.wf) : (Dev.resign d).wf := by
  unfold Dev.resign
  repeat' with_reducible first
    | assumption
    | (apply Dev.wf_ite <;> intro _)
    | apply Dev.resignIfActive_wf
    | apply Dev.takeFailed_wf

theorem Dev.resignSeen_wf {d : Dev} (h : d.wf) : (Dev.resignSeen d).wf := by
  unfold Dev.resignSeen
  repeat' with_reducible first
    | assumption
    | (apply Dev.wf_ite <;> intro _)
    | apply Dev.put_wf

theorem Dev.takeover_wf {d : Dev} (h : d.wf) : (Dev.takeover d).wf := by
  unfold Dev.takeover
  repeat' with_reducible first
    | assumption
    | (apply Dev.wf_ite <;> intro _)
    | apply Dev.attachUnits_wf
    | apply Dev.becomeActive_wf
    | apply Dev.canRestart_wf
    | apply Dev.dropFields_wf
    | apply Dev.dropMem_wf
    | apply Dev.dropShadows_wf
    | apply Dev.fieldLines_wf
    | apply Dev.put_wf
    | apply Dev.resetDone_wf
    | apply forN_wf
    | apply foldl_wf
    | intro _
    | refine Dev.wf_snd (by assumption) ?_
    | split
    | apply Dev.wf_mk

theorem Dev.coverRetired_wf {d : Dev} (a1 : Nat) (h : d.wf) : (Dev.coverRetired d a1).wf := by
  unfold Dev.coverRetired
  repeat' with_reducible first
    | assumption
    | (apply Dev.wf_ite <;> intro _)
    | apply Dev.copyMem_wf
    | apply Dev.disable_wf
    | apply Dev.put_wf
    | apply Dev.substitute_wf
    | apply foldl_wf
    | intro _

theorem Dev.executionStart_wf {d : Dev} (h : d.wf) : (Dev.executionStart d).wf := by
  unfold Dev.executionStart
  repeat' with_reducible first
    | assumption
    | (apply Dev.wf_ite <;> intro _)
    | apply Dev.coverRetired_wf
    | apply Dev.engage_wf
    | apply Dev.put_wf
    | apply Dev.start_wf
    | apply forN_wf
    | apply foldl_wf
    | intro _

theorem Dev.higherEpoch_wf {d : Dev} (a1 : Nat) (h : d.wf) : (Dev.higherEpoch d a1).wf := by
  unfold Dev.higherEpoch
  repeat' with_reducible first
    | assumption
    | (apply Dev.wf_ite <;> intro _)
    | apply Dev.put_wf
    | apply Dev.report_wf
    | apply Dev.takeFailed_wf

theorem Dev.handBack_wf {d : Dev} (h : d.wf) : (Dev.handBack d).wf := by
  unfold Dev.handBack
  repeat' with_reducible first
    | assumption
    | (apply Dev.wf_ite <;> intro _)
    | apply Dev.put_wf
    | apply Dev.sendPair_wf

theorem Dev.pairReadmit_wf {d : Dev} (h : d.wf) : (Dev.pairReadmit d).wf := by
  unfold Dev.pairReadmit
  repeat' with_reducible first
    | assumption
    | (apply Dev.wf_ite <;> intro _)
    | apply Dev.put_wf
    | apply Dev.touch_wf

theorem Dev.pairSelfTest_wf {d : Dev} (a1 : Bool) (h : d.wf) : (Dev.pairSelfTest d a1).wf := by
  unfold Dev.pairSelfTest
  repeat' with_reducible first
    | assumption
    | (apply Dev.wf_ite <;> intro _)
    | apply Dev.put_wf
    | apply Dev.setRole_wf
    | apply Dev.warmReset_wf

theorem Dev.pairLink_wf {d : Dev} (a1 : Bool) (a2 : Nat) (h : d.wf) : (Dev.pairLink d a1 a2).wf := by
  unfold Dev.pairLink
  repeat' with_reducible first
    | assumption
    | (apply Dev.wf_ite <;> intro _)
    | apply Dev.flag_wf
    | apply Dev.put_wf
    | apply Dev.startFull_wf

theorem Dev.cpBegunRead_wf {d : Dev} (h : d.wf) : (Dev.cpBegunRead d).wf := by
  unfold Dev.cpBegunRead
  repeat' with_reducible first
    | assumption
    | apply Dev.capture_wf

/-! Machine/Time.lean. -/

theorem Dev.rateWrite_wf {d : Dev} (a1 : Nat) (a2 : Word) (h : d.wf) : (Dev.rateWrite d a1 a2).wf := by
  unfold Dev.rateWrite
  repeat' with_reducible first
    | assumption
    | (apply Dev.wf_ite <;> intro _)
    | apply Dev.put_wf

theorem Dev.tbRequest_wf {d : Dev} (a1 : Nat) (a2 : Bool) (h : d.wf) : (Dev.tbRequest d a1 a2).wf := by
  unfold Dev.tbRequest
  repeat' with_reducible first
    | assumption
    | (apply Dev.wf_ite <;> intro _)
    | apply Dev.put_wf

theorem Dev.tbActs_wf {d : Dev} (a1 : Nat) (h : d.wf) : (Dev.tbActs d a1).wf := by
  unfold Dev.tbActs
  repeat' with_reducible first
    | assumption
    | (apply Dev.wf_ite <;> intro _)
    | apply Dev.gclRestart_wf
    | apply Dev.put_wf

theorem Dev.timeSnap_wf {d : Dev} (h : d.wf) : (Dev.timeSnap d).wf := by
  unfold Dev.timeSnap
  repeat' with_reducible first
    | assumption
    | (apply Dev.wf_ite <;> intro _)
    | apply Dev.put_wf
    | apply forN_wf
    | apply foldl_wf
    | intro _

theorem Dev.tbRead_wf {d : Dev} (a1 : Nat) (h : d.wf) : (Dev.tbRead d a1).wf := by
  unfold Dev.tbRead
  repeat' with_reducible first
    | assumption
    | apply Dev.capture_wf
    | apply Dev.put_wf

theorem Dev.timeCycle_wf {d : Dev} (h : d.wf) : (Dev.timeCycle d).wf := by
  unfold Dev.timeCycle
  repeat' with_reducible first
    | assumption
    | (apply Dev.wf_ite <;> intro _)
    | apply Dev.bump_wf
    | apply Dev.put_wf
    | apply forN_wf
    | apply foldl_wf
    | intro _

/-! Machine/Capture.lean. -/

theorem Dev.putRec_wf {d : Dev} (a1 : CapRec) (h : d.wf) : (Dev.putRec d a1).wf := by
  unfold Dev.putRec
  repeat' with_reducible first
    | assumption
    | apply Dev.bump_wf
    | apply foldl_wf
    | intro _
    | refine Dev.wf_snd (by assumption) ?_
    | split
    | apply Dev.wf_mk

theorem Dev.putMark_wf {d : Dev} (a1 : Nat) (a2 : Nat) (a3 : Nat) (a4 : Nat) (a5 : Nat) (h : d.wf) : (Dev.putMark d a1 a2 a3 a4 a5).wf := by
  unfold Dev.putMark
  repeat' with_reducible first
    | assumption
    | apply Dev.putRec_wf

theorem Dev.putTime_wf {d : Dev} (a1 : Nat) (a2 : Nat) (h : d.wf) : (Dev.putTime d a1 a2).wf := by
  unfold Dev.putTime
  repeat' with_reducible first
    | assumption
    | (apply Dev.wf_ite <;> intro _)
    | apply Dev.putMark_wf
    | apply Dev.put_wf

theorem Dev.timeIfDue_wf {d : Dev} (a1 : Nat) (a2 : Nat) (h : d.wf) : (Dev.timeIfDue d a1 a2).wf := by
  unfold Dev.timeIfDue
  repeat' with_reducible first
    | assumption
    | (apply Dev.wf_ite <;> intro _)
    | apply Dev.putTime_wf

theorem Dev.dcFire_wf {d : Dev} (a1 : Nat) (a2 : Nat) (a3 : Nat) (a4 : Nat) (h : d.wf) : (Dev.dcFire d a1 a2 a3 a4).wf := by
  unfold Dev.dcFire
  repeat' with_reducible first
    | assumption
    | (apply Dev.wf_ite <;> intro _)
    | apply Dev.putMark_wf
    | apply Dev.putTime_wf
    | apply Dev.put_wf
    | apply Dev.timeIfDue_wf
    | apply foldl_wf
    | intro _
    | refine Dev.wf_snd (by assumption) ?_
    | split
    | apply Dev.wf_mk

theorem Dev.postCount_wf {d : Dev} (a1 : Nat) (h : d.wf) : (Dev.postCount d a1).wf := by
  unfold Dev.postCount
  repeat' with_reducible first
    | assumption
    | (apply Dev.wf_ite <;> intro _)
    | apply Dev.flag_wf
    | apply Dev.put_wf

theorem Dev.copyLost_wf {d : Dev} (a1 : Nat) (h : d.wf) : (Dev.copyLost d a1).wf := by
  unfold Dev.copyLost
  repeat' with_reducible first
    | assumption
    | apply Dev.bump_wf
    | apply Dev.put_wf

theorem Dev.recordCopy_wf {d : Dev} (a1 : TapCopy) (a2 : Nat) (h : d.wf) : (Dev.recordCopy d a1 a2).wf := by
  unfold Dev.recordCopy
  repeat' with_reducible first
    | assumption
    | (apply Dev.wf_ite <;> intro _)
    | apply Dev.bump_wf
    | apply Dev.copyLost_wf
    | apply Dev.postCount_wf
    | apply Dev.putMark_wf
    | apply Dev.putRec_wf
    | apply Dev.put_wf
    | apply Dev.timeIfDue_wf

theorem Dev.judgeCopy_wf {d : Dev} (a1 : TapCopy) (h : d.wf) : (Dev.judgeCopy d a1).wf := by
  unfold Dev.judgeCopy
  repeat' with_reducible first
    | assumption
    | (apply Dev.wf_ite <;> intro _)
    | apply Dev.bump_wf
    | apply Dev.dcFire_wf
    | apply Dev.recordCopy_wf

theorem Dev.tapCopy_wf {d : Dev} (h : d.wf) : (Dev.tapCopy d).wf := by
  unfold Dev.tapCopy
  repeat' with_reducible first
    | assumption
    | (apply Dev.wf_ite <;> intro _)
    | apply Dev.judgeCopy_wf
    | apply foldl_wf
    | intro _
    | refine Dev.wf_snd (by assumption) ?_
    | split
    | apply Dev.wf_mk

theorem Dev.blockReady_wf {d : Dev} (a1 : Nat) (h : d.wf) : (Dev.blockReady d a1).wf := by
  unfold Dev.blockReady
  repeat' with_reducible first
    | assumption
    | (apply Dev.wf_ite <;> intro _)
    | apply foldl_wf
    | intro _
    | refine Dev.wf_snd (by assumption) ?_
    | split
    | apply Dev.wf_mk

theorem Dev.segDone_wf {d : Dev} (a1 : Nat) (h : d.wf) : (Dev.segDone d a1).wf := by
  unfold Dev.segDone
  repeat' with_reducible first
    | assumption
    | (apply Dev.wf_ite <;> intro _)
    | apply Dev.put_wf

theorem Dev.writeRec_wf {d : Dev} (a1 : Nat) (a2 : Nat) (a3 : CapRec) (h : d.wf) : (Dev.writeRec d a1 a2 a3).wf := by
  unfold Dev.writeRec
  repeat' with_reducible first
    | assumption
    | (apply Dev.wf_ite <;> intro _)
    | apply Dev.blockReady_wf
    | apply Dev.bump_wf
    | apply Dev.put_wf
    | apply Dev.wr_wf

theorem Dev.fifoWrite_wf {d : Dev} (a1 : Nat) (h : d.wf) : (Dev.fifoWrite d a1).wf := by
  unfold Dev.fifoWrite
  repeat' with_reducible first
    | assumption
    | (apply Dev.wf_ite <;> intro _)
    | apply Dev.segDone_wf
    | apply Dev.writeRec_wf
    | apply foldl_wf
    | intro _
    | refine Dev.wf_snd (by assumption) ?_
    | split
    | apply Dev.wf_mk

theorem Dev.drainUnit_wf {d : Dev} (a1 : Nat) (h : d.wf) : (Dev.drainUnit d a1).wf := by
  unfold Dev.drainUnit
  repeat' with_reducible first
    | assumption
    | apply Dev.fifoWrite_wf
    | apply timesN_wf
    | apply foldl_wf
    | intro _

theorem Dev.tapsFresh_wf {d : Dev} (a1 : Nat) (h : d.wf) : (Dev.tapsFresh d a1).wf := by
  unfold Dev.tapsFresh
  repeat' with_reducible first
    | assumption
    | apply Dev.put_wf
    | apply forN_wf
    | apply foldl_wf
    | intro _

theorem Dev.fillBlock_wf {d : Dev} (a1 : Nat) (h : d.wf) : (Dev.fillBlock d a1).wf := by
  unfold Dev.fillBlock
  repeat' with_reducible first
    | assumption
    | apply Dev.putMark_wf
    | apply timesN_wf
    | apply foldl_wf
    | intro _

theorem Dev.armNow_wf {d : Dev} (a1 : Nat) (h : d.wf) : (Dev.armNow d a1).wf := by
  unfold Dev.armNow
  repeat' with_reducible first
    | assumption
    | (apply Dev.wf_ite <;> intro _)
    | apply Dev.drainUnit_wf
    | apply Dev.fillBlock_wf
    | apply Dev.putMark_wf
    | apply Dev.putTime_wf
    | apply Dev.put_wf
    | apply Dev.tapsFresh_wf
    | apply foldl_wf
    | intro _
    | refine Dev.wf_snd (by assumption) ?_
    | split
    | apply Dev.wf_mk

theorem Dev.arm_wf {d : Dev} (a1 : Nat) (h : d.wf) : (Dev.arm d a1).wf := by
  unfold Dev.arm
  repeat' with_reducible first
    | assumption
    | (apply Dev.wf_ite <;> intro _)
    | apply Dev.armNow_wf
    | apply Dev.put_wf

theorem Dev.fireWrite_wf {d : Dev} (a1 : Nat) (h : d.wf) : (Dev.fireWrite d a1).wf := by
  unfold Dev.fireWrite
  repeat' with_reducible first
    | assumption
    | (apply Dev.wf_ite <;> intro _)
    | apply Dev.dcFire_wf

theorem Dev.captureStop_wf {d : Dev} (a1 : Nat) (h : d.wf) : (Dev.captureStop d a1).wf := by
  unfold Dev.captureStop
  repeat' with_reducible first
    | assumption
    | (apply Dev.wf_ite <;> intro _)
    | apply Dev.put_wf

theorem Dev.segmentRearm_wf {d : Dev} (a1 : Nat) (h : d.wf) : (Dev.segmentRearm d a1).wf := by
  unfold Dev.segmentRearm
  repeat' with_reducible first
    | assumption
    | (apply Dev.wf_ite <;> intro _)
    | apply Dev.putMark_wf
    | apply Dev.putTime_wf
    | apply Dev.put_wf
    | apply Dev.tapsFresh_wf

theorem Dev.armNet_wf {d : Dev} (a1 : Bool) (h : d.wf) : (Dev.armNet d a1).wf := by
  unfold Dev.armNet
  repeat' with_reducible first
    | assumption
    | (apply Dev.wf_ite <;> intro _)
    | apply Dev.arm_wf
    | apply Dev.captureStop_wf
    | apply Dev.flag_wf
    | apply forN_wf
    | apply foldl_wf
    | intro _

theorem Dev.fireNet_wf {d : Dev} (a1 : Bool) (h : d.wf) : (Dev.fireNet d a1).wf := by
  unfold Dev.fireNet
  repeat' with_reducible first
    | assumption
    | (apply Dev.wf_ite <;> intro _)
    | apply Dev.dcFire_wf
    | apply Dev.put_wf
    | apply forN_wf
    | apply foldl_wf
    | intro _

theorem Dev.fireRelease_wf {d : Dev} (a1 : Bool) (h : d.wf) : (Dev.fireRelease d a1).wf := by
  unfold Dev.fireRelease
  repeat' with_reducible first
    | assumption
    | (apply Dev.wf_ite <;> intro _)
    | apply Dev.put_wf
    | apply forN_wf
    | apply foldl_wf
    | intro _

theorem Dev.streamFlush_wf {d : Dev} (a1 : Nat) (h : d.wf) : (Dev.streamFlush d a1).wf := by
  unfold Dev.streamFlush
  repeat' with_reducible first
    | assumption
    | (apply Dev.wf_ite <;> intro _)
    | apply Dev.drainUnit_wf
    | apply Dev.fillBlock_wf

theorem Dev.dcsWrite_wf {d : Dev} (a1 : Nat) (a2 : Nat) (a3 : Nat) (h : d.wf) : (Dev.dcsWrite d a1 a2 a3).wf := by
  unfold Dev.dcsWrite
  repeat' with_reducible first
    | assumption
    | (apply Dev.wf_ite <;> intro _)
    | apply Dev.postHost_wf
    | apply Dev.wr_wf

theorem Dev.streamSend_wf {d : Dev} (h : d.wf) : (Dev.streamSend d).wf := by
  unfold Dev.streamSend
  repeat' with_reducible first
    | assumption
    | (apply Dev.wf_ite <;> intro _)
    | apply Dev.bump_wf
    | apply Dev.dcsWrite_wf
    | apply Dev.put_wf
    | apply foldl_wf
    | intro _
    | refine Dev.wf_snd (by assumption) ?_
    | split
    | apply Dev.wf_mk

theorem Dev.dcsHostWrite_wf {d : Dev} (a1 : Nat) (h : d.wf) : (Dev.dcsHostWrite d a1).wf := by
  unfold Dev.dcsHostWrite
  repeat' with_reducible first
    | assumption
    | (apply Dev.wf_ite <;> intro _)
    | apply Dev.put_wf

theorem Dev.seenRead_wf {d : Dev} (a1 : Nat) (h : d.wf) : (Dev.seenRead d a1).wf := by
  unfold Dev.seenRead
  repeat' with_reducible first
    | assumption
    | apply Dev.capture_wf

/-! Machine/Sediment.lean. -/

theorem Dev.wrBytes_wf {d : Dev} (a1 : Nat) (a2 : List Nat) (h : d.wf) : (Dev.wrBytes d a1 a2).wf := by
  unfold Dev.wrBytes
  repeat' with_reducible first
    | assumption
    | apply Dev.wr_wf

theorem Dev.sedWrite_wf {d : Dev} (a1 : Nat) (a2 : Nat) (a3 : Event) (a4 : Nat) (h : d.wf) : (Dev.sedWrite d a1 a2 a3 a4).wf := by
  unfold Dev.sedWrite
  repeat' with_reducible first
    | assumption
    | apply Dev.wrBytes_wf

theorem Dev.sedLevel_wf {d : Dev} (h : d.wf) : (Dev.sedLevel d).wf := by
  unfold Dev.sedLevel
  repeat' with_reducible first
    | assumption
    | apply Dev.flag_wf
    | apply Dev.put_wf

theorem Dev.sedRecord_wf {d : Dev} (a1 : Event) (a2 : Nat) (h : d.wf) : (Dev.sedRecord d a1 a2).wf := by
  unfold Dev.sedRecord
  repeat' with_reducible first
    | assumption
    | (apply Dev.wf_ite <;> intro _)
    | apply Dev.bump_wf
    | apply Dev.dcFire_wf
    | apply Dev.put_wf
    | apply Dev.sedLevel_wf
    | apply Dev.sedWrite_wf
    | apply Dev.tapEvent_wf
    | apply forN_wf
    | apply foldl_wf
    | intro _

theorem Dev.sedOwnOut_wf {d : Dev} (h : d.wf) : (Dev.sedOwnOut d).wf := by
  unfold Dev.sedOwnOut
  repeat' with_reducible first
    | assumption
    | (apply Dev.wf_ite <;> intro _)
    | apply Dev.sedRecord_wf
    | apply foldl_wf
    | intro _
    | refine Dev.wf_snd (by assumption) ?_
    | split
    | apply Dev.wf_mk

theorem Dev.sedOwnDue_wf {d : Dev} (a1 : Event) (a2 : Nat) (h : d.wf) : (Dev.sedOwnDue d a1 a2).wf := by
  unfold Dev.sedOwnDue
  repeat' with_reducible first
    | assumption
    | (apply Dev.wf_ite <;> intro _)
    | apply Dev.sedOwnOut_wf
    | apply foldl_wf
    | intro _
    | refine Dev.wf_snd (by assumption) ?_
    | split
    | apply Dev.wf_mk

theorem Dev.sedWindow_wf {d : Dev} (h : d.wf) : (Dev.sedWindow d).wf := by
  unfold Dev.sedWindow
  repeat' with_reducible first
    | assumption
    | (apply Dev.wf_ite <;> intro _)
    | apply Dev.put_wf

theorem Dev.sedNew_wf {d : Dev} (a1 : Event) (h : d.wf) : (Dev.sedNew d a1).wf := by
  unfold Dev.sedNew
  repeat' with_reducible first
    | assumption
    | (apply Dev.wf_ite <;> intro _)
    | apply Dev.bump_wf
    | apply Dev.fresh_wf
    | apply Dev.sedRecord_wf

theorem Dev.sedFlood_wf {d : Dev} (a1 : Event) (h : d.wf) : (Dev.sedFlood d a1).wf := by
  unfold Dev.sedFlood
  repeat' with_reducible first
    | assumption
    | (apply Dev.wf_ite <;> intro _)
    | apply Dev.bump_wf
    | apply Dev.put_wf

theorem Dev.sedHandle_wf {d : Dev} (a1 : Event) (h : d.wf) : (Dev.sedHandle d a1).wf := by
  unfold Dev.sedHandle
  repeat' with_reducible first
    | assumption
    | (apply Dev.wf_ite <;> intro _)
    | apply Dev.bump_wf
    | apply Dev.put_wf
    | apply Dev.sedFlood_wf
    | apply Dev.sedNew_wf
    | apply Dev.sedWindow_wf
    | apply Dev.wr_wf
    | apply foldl_wf
    | intro _
    | refine Dev.wf_snd (by assumption) ?_
    | split

theorem Dev.sedArrive_wf {d : Dev} (a1 : Event) (h : d.wf) : (Dev.sedArrive d a1).wf := by
  unfold Dev.sedArrive
  repeat' with_reducible first
    | assumption
    | (apply Dev.wf_ite <;> intro _)
    | apply Dev.bump_wf
    | apply Dev.put_wf
    | apply Dev.sedHandle_wf
    | apply foldl_wf
    | intro _
    | refine Dev.wf_snd (by assumption) ?_
    | split
    | apply Dev.wf_mk

theorem Dev.logEvent_wf {d : Dev} (h : d.wf) : (Dev.logEvent d).wf := by
  unfold Dev.logEvent
  repeat' with_reducible first
    | assumption
    | (apply Dev.wf_ite <;> intro _)
    | apply Dev.bumpSat_wf
    | apply Dev.put_wf
    | apply Dev.sedArrive_wf
    | apply foldl_wf
    | intro _
    | refine Dev.wf_snd (by assumption) ?_
    | split
    | apply Dev.wf_mk

theorem Dev.floodEnd_wf {d : Dev} (h : d.wf) : (Dev.floodEnd d).wf := by
  unfold Dev.floodEnd
  repeat' with_reducible first
    | assumption
    | (apply Dev.wf_ite <;> intro _)
    | apply Dev.put_wf
    | apply Dev.sedOwnDue_wf
    | apply Dev.sedWindow_wf

theorem Dev.thaw_wf {d : Dev} (h : d.wf) : (Dev.thaw d).wf := by
  unfold Dev.thaw
  repeat' with_reducible first
    | assumption
    | apply Dev.put_wf
    | apply Dev.sedHandle_wf
    | apply Dev.sedOwnOut_wf
    | apply foldl_wf
    | intro _
    | refine Dev.wf_snd (by assumption) ?_
    | split
    | apply Dev.wf_mk

theorem Dev.freezeSet_wf {d : Dev} (h : d.wf) : (Dev.freezeSet d).wf := by
  unfold Dev.freezeSet
  repeat' with_reducible first
    | assumption
    | (apply Dev.wf_ite <;> intro _)
    | apply Dev.put_wf

theorem Dev.freezeClear_wf {d : Dev} (h : d.wf) : (Dev.freezeClear d).wf := by
  unfold Dev.freezeClear
  repeat' with_reducible first
    | assumption
    | (apply Dev.wf_ite <;> intro _)
    | apply Dev.put_wf
    | apply Dev.thaw_wf

theorem Dev.freezeTimeout_wf {d : Dev} (h : d.wf) : (Dev.freezeTimeout d).wf := by
  unfold Dev.freezeTimeout
  repeat' with_reducible first
    | assumption
    | (apply Dev.wf_ite <;> intro _)
    | apply Dev.fresh_wf
    | apply Dev.put_wf
    | apply Dev.thaw_wf
    | apply foldl_wf
    | intro _
    | refine Dev.wf_snd (by assumption) ?_
    | split
    | apply Dev.wf_mk

theorem Dev.logReady_wf {d : Dev} (h : d.wf) : (Dev.logReady d).wf := by
  unfold Dev.logReady
  repeat' with_reducible first
    | assumption
    | (apply Dev.wf_ite <;> intro _)
    | apply Dev.put_wf
    | apply Dev.sedArrive_wf
    | apply Dev.sedLevel_wf
    | apply foldl_wf
    | intro _
    | refine Dev.wf_snd (by assumption) ?_
    | split
    | apply Dev.wf_mk

theorem Dev.sedRead_wf {d : Dev} (h : d.wf) : (Dev.sedRead d).wf := by
  unfold Dev.sedRead
  repeat' with_reducible first
    | assumption
    | apply Dev.capture_wf

/-! Machine/Power.lean. -/

theorem Dev.pfailLog_wf {d : Dev} (h : d.wf) : (Dev.pfailLog d).wf := by
  unfold Dev.pfailLog
  repeat' with_reducible first
    | assumption
    | (apply Dev.wf_ite <;> intro _)
    | apply Dev.bump_wf
    | apply Dev.put_wf
    | apply Dev.report_wf
    | apply Dev.sedHandle_wf

theorem Dev.pfail_wf {d : Dev} (h : d.wf) : (Dev.pfail d).wf := by
  unfold Dev.pfail
  repeat' with_reducible first
    | assumption
    | (apply Dev.wf_ite <;> intro _)
    | apply Dev.pfailLog_wf
    | apply Dev.put_wf
    | apply Dev.startCp_wf

theorem Dev.pfailQuiesce_wf {d : Dev} (h : d.wf) : (Dev.pfailQuiesce d).wf := by
  unfold Dev.pfailQuiesce
  repeat' with_reducible first
    | assumption
    | (apply Dev.wf_ite <;> intro _)
    | apply Dev.abandonCp_wf
    | apply Dev.put_wf
    | apply Dev.resignIfActive_wf
    | apply Dev.takeFailed_wf

theorem Dev.quiesce_wf {d : Dev} (h : d.wf) : (Dev.quiesce d).wf := by
  unfold Dev.quiesce
  repeat' with_reducible first
    | assumption
    | (apply Dev.wf_ite <;> intro _)
    | apply Dev.put_wf

theorem Dev.resumeSlot_wf {d : Dev} (a1 : Nat) (h : d.wf) : (Dev.resumeSlot d a1).wf := by
  unfold Dev.resumeSlot
  repeat' with_reducible first
    | assumption
    | (apply Dev.wf_ite <;> intro _)
    | apply Dev.put_wf
    | apply Dev.setFate_wf
    | apply Dev.withdraw_wf
    | apply foldl_wf
    | intro _

theorem Dev.runCmd_wf {d : Dev} (a1 : Bool) (h : d.wf) : (Dev.runCmd d a1).wf := by
  unfold Dev.runCmd
  repeat' with_reducible first
    | assumption
    | (apply Dev.wf_ite <;> intro _)
    | apply Dev.put_wf
    | apply Dev.resumeSlot_wf
    | apply Dev.touch_wf
    | apply forN_wf
    | apply foldl_wf
    | intro _

theorem Dev.deep_wf {d : Dev} (h : d.wf) : (Dev.deep d).wf := by
  unfold Dev.deep
  repeat' with_reducible first
    | assumption
    | (apply Dev.wf_ite <;> intro _)
    | apply Dev.put_wf
    | apply Dev.wipe_wf

theorem Dev.clockFault_wf {d : Dev} (a1 : Bool) (h : d.wf) : (Dev.clockFault d a1).wf := by
  unfold Dev.clockFault
  repeat' with_reducible first
    | assumption
    | (apply Dev.wf_ite <;> intro _)
    | apply Dev.deviceFault_wf
    | apply Dev.put_wf

theorem Dev.heldFrequencyExpiry_wf {d : Dev} (h : d.wf) : (Dev.heldFrequencyExpiry d).wf := by
  unfold Dev.heldFrequencyExpiry
  repeat' with_reducible first
    | assumption
    | (apply Dev.wf_ite <;> intro _)
    | apply Dev.put_wf

theorem Dev.sscPeriod_wf {d : Dev} (h : d.wf) : (Dev.sscPeriod d).wf := by
  unfold Dev.sscPeriod
  repeat' with_reducible first
    | assumption
    | (apply Dev.wf_ite <;> intro _)
    | apply Dev.flag_wf

theorem Dev.companionLow_wf {d : Dev} (h : d.wf) : (Dev.companionLow d).wf := by
  unfold Dev.companionLow
  repeat' with_reducible first
    | assumption
    | apply Dev.blockFault_wf
    | apply foldl_wf
    | intro _

theorem Dev.temperature_wf {d : Dev} (a1 : Nat) (h : d.wf) : (Dev.temperature d a1).wf := by
  unfold Dev.temperature
  repeat' with_reducible first
    | assumption
    | (apply Dev.wf_ite <;> intro _)
    | apply Dev.put_wf

theorem Dev.overtemperature_wf {d : Dev} (h : d.wf) : (Dev.overtemperature d).wf := by
  unfold Dev.overtemperature
  repeat' with_reducible first
    | assumption
    | (apply Dev.wf_ite <;> intro _)
    | apply Dev.deviceFault_wf
    | apply Dev.temperature_wf

/-! Machine/Service.lean. -/

theorem Dev.challenge_wf {d : Dev} (h : d.wf) : (Dev.challenge d).wf := by
  unfold Dev.challenge
  repeat' with_reducible first
    | assumption
    | (apply Dev.wf_ite <;> intro _)
    | apply Dev.fresh_wf
    | apply Dev.put_wf
    | apply Dev.touch_wf

theorem Dev.response_wf {d : Dev} (a1 : Nat) (h : d.wf) : (Dev.response d a1).wf := by
  unfold Dev.response
  repeat' with_reducible first
    | assumption
    | (apply Dev.wf_ite <;> intro _)
    | apply Dev.put_wf
    | apply Dev.touch_wf

theorem Dev.endSession_wf {d : Dev} (h : d.wf) : (Dev.endSession d).wf := by
  unfold Dev.endSession
  repeat' with_reducible first
    | assumption
    | apply Dev.put_wf
    | apply forN_wf
    | apply foldl_wf
    | intro _

theorem Dev.svcEnd_wf {d : Dev} (h : d.wf) : (Dev.svcEnd d).wf := by
  unfold Dev.svcEnd
  repeat' with_reducible first
    | assumption
    | (apply Dev.wf_ite <;> intro _)
    | apply Dev.endSession_wf

theorem Dev.sessionTimeout_wf {d : Dev} (h : d.wf) : (Dev.sessionTimeout d).wf := by
  unfold Dev.sessionTimeout
  repeat' with_reducible first
    | assumption
    | (apply Dev.wf_ite <;> intro _)
    | apply Dev.endSession_wf

theorem Dev.portLockExpiry_wf {d : Dev} (h : d.wf) : (Dev.portLockExpiry d).wf := by
  unfold Dev.portLockExpiry
  repeat' with_reducible first
    | assumption
    | (apply Dev.wf_ite <;> intro _)
    | apply Dev.put_wf

theorem Dev.clrlog_wf {d : Dev} (h : d.wf) : (Dev.clrlog d).wf := by
  unfold Dev.clrlog
  repeat' with_reducible first
    | assumption
    | (apply Dev.wf_ite <;> intro _)
    | apply Dev.bump_wf
    | apply Dev.dropMem_wf
    | apply Dev.fresh_wf
    | apply Dev.put_wf
    | apply Dev.sedLevel_wf
    | apply Dev.sedRecord_wf
    | apply Dev.touch_wf

theorem Dev.rollfwd_wf {d : Dev} (a1 : Nat) (a2 : Bool) (h : d.wf) : (Dev.rollfwd d a1 a2).wf := by
  unfold Dev.rollfwd
  repeat' with_reducible first
    | assumption
    | (apply Dev.wf_ite <;> intro _)
    | apply Dev.fresh_wf
    | apply Dev.put_wf
    | apply Dev.touch_wf

theorem Dev.force_wf {d : Dev} (a1 : Nat) (a2 : Bool) (a3 : Nat) (a4 : Nat) (h : d.wf) : (Dev.force d a1 a2 a3 a4).wf := by
  unfold Dev.force
  repeat' with_reducible first
    | assumption
    | (apply Dev.wf_ite <;> intro _)
    | apply Dev.flag_wf
    | apply Dev.put_wf
    | apply Dev.touch_wf

theorem Dev.testMux_wf {d : Dev} (a1 : Nat) (a2 : Bool) (a3 : Nat) (a4 : Nat) (h : d.wf) : (Dev.testMux d a1 a2 a3 a4).wf := by
  unfold Dev.testMux
  repeat' with_reducible first
    | assumption
    | (apply Dev.wf_ite <;> intro _)
    | apply Dev.put_wf
    | apply Dev.touch_wf

end Sys2Proof.Machine
end

