-- ==== Sys2Proof/Laws/CanonicalAccess.lean ====
section
/-!
SUPPORT. The canonical form of the stored data: what register accesses, loads and stores, the instructions' shared operations and the idle step keep. One lemma for each definition that changes the device.
-/

namespace Sys2Proof.Machine

/-! Machine/TaskSys.lean. -/

theorem Dev.waitFor_wf {d : Dev} (a1 : Nat) (a2 : Nat) (a3 : Nat) (a4 : Wait) (h : d.wf) : (Dev.waitFor d a1 a2 a3 a4).wf := by
  unfold Dev.waitFor
  repeat' with_reducible first
    | assumption
    | (apply Dev.wf_ite <;> intro _)
    | apply Dev.block_wf
    | apply Dev.setWake_wf

theorem Dev.fwait_wf {d : Dev} (a1 : Nat) (a2 : Bool) (a3 : Bool) (a4 : BitVec 5) (a5 : BitVec 5) (a6 : BitVec 5) (h : d.wf) : (Dev.fwait d a1 a2 a3 a4 a5 a6).wf := by
  unfold Dev.fwait
  repeat' with_reducible first
    | assumption
    | (apply Dev.wf_ite <;> intro _)
    | apply Dev.flagDone_wf
    | apply Dev.issueT_wf
    | apply Dev.put_wf
    | apply Dev.waitFor_wf
    | apply foldl_wf
    | intro _

theorem Dev.flagWake_wf {d : Dev} (a1 : Nat) (h : d.wf) : (Dev.flagWake d a1).wf := by
  unfold Dev.flagWake
  repeat' with_reducible first
    | assumption
    | (apply Dev.wf_ite <;> intro _)
    | apply Dev.flagDone_wf
    | apply Dev.ready_wf
    | apply foldl_wf
    | intro _
    | refine Dev.wf_snd (by assumption) ?_
    | split

theorem Dev.serveQueue_wf {d : Dev} (a1 : Nat) (h : d.wf) : (Dev.serveQueue d a1).wf := by
  unfold Dev.serveQueue
  repeat' with_reducible first
    | assumption
    | apply Dev.doPop_wf
    | apply Dev.doPush_wf
    | apply Dev.ready_wf
    | apply foldl_wf
    | intro _
    | refine Dev.wf_snd (by assumption) ?_
    | split
    | apply Dev.wf_mk

theorem Dev.expire_wf {d : Dev} (a1 : Nat) (h : d.wf) : (Dev.expire d a1).wf := by
  unfold Dev.expire
  repeat' with_reducible first
    | assumption
    | (apply Dev.wf_ite <;> intro _)
    | apply Dev.flagDone_wf
    | apply Dev.flagWake_wf
    | apply Dev.ready_wf
    | apply Dev.srBit_wf
    | apply foldl_wf
    | intro _
    | refine Dev.wf_snd (by assumption) ?_
    | split

theorem Dev.delayRelease_wf {d : Dev} (a1 : Nat) (h : d.wf) : (Dev.delayRelease d a1).wf := by
  unfold Dev.delayRelease
  repeat' with_reducible first
    | assumption
    | (apply Dev.wf_ite <;> intro _)
    | apply Dev.expire_wf
    | apply Dev.serveQueue_wf
    | apply foldl_wf
    | intro _
    | refine Dev.wf_snd (by assumption) ?_
    | split

theorem Dev.exitTask_wf {d : Dev} (a1 : Nat) (h : d.wf) : (Dev.exitTask d a1).wf := by
  unfold Dev.exitTask
  repeat' with_reducible first
    | assumption
    | (apply Dev.wf_ite <;> intro _)
    | apply Dev.dormant_wf
    | apply Dev.publish_wf
    | apply Dev.put_wf

theorem Dev.issueQ_wf {d : Dev} (a1 : Nat) (a2 : BitVec 5) (a3 : Nat → Nat → Dev → Dev) (h3 : ∀ x0 x1 x2, x2.wf → (a3 x0 x1 x2).wf) (h : d.wf) : (Dev.issueQ d a1 a2 a3).wf := by
  unfold Dev.issueQ
  repeat' with_reducible first
    | assumption
    | (apply Dev.wf_ite <;> intro _)
    | apply Dev.faultBack_wf
    | apply Dev.issueT_wf
    | apply h3
    | apply foldl_wf
    | intro _

theorem Dev.queueWait_wf {d : Dev} (a1 : Nat) (a2 : Nat) (a3 : Wait) (h : d.wf) : (Dev.queueWait d a1 a2 a3).wf := by
  unfold Dev.queueWait
  repeat' with_reducible first
    | assumption
    | (apply Dev.wf_ite <;> intro _)
    | apply Dev.srBit_wf
    | apply Dev.waitFor_wf

theorem Dev.queueInRead_wf {d : Dev} (a1 : Nat) (h : d.wf) : (Dev.queueInRead d a1).wf := by
  unfold Dev.queueInRead
  repeat' with_reducible first
    | assumption
    | apply Dev.capture_wf

theorem Dev.tok_wf {d : Dev} (a1 : Nat) (a2 : BitVec 5) (a3 : BitVec 5) (a4 : Dev → Nat → Nat) (h : d.wf) : (Dev.tok d a1 a2 a3 a4).wf := by
  unfold Dev.tok
  repeat' with_reducible first
    | assumption
    | (apply Dev.wf_ite <;> intro _)
    | apply Dev.block_wf
    | apply Dev.faultBack_wf
    | apply Dev.issueT_wf
    | apply Dev.portLaunch_wf
    | apply foldl_wf
    | intro _

theorem Dev.tokenAtResult_wf {d : Dev} (a1 : Nat) (h : d.wf) : (Dev.tokenAtResult d a1).wf := by
  unfold Dev.tokenAtResult
  repeat' with_reducible first
    | assumption
    | (apply Dev.wf_ite <;> intro _)
    | apply Dev.bump_wf
    | apply Dev.put_wf
    | apply Dev.setFlags_wf
    | apply foldl_wf
    | intro _
    | refine Dev.wf_snd (by assumption) ?_
    | split
    | apply Dev.wf_mk

theorem Dev.timStart_wf {d : Dev} (a1 : Nat) (a2 : Bool) (a3 : Bool) (h : d.wf) : (Dev.timStart d a1 a2 a3).wf := by
  unfold Dev.timStart
  repeat' with_reducible first
    | assumption
    | apply Dev.flag_wf
    | apply Dev.put_wf

theorem Dev.timEval_wf {d : Dev} (a1 : Nat) (a2 : Bool) (h : d.wf) : (Dev.timEval d a1 a2).wf := by
  unfold Dev.timEval
  repeat' with_reducible first
    | assumption
    | (apply Dev.wf_ite <;> intro _)
    | apply Dev.flag_wf
    | apply Dev.put_wf
    | apply Dev.timStart_wf
    | apply foldl_wf
    | intro _
    | refine Dev.wf_snd (by assumption) ?_
    | split

theorem Dev.reqStart_wf {d : Dev} (a1 : Nat) (h : d.wf) : (Dev.reqStart d a1).wf := by
  unfold Dev.reqStart
  repeat' with_reducible first
    | assumption
    | (apply Dev.wf_ite <;> intro _)
    | apply Dev.start_wf

theorem Dev.reqKill_wf {d : Dev} (a1 : Nat) (h : d.wf) : (Dev.reqKill d a1).wf := by
  unfold Dev.reqKill
  repeat' with_reducible first
    | assumption
    | (apply Dev.wf_ite <;> intro _)
    | apply Dev.kill_wf
    | apply Dev.put_wf

/-! Machine/AddrMap.lean. -/

theorem Dev.accErr_wf {d : Dev} (a1 : Nat) (a2 : Nat) (h : d.wf) : (Dev.accErr d a1 a2).wf := by
  unfold Dev.accErr
  repeat' with_reducible first
    | assumption
    | (apply Dev.wf_ite <;> intro _)
    | apply Dev.bumpSat_wf
    | apply Dev.put_wf
    | apply Dev.report_wf

theorem Dev.memWrite_wf {d : Dev} (a1 : Nat) (a2 : Nat) (a3 : Nat) (h : d.wf) : (Dev.memWrite d a1 a2 a3).wf := by
  unfold Dev.memWrite
  repeat' with_reducible first
    | assumption
    | (apply Dev.wf_ite <;> intro _)
    | apply Dev.mirrorWrite_wf
    | apply Dev.setByte_wf
    | apply Dev.wr_wf
    | apply forN_wf
    | apply foldl_wf
    | intro _
    | refine Dev.wf_snd (by assumption) ?_
    | split

/-! Machine/Xspi.lean. -/

theorem Dev.xspiRefuse_wf {d : Dev} (a1 : Nat) (h : d.wf) : (Dev.xspiRefuse d a1).wf := by
  unfold Dev.xspiRefuse
  repeat' with_reducible first
    | assumption
    | apply Dev.put_wf

theorem Dev.xspiBusErr_wf {d : Dev} (a1 : Nat) (h : d.wf) : (Dev.xspiBusErr d a1).wf := by
  unfold Dev.xspiBusErr
  repeat' with_reducible first
    | assumption
    | apply Dev.accErr_wf
    | apply Dev.fresh_wf
    | apply Dev.put_wf

theorem Dev.flashRead_wf {d : Dev} (a1 : Nat) (h : d.wf) : (Dev.flashRead d a1).2.wf := by
  unfold Dev.flashRead
  repeat' with_reducible first
    | assumption
    | (apply Dev.wf_ite_snd <;> intro _)
    | apply Dev.fresh_wf

theorem Dev.setFlash_wf {d : Dev} (a1 : Nat) (a2 : Nat) (h : d.wf) : (Dev.setFlash d a1 a2).wf :=
  ⟨h.1, h.2.1, flashWf_set _ _ h.2.2.1, h.2.2.2⟩

theorem Dev.programByte_wf {d : Dev} (a1 : Nat) (a2 : Nat) (h : d.wf) : (Dev.programByte d a1 a2).wf := by
  unfold Dev.programByte
  repeat' with_reducible first
    | assumption
    | (apply Dev.wf_ite <;> intro _)
    | apply Dev.fresh_wf
    | apply Dev.setFlash_wf

theorem Dev.xspiRead_wf {d : Dev} (a1 : Nat) (h : d.wf) : (Dev.xspiRead d a1).wf := by
  unfold Dev.xspiRead
  repeat' with_reducible first
    | assumption
    | (apply Dev.wf_ite <;> intro _)
    | apply Dev.flashRead_wf
    | apply Dev.memWrite_wf
    | apply Dev.put_wf
    | apply Dev.xspiBusErr_wf
    | apply forN_wf
    | apply foldl_wf
    | intro _
    | refine Dev.wf_snd (by assumption) ?_
    | split
    | apply Dev.wf_mk

theorem Dev.bufByte_wf {d : Dev} (a1 : Nat) (h : d.wf) : (Dev.bufByte d a1).2.wf := by
  unfold Dev.bufByte
  repeat' with_reducible first
    | assumption
    | (apply Dev.wf_ite_snd <;> intro _)
    | apply Dev.fresh_wf

theorem Dev.xspiProgram_wf {d : Dev} (a1 : Nat) (h : d.wf) : (Dev.xspiProgram d a1).wf := by
  unfold Dev.xspiProgram
  repeat' with_reducible first
    | assumption
    | (apply Dev.wf_ite <;> intro _)
    | apply Dev.bufByte_wf
    | apply Dev.programByte_wf
    | apply Dev.put_wf
    | apply Dev.xspiBusErr_wf
    | apply Dev.xspiRefuse_wf
    | apply forN_wf
    | apply foldl_wf
    | intro _
    | refine Dev.wf_snd (by assumption) ?_
    | split

theorem Dev.xspiErase_wf {d : Dev} (a1 : Nat) (h : d.wf) : (Dev.xspiErase d a1).wf := by
  unfold Dev.xspiErase
  dsimp only
  split
  · exact Dev.xspiRefuse_wf _ h
  · exact Dev.put_wf _ _ _ ⟨h.1, h.2.1, flashWf_filter _ h.2.2.1, h.2.2.2⟩

theorem Dev.xspiGo_wf {d : Dev} (a1 : Nat) (a2 : Nat) (h : d.wf) : (Dev.xspiGo d a1 a2).wf := by
  unfold Dev.xspiGo
  repeat' with_reducible first
    | assumption
    | (apply Dev.wf_ite <;> intro _)
    | apply Dev.put_wf
    | apply Dev.xspiErase_wf
    | apply Dev.xspiProgram_wf
    | apply Dev.xspiRead_wf
    | apply Dev.xspiRefuse_wf

theorem Dev.xspiDone_wf {d : Dev} (h : d.wf) : (Dev.xspiDone d).wf := by
  unfold Dev.xspiDone
  repeat' with_reducible first
    | assumption
    | (apply Dev.wf_ite <;> intro _)
    | apply Dev.put_wf

/-! Machine/RegAccess.lean. -/

theorem Dev.writeField_wf {d : Dev} (a1 : F) (a2 : Nat) (a3 : Nat) (h : d.wf) : (Dev.writeField d a1 a2 a3).wf := by
  unfold Dev.writeField
  repeat' with_reducible first
    | assumption
    | (apply Dev.wf_ite <;> intro _)
    | apply Dev.put_wf
    | apply Dev.shadowPut_wf
    | apply foldl_wf
    | intro _
    | refine Dev.wf_snd (by assumption) ?_
    | split

theorem Dev.writeFields_wf {d : Dev} (a1 : List F) (a2 : Nat) (a3 : Nat) (h : d.wf) : (Dev.writeFields d a1 a2 a3).wf := by
  unfold Dev.writeFields
  repeat' with_reducible first
    | assumption
    | apply Dev.writeField_wf
    | apply foldl_wf
    | intro _

theorem Dev.writeTaskCtl_wf {d : Dev} (a1 : Nat) (a2 : Nat) (h : d.wf) : (Dev.writeTaskCtl d a1 a2).wf := by
  unfold Dev.writeTaskCtl
  repeat' with_reducible first
    | assumption
    | (apply Dev.wf_ite <;> intro _)
    | apply Dev.reqKill_wf
    | apply Dev.reqStart_wf
    | apply Dev.writeFields_wf

theorem Dev.writeTimCfg_wf {d : Dev} (a1 : Nat) (a2 : Nat) (h : d.wf) : (Dev.writeTimCfg d a1 a2).wf := by
  unfold Dev.writeTimCfg
  repeat' with_reducible first
    | assumption
    | apply Dev.put_wf
    | apply Dev.writeFields_wf

theorem Dev.writeQCfg_wf {d : Dev} (a1 : Nat) (a2 : Nat) (h : d.wf) : (Dev.writeQCfg d a1 a2).wf := by
  unfold Dev.writeQCfg
  repeat' with_reducible first
    | assumption
    | (apply Dev.wf_ite <;> intro _)
    | apply Dev.put_wf
    | apply Dev.writeFields_wf

theorem Dev.writeQBase_wf {d : Dev} (a1 : Nat) (a2 : Nat) (h : d.wf) : (Dev.writeQBase d a1 a2).wf := by
  unfold Dev.writeQBase
  repeat' with_reducible first
    | assumption
    | (apply Dev.wf_ite <;> intro _)
    | apply Dev.put_wf

theorem Dev.writeCycCtl_wf {d : Dev} (a1 : Nat) (a2 : Nat) (h : d.wf) : (Dev.writeCycCtl d a1 a2).wf := by
  unfold Dev.writeCycCtl
  repeat' with_reducible first
    | assumption
    | (apply Dev.wf_ite <;> intro _)
    | apply Dev.forgetLatches_wf
    | apply Dev.writeFields_wf

theorem Dev.writeChgCtl_wf {d : Dev} (a1 : Nat) (h : d.wf) : (Dev.writeChgCtl d a1).wf := by
  unfold Dev.writeChgCtl
  repeat' with_reducible first
    | assumption
    | (apply Dev.wf_ite <;> intro _)
    | apply Dev.chgAbort_wf
    | apply Dev.chgGo_wf
    | apply Dev.put_wf

theorem Dev.writeAxCmd_wf {d : Dev} (a1 : Nat) (a2 : Nat) (h : d.wf) : (Dev.writeAxCmd d a1 a2).wf := by
  unfold Dev.writeAxCmd
  repeat' with_reducible first
    | assumption
    | (apply Dev.wf_ite <;> intro _)
    | apply Dev.axisClr_wf
    | apply Dev.axisCmd_wf

theorem Dev.writeGCmd_wf {d : Dev} (a1 : Nat) (a2 : Nat) (h : d.wf) : (Dev.writeGCmd d a1 a2).wf := by
  unfold Dev.writeGCmd
  repeat' with_reducible first
    | assumption
    | (apply Dev.wf_ite <;> intro _)
    | apply Dev.groupStart_wf
    | apply Dev.groupStop_wf

theorem Dev.writeCalCtl_wf {d : Dev} (a1 : Nat) (h : d.wf) : (Dev.writeCalCtl d a1).wf := by
  unfold Dev.writeCalCtl
  repeat' with_reducible first
    | assumption
    | (apply Dev.wf_ite <;> intro _)
    | apply Dev.calCancel_wf
    | apply Dev.calFields_wf
    | apply Dev.calOuthi_wf
    | apply Dev.calOutlo_wf
    | apply Dev.calSpan_wf
    | apply Dev.calStore_wf
    | apply Dev.calZero_wf
    | apply foldl_wf
    | intro _
    | refine Dev.wf_snd (by assumption) ?_
    | split

theorem Dev.writeSedCtl_wf {d : Dev} (a1 : Nat) (h : d.wf) : (Dev.writeSedCtl d a1).wf := by
  unfold Dev.writeSedCtl
  repeat' with_reducible first
    | assumption
    | (apply Dev.wf_ite <;> intro _)
    | apply Dev.freezeClear_wf
    | apply Dev.freezeSet_wf
    | apply Dev.writeField_wf

theorem Dev.writeDcsCfg_wf {d : Dev} (a1 : Nat) (h : d.wf) : (Dev.writeDcsCfg d a1).wf := by
  unfold Dev.writeDcsCfg
  repeat' with_reducible first
    | assumption
    | (apply Dev.wf_ite <;> intro _)
    | apply Dev.writeFields_wf

theorem Dev.writeTbCtl_wf {d : Dev} (a1 : Nat) (a2 : Nat) (h : d.wf) : (Dev.writeTbCtl d a1 a2).wf := by
  unfold Dev.writeTbCtl
  repeat' with_reducible first
    | assumption
    | (apply Dev.wf_ite <;> intro _)
    | apply Dev.tbRequest_wf
    | apply Dev.writeField_wf

theorem Dev.writeDcCtl_wf {d : Dev} (a1 : Nat) (a2 : Nat) (h : d.wf) : (Dev.writeDcCtl d a1 a2).wf := by
  unfold Dev.writeDcCtl
  repeat' with_reducible first
    | assumption
    | (apply Dev.wf_ite <;> intro _)
    | apply Dev.arm_wf
    | apply Dev.captureStop_wf
    | apply Dev.fireWrite_wf

theorem Dev.writeSpare_wf {d : Dev} (a1 : Nat) (a2 : Nat) (h : d.wf) : (Dev.writeSpare d a1 a2).wf := by
  unfold Dev.writeSpare
  repeat' with_reducible first
    | assumption
    | (apply Dev.wf_ite <;> intro _)
    | apply Dev.put_wf
    | apply Dev.restore_wf
    | apply Dev.spareReadmit_wf

theorem Dev.writePairCtl_wf {d : Dev} (a1 : Bool) (a2 : Nat) (h : d.wf) : (Dev.writePairCtl d a1 a2).wf := by
  unfold Dev.writePairCtl
  repeat' with_reducible first
    | assumption
    | (apply Dev.wf_ite <;> intro _)
    | apply Dev.pairReadmit_wf
    | apply Dev.put_wf
    | apply Dev.resign_wf
    | apply Dev.writeField_wf
    | apply Dev.writeFields_wf

theorem Dev.writeRstCtl_wf {d : Dev} (a1 : Nat) (h : d.wf) : (Dev.writeRstCtl d a1).wf := by
  unfold Dev.writeRstCtl
  repeat' with_reducible first
    | assumption
    | (apply Dev.wf_ite <;> intro _)
    | apply Dev.regionReset_wf
    | apply Dev.warmReset_wf

theorem Dev.writePwrCtl_wf {d : Dev} (a1 : Bool) (a2 : Bool) (a3 : Nat) (h : d.wf) : (Dev.writePwrCtl d a1 a2 a3).wf := by
  unfold Dev.writePwrCtl
  repeat' with_reducible first
    | assumption
    | (apply Dev.wf_ite <;> intro _)
    | apply Dev.deep_wf
    | apply Dev.quiesce_wf
    | apply Dev.runCmd_wf

theorem Dev.actWord_wf {d : Dev} (a1 : Bool) (a2 : Bool) (a3 : F) (a4 : Nat) (a5 : Nat) (h : d.wf) : ∀ x, (Dev.actWord d a1 a2 a3 a4 a5) = some x → x.wf := by
  intro x hx
  unfold Dev.actWord at hx
  split at hx
  all_goals first
    | cases hx
  all_goals  repeat' with_reducible first
    | assumption
    | (apply Dev.wf_ite <;> intro _)
    | apply Dev.aforce_wf
    | apply Dev.canRecov_wf
    | apply Dev.commit_wf
    | apply Dev.dcsHostWrite_wf
    | apply Dev.enAdd_wf
    | apply Dev.fullseenClear_wf
    | apply Dev.gclSwap_wf
    | apply Dev.hostWrite_wf
    | apply Dev.hqCfg_wf
    | apply Dev.loopGo_wf
    | apply Dev.put_wf
    | apply Dev.rateWrite_wf
    | apply Dev.reqBits_wf
    | apply Dev.setFlags_wf
    | apply Dev.timeSnap_wf
    | apply Dev.tripClear_wf
    | apply Dev.txcan_wf
    | apply Dev.txreq_wf
    | apply Dev.urgentReq_wf
    | apply Dev.writeAxCmd_wf
    | apply Dev.writeCalCtl_wf
    | apply Dev.writeChgCtl_wf
    | apply Dev.writeCycCtl_wf
    | apply Dev.writeDcCtl_wf
    | apply Dev.writeDcsCfg_wf
    | apply Dev.writeField_wf
    | apply Dev.writeFields_wf
    | apply Dev.writeGCmd_wf
    | apply Dev.writePairCtl_wf
    | apply Dev.writePwrCtl_wf
    | apply Dev.writeQBase_wf
    | apply Dev.writeQCfg_wf
    | apply Dev.writeRstCtl_wf
    | apply Dev.writeSedCtl_wf
    | apply Dev.writeSpare_wf
    | apply Dev.writeTaskCtl_wf
    | apply Dev.writeTbCtl_wf
    | apply Dev.writeTimCfg_wf
    | apply Dev.xspiGo_wf

theorem Dev.writeReg_wf {d : Dev} (a1 : Bool) (a2 : Bool) (a3 : RegDesc) (a4 : Nat) (a5 : Nat) (h : d.wf) : (Dev.writeReg d a1 a2 a3 a4 a5).wf := by
  unfold Dev.writeReg
  repeat' with_reducible first
    | assumption
    | (apply Dev.wf_ite <;> intro _)
    | apply Dev.writeFields_wf
    | refine Dev.actWord_wf _ _ _ _ _  ?_ _ (by assumption)
    | apply foldl_wf
    | intro _
    | refine Dev.wf_snd (by assumption) ?_
    | split

theorem Dev.readEffect_wf {d : Dev} (a1 : F) (a2 : Nat) (h : d.wf) : (Dev.readEffect d a1 a2).wf := by
  unfold Dev.readEffect
  repeat' with_reducible first
    | assumption
    | (apply Dev.wf_ite <;> intro _)
    | apply Dev.axisPosRead_wf
    | apply Dev.canRxokRead_wf
    | apply Dev.countRead_wf
    | apply Dev.cpBegunRead_wf
    | apply Dev.cyclesRead_wf
    | apply Dev.latchRead_wf
    | apply Dev.poutRead_wf
    | apply Dev.queueInRead_wf
    | apply Dev.resRead_wf
    | apply Dev.sedRead_wf
    | apply Dev.seenRead_wf
    | apply Dev.tbRead_wf
    | apply Dev.tokInRead_wf
    | apply Dev.tsqRead_wf
    | apply Dev.txokRead_wf
    | apply Dev.uresRead_wf
    | apply foldl_wf
    | intro _
    | refine Dev.wf_snd (by assumption) ?_
    | split

theorem Dev.readReg_wf {d : Dev} (a1 : RegDesc) (a2 : Nat) (h : d.wf) : (Dev.readReg d a1 a2).2.wf := by
  unfold Dev.readReg
  repeat' with_reducible first
    | assumption
    | apply Dev.readEffect_wf

/-! Machine/Bus.lean. -/

theorem Dev.noteTransfer_wf {d : Dev} (a1 : Initiator) (h : d.wf) : (Dev.noteTransfer d a1).wf := by
  unfold Dev.noteTransfer
  repeat' with_reducible first
    | assumption
    | (apply Dev.wf_ite <;> intro _)
    | apply Dev.touch_wf

theorem Dev.holeValue_wf {d : Dev} (a1 : Nat) (h : d.wf) : (Dev.holeValue d a1).2.wf := by
  unfold Dev.holeValue
  repeat' with_reducible first
    | assumption
    | apply Dev.fresh_wf

theorem Dev.writeAt_wf {d : Dev} (a1 : Initiator) (a2 : Access) (a3 : Nat) (a4 : Nat) (a5 : Nat) (h : d.wf) : (Dev.writeAt d a1 a2 a3 a4 a5).wf := by
  unfold Dev.writeAt
  repeat' with_reducible first
    | assumption
    | (apply Dev.wf_ite <;> intro _)
    | apply Dev.memWrite_wf
    | apply Dev.writeReg_wf
    | apply foldl_wf
    | intro _
    | refine Dev.wf_snd (by assumption) ?_
    | split

theorem Dev.readAt_wf {d : Dev} (a1 : Access) (a2 : Nat) (a3 : Nat) (h : d.wf) : (Dev.readAt d a1 a2 a3).2.wf := by
  unfold Dev.readAt
  repeat' with_reducible first
    | assumption
    | apply Dev.holeValue_wf
    | apply Dev.readReg_wf
    | apply foldl_wf
    | intro _
    | refine Dev.wf_snd (by assumption) ?_
    | split

theorem Dev.busWrite_wf {d : Dev} (a1 : Initiator) (a2 : Nat) (a3 : Nat) (a4 : Nat) (h : d.wf) : (Dev.busWrite d a1 a2 a3 a4).wf := by
  unfold Dev.busWrite
  repeat' with_reducible first
    | assumption
    | (apply Dev.wf_ite <;> intro _)
    | apply Dev.accErr_wf
    | apply Dev.noteTransfer_wf
    | apply Dev.writeAt_wf
    | apply foldl_wf
    | intro _
    | refine Dev.wf_snd (by assumption) ?_
    | split

theorem Dev.taskAccess_wf {d : Dev} (a1 : Nat) (a2 : Nat) (a3 : Bool) (a4 : Nat) (a5 : Nat) (a6 : Access → Dev → Dev) (h6 : ∀ x0 x1, x1.wf → (a6 x0 x1).wf) (h : d.wf) : (Dev.taskAccess d a1 a2 a3 a4 a5 a6).wf := by
  unfold Dev.taskAccess
  repeat' with_reducible first
    | assumption
    | (apply Dev.wf_ite <;> intro _)
    | apply Dev.accErr_wf
    | apply Dev.faultBack_wf
    | apply h6
    | apply foldl_wf
    | intro _
    | refine Dev.wf_snd (by assumption) ?_
    | split

theorem Dev.load_wf {d : Dev} (a1 : Nat) (a2 : BitVec 5) (a3 : BitVec 5) (a4 : BitVec 16) (a5 : Nat) (a6 : Nat → DWord) (h : d.wf) : (Dev.load d a1 a2 a3 a4 a5 a6).wf := by
  unfold Dev.load
  repeat' with_reducible first
    | assumption
    | apply Dev.bump_wf
    | apply Dev.fresh_wf
    | apply Dev.issueT_wf
    | apply Dev.readAt_wf
    | apply Dev.setX_wf
    | apply Dev.taskAccess_wf
    | apply foldl_wf
    | intro _
    | refine Dev.wf_snd (by assumption) ?_
    | split

theorem Dev.store_wf {d : Dev} (a1 : Nat) (a2 : BitVec 5) (a3 : BitVec 5) (a4 : BitVec 16) (a5 : Nat) (h : d.wf) : (Dev.store d a1 a2 a3 a4 a5).wf := by
  unfold Dev.store
  repeat' with_reducible first
    | assumption
    | (apply Dev.wf_ite <;> intro _)
    | apply Dev.issueT_wf
    | apply Dev.memWrite_wf
    | apply Dev.taskAccess_wf
    | apply Dev.writeReg_wf
    | apply foldl_wf
    | intro _
    | refine Dev.wf_snd (by assumption) ?_
    | split

theorem Dev.noCompletion_wf {d : Dev} (h : d.wf) : (Dev.noCompletion d).wf := by
  unfold Dev.noCompletion
  repeat' with_reducible first
    | assumption
    | apply Dev.put_wf

theorem Dev.complete_wf {d : Dev} (a1 : Nat) (a2 : Nat) (h : d.wf) : (Dev.complete d a1 a2).wf := by
  unfold Dev.complete
  repeat' with_reducible first
    | assumption
    | apply Dev.put_wf

theorem Dev.abortAccess_wf {d : Dev} (a1 : Nat) (h : d.wf) : (Dev.abortAccess d a1).wf := by
  unfold Dev.abortAccess
  repeat' with_reducible first
    | assumption
    | apply Dev.accErr_wf
    | apply Dev.put_wf

theorem Dev.hostAccess_wf {d : Dev} (a1 : Bool) (a2 : Nat) (a3 : Nat) (a4 : Nat) (h : d.wf) : (Dev.hostAccess d a1 a2 a3 a4).wf := by
  unfold Dev.hostAccess
  repeat' with_reducible first
    | assumption
    | (apply Dev.wf_ite <;> intro _)
    | apply Dev.abortAccess_wf
    | apply Dev.complete_wf
    | apply Dev.readAt_wf
    | apply Dev.writeAt_wf
    | apply foldl_wf
    | intro _
    | refine Dev.wf_snd (by assumption) ?_
    | split

theorem Dev.bar2_wf {d : Dev} (a1 : Bool) (a2 : Nat) (a3 : List Nat) (a4 : Nat) (h : d.wf) : (Dev.bar2 d a1 a2 a3 a4).wf := by
  induction a4 generalizing d a2 a3 with
  | zero => exact h
  | succ n ih =>
    unfold Dev.bar2
    split
    · exact h
    · exact ih _ _ (Dev.hostAccess_wf _ _ _ _ h)

theorem Dev.barAccess_wf {d : Dev} (a1 : Bool) (a2 : Bool) (a3 : Nat) (a4 : Nat) (a5 : List Nat) (h : d.wf) : (Dev.barAccess d a1 a2 a3 a4 a5).wf := by
  unfold Dev.barAccess
  repeat' with_reducible first
    | assumption
    | (apply Dev.wf_ite <;> intro _)
    | apply Dev.abortAccess_wf
    | apply Dev.bar2_wf
    | apply Dev.hostAccess_wf
    | apply Dev.noCompletion_wf

/-! Machine/CellAlu.lean. -/

theorem Dev.cellAlu_wf {d : Dev} (a1 : Nat) (a2 : Issue) (a3 : BitVec 4) (a4 : BitVec 4) (a5 : BitVec 4) (a6 : Word → Word → AluOut 32) (h : d.wf) : (Dev.cellAlu d a1 a2 a3 a4 a5 a6).wf := by
  unfold Dev.cellAlu
  repeat' with_reducible first
    | assumption
    | apply Dev.issueR_wf

theorem Dev.cellAlu1_wf {d : Dev} (a1 : Nat) (a2 : Issue) (a3 : BitVec 4) (a4 : BitVec 4) (a5 : Word → AluOut 32) (h : d.wf) : (Dev.cellAlu1 d a1 a2 a3 a4 a5).wf := by
  unfold Dev.cellAlu1
  repeat' with_reducible first
    | assumption
    | apply Dev.issueR_wf

/-! Machine/CellCtl.lean. -/

theorem Dev.rep_wf {d : Dev} (a1 : Nat) (a2 : Bank → Nat) (a3 : Word) (h : d.wf) : (Dev.rep d a1 a2 a3).wf := by
  unfold Dev.rep
  repeat' with_reducible first
    | assumption
    | (apply Dev.wf_ite <;> intro _)
    | apply Dev.abort_wf
    | apply Dev.issueR_wf
    | apply foldl_wf
    | intro _
    | refine Dev.wf_snd (by assumption) ?_
    | split
    | apply Dev.wf_mk

/-! Machine/CellFp.lean. -/

theorem Dev.cellFp2_wf {d : Dev} (a1 : Nat) (a2 : BitVec 4) (a3 : BitVec 4) (a4 : BitVec 4) (a5 : Nat → Nat → Nat × FFlags) (h : d.wf) : (Dev.cellFp2 d a1 a2 a3 a4 a5).wf := by
  unfold Dev.cellFp2
  repeat' with_reducible first
    | assumption
    | apply Dev.issueR_wf

theorem Dev.cellFp1_wf {d : Dev} (a1 : Nat) (a2 : CyKind) (a3 : BitVec 4) (a4 : BitVec 4) (a5 : Nat → Nat × FFlags) (h : d.wf) : (Dev.cellFp1 d a1 a2 a3 a4 a5).wf := by
  unfold Dev.cellFp1
  repeat' with_reducible first
    | assumption
    | apply Dev.issueR_wf

/-! Machine/CellTok.lean. -/

theorem Dev.emitLaunch_wf {d : Dev} (a1 : Nat) (a2 : Nat) (a3 : Nat) (a4 : Token) (h : d.wf) : (Dev.emitLaunch d a1 a2 a3 a4).wf := by
  unfold Dev.emitLaunch
  repeat' with_reducible first
    | assumption
    | apply Dev.launch_wf

theorem Dev.endFiring_wf {d : Dev} (a1 : Nat) (h : d.wf) : (Dev.endFiring d a1).wf := by
  unfold Dev.endFiring
  repeat' with_reducible first
    | assumption
    | (apply Dev.wf_ite <;> intro _)
    | apply Dev.fresh_wf
    | apply Dev.put_wf
    | apply Dev.release_wf
    | apply Dev.setFate_wf

/-! Machine/TaskAlu.lean. -/

theorem Dev.taskAlu_wf {d : Dev} (a1 : Nat) (a2 : Nat) (a3 : BitVec 5) (a4 : BitVec 5) (a5 : BitVec 5) (a6 : DWord → DWord → AluOut 64) (h : d.wf) : (Dev.taskAlu d a1 a2 a3 a4 a5 a6).wf := by
  unfold Dev.taskAlu
  repeat' with_reducible first
    | assumption
    | apply Dev.issueX_wf

theorem Dev.taskAlu1_wf {d : Dev} (a1 : Nat) (a2 : BitVec 5) (a3 : BitVec 5) (a4 : DWord → AluOut 64) (h : d.wf) : (Dev.taskAlu1 d a1 a2 a3 a4).wf := by
  unfold Dev.taskAlu1
  repeat' with_reducible first
    | assumption
    | apply Dev.issueX_wf

theorem Dev.taskDiv_wf {d : Dev} (a1 : Nat) (a2 : BitVec 5) (a3 : BitVec 5) (a4 : BitVec 5) (a5 : DWord → DWord → DWord × Bool) (h : d.wf) : (Dev.taskDiv d a1 a2 a3 a4 a5).wf := by
  unfold Dev.taskDiv
  repeat' with_reducible first
    | assumption
    | apply Dev.issueX_wf

/-! Machine/TaskCtl.lean. -/

theorem Dev.taskBit_wf {d : Dev} (a1 : Nat) (a2 : BitVec 5) (a3 : BitVec 5) (a4 : BitVec 5) (a5 : DWord → Nat → DWord) (h : d.wf) : (Dev.taskBit d a1 a2 a3 a4 a5).wf := by
  unfold Dev.taskBit
  repeat' with_reducible first
    | assumption
    | apply Dev.issueX_wf

theorem Dev.taskBit1_wf {d : Dev} (a1 : Nat) (a2 : BitVec 5) (a3 : BitVec 5) (a4 : DWord → DWord) (h : d.wf) : (Dev.taskBit1 d a1 a2 a3 a4).wf := by
  unfold Dev.taskBit1
  repeat' with_reducible first
    | assumption
    | apply Dev.issueX_wf

/-! Machine/TaskFp.lean. -/

theorem Dev.taskFp2_wf {d : Dev} (a1 : Nat) (a2 : Fmt) (a3 : Nat) (a4 : BitVec 5) (a5 : BitVec 5) (a6 : BitVec 5) (a7 : Nat → Nat → Nat × FFlags) (h : d.wf) : (Dev.taskFp2 d a1 a2 a3 a4 a5 a6 a7).wf := by
  unfold Dev.taskFp2
  repeat' with_reducible first
    | assumption
    | apply Dev.issueX_wf

theorem Dev.taskFp3_wf {d : Dev} (a1 : Nat) (a2 : Fmt) (a3 : BitVec 5) (a4 : BitVec 5) (a5 : BitVec 5) (a6 : BitVec 5) (a7 : Nat → Nat → Nat → Nat × FFlags) (h : d.wf) : (Dev.taskFp3 d a1 a2 a3 a4 a5 a6 a7).wf := by
  unfold Dev.taskFp3
  repeat' with_reducible first
    | assumption
    | apply Dev.issueX_wf

theorem Dev.taskFp1_wf {d : Dev} (a1 : Nat) (a2 : Fmt) (a3 : Nat) (a4 : BitVec 5) (a5 : BitVec 5) (a6 : Nat → Nat × FFlags) (h : d.wf) : (Dev.taskFp1 d a1 a2 a3 a4 a5 a6).wf := by
  unfold Dev.taskFp1
  repeat' with_reducible first
    | assumption
    | apply Dev.issueX_wf

theorem Dev.taskFcmp_wf {d : Dev} (a1 : Nat) (a2 : Fmt) (a3 : BitVec 5) (a4 : BitVec 5) (h : d.wf) : (Dev.taskFcmp d a1 a2 a3 a4).wf := by
  unfold Dev.taskFcmp
  repeat' with_reducible first
    | assumption
    | apply Dev.issueX_wf

/-! Machine/Tick.lean. -/

theorem Dev.countStalls_wf {d : Dev} (h : d.wf) : (Dev.countStalls d).wf := by
  unfold Dev.countStalls
  repeat' with_reducible first
    | assumption
    | (apply Dev.wf_ite <;> intro _)
    | apply Dev.bump_wf
    | apply forN_wf
    | apply foldl_wf
    | intro _

theorem Dev.drainModems_wf {d : Dev} (h : d.wf) : (Dev.drainModems d).wf := by
  unfold Dev.drainModems
  repeat' with_reducible first
    | assumption
    | (apply Dev.wf_ite <;> intro _)
    | apply Dev.fskDrain_wf
    | apply forN_wf
    | apply foldl_wf
    | intro _

theorem Dev.idle_wf {d : Dev} (h : d.wf) : (Dev.idle d).wf := by
  unfold Dev.idle
  repeat' with_reducible first
    | assumption
    | apply Dev.countStalls_wf
    | apply Dev.drainModems_wf
    | apply Dev.timeCycle_wf

end Sys2Proof.Machine
end

