-- ==== Sys2Proof/Laws/State.lean ====
section
/-!
SUPPORT. What each basic update of the device leaves in each field: one lemma for each field that the update does not write.
-/

namespace Sys2Proof.Machine

variable (d : Dev)

/-! put. -/

@[simp] theorem Dev.put_shadow (f : F) (i v : Nat) : (d.put f i v).shadow = d.shadow := rfl
@[simp] theorem Dev.put_snap (f : F) (i v : Nat) : (d.put f i v).snap = d.snap := rfl
@[simp] theorem Dev.put_caps (f : F) (i v : Nat) : (d.put f i v).caps = d.caps := rfl
@[simp] theorem Dev.put_mem (f : F) (i v : Nat) : (d.put f i v).mem = d.mem := rfl
@[simp] theorem Dev.put_flash (f : F) (i v : Nat) : (d.put f i v).flash = d.flash := rfl
@[simp] theorem Dev.put_free (f : F) (i v : Nat) : (d.put f i v).free = d.free := rfl
@[simp] theorem Dev.put_banks (f : F) (i v : Nat) : (d.put f i v).banks = d.banks := rfl
@[simp] theorem Dev.put_net (f : F) (i v : Nat) : (d.put f i v).net = d.net := rfl
@[simp] theorem Dev.put_stalled (f : F) (i v : Nat) : (d.put f i v).stalled = d.stalled := rfl
@[simp] theorem Dev.put_backlog (f : F) (i v : Nat) : (d.put f i v).backlog = d.backlog := rfl
@[simp] theorem Dev.put_entries (f : F) (i v : Nat) : (d.put f i v).entries = d.entries := rfl
@[simp] theorem Dev.put_readyq (f : F) (i v : Nat) : (d.put f i v).readyq = d.readyq := rfl
@[simp] theorem Dev.put_fates (f : F) (i v : Nat) : (d.put f i v).fates = d.fates := rfl
@[simp] theorem Dev.put_stageVals (f : F) (i v : Nat) : (d.put f i v).stageVals = d.stageVals := rfl
@[simp] theorem Dev.put_admq (f : F) (i v : Nat) : (d.put f i v).admq = d.admq := rfl
@[simp] theorem Dev.put_copies (f : F) (i v : Nat) : (d.put f i v).copies = d.copies := rfl
@[simp] theorem Dev.put_capFifo (f : F) (i v : Nat) : (d.put f i v).capFifo = d.capFifo := rfl
@[simp] theorem Dev.put_events (f : F) (i v : Nat) : (d.put f i v).events = d.events := rfl
@[simp] theorem Dev.put_tasks (f : F) (i v : Nat) : (d.put f i v).tasks = d.tasks := rfl
@[simp] theorem Dev.put_readyt (f : F) (i v : Nat) : (d.put f i v).readyt = d.readyt := rfl
@[simp] theorem Dev.put_waitq (f : F) (i v : Nat) : (d.put f i v).waitq = d.waitq := rfl
@[simp] theorem Dev.put_queues (f : F) (i v : Nat) : (d.put f i v).queues = d.queues := rfl
@[simp] theorem Dev.put_latches (f : F) (i v : Nat) : (d.put f i v).latches = d.latches := rfl
@[simp] theorem Dev.put_published (f : F) (i v : Nat) : (d.put f i v).published = d.published := rfl
@[simp] theorem Dev.put_changes (f : F) (i v : Nat) : (d.put f i v).changes = d.changes := rfl
@[simp] theorem Dev.put_pairOut (f : F) (i v : Nat) : (d.put f i v).pairOut = d.pairOut := rfl
@[simp] theorem Dev.put_hostOut (f : F) (i v : Nat) : (d.put f i v).hostOut = d.hostOut := rfl
@[simp] theorem Dev.put_plans (f : F) (i v : Nat) : (d.put f i v).plans = d.plans := rfl
@[simp] theorem Dev.put_paths (f : F) (i v : Nat) : (d.put f i v).paths = d.paths := rfl
@[simp] theorem Dev.put_sarq (f : F) (i v : Nat) : (d.put f i v).sarq = d.sarq := rfl
@[simp] theorem Dev.put_fsk (f : F) (i v : Nat) : (d.put f i v).fsk = d.fsk := rfl
@[simp] theorem Dev.put_olPend (f : F) (i v : Nat) : (d.put f i v).olPend = d.olPend := rfl
@[simp] theorem Dev.put_olSnap (f : F) (i v : Nat) : (d.put f i v).olSnap = d.olSnap := rfl
@[simp] theorem Dev.put_olRx (f : F) (i v : Nat) : (d.put f i v).olRx = d.olRx := rfl
@[simp] theorem Dev.put_olFrame (f : F) (i v : Nat) : (d.put f i v).olFrame = d.olFrame := rfl
@[simp] theorem Dev.put_ethTx (f : F) (i v : Nat) : (d.put f i v).ethTx = d.ethTx := rfl
@[simp] theorem Dev.put_ethTsq (f : F) (i v : Nat) : (d.put f i v).ethTsq = d.ethTsq := rfl
@[simp] theorem Dev.put_dcReady (f : F) (i v : Nat) : (d.put f i v).dcReady = d.dcReady := rfl
@[simp] theorem Dev.put_errHold (f : F) (i v : Nat) : (d.put f i v).errHold = d.errHold := rfl
@[simp] theorem Dev.put_sedHold (f : F) (i v : Nat) : (d.put f i v).sedHold = d.sedHold := rfl
@[simp] theorem Dev.put_sedOwn (f : F) (i v : Nat) : (d.put f i v).sedOwn = d.sedOwn := rfl
@[simp] theorem Dev.put_dirty (f : F) (i v : Nat) : (d.put f i v).dirty = d.dirty := rfl
@[simp] theorem Dev.put_carried (f : F) (i v : Nat) : (d.put f i v).carried = d.carried := rfl
@[simp] theorem Dev.put_psSet (f : F) (i v : Nat) : (d.put f i v).psSet = d.psSet := rfl

/-! flag. -/

@[simp] theorem Dev.flag_shadow (f : F) (i : Nat) (b : Bool) : (d.flag f i b).shadow = d.shadow := rfl
@[simp] theorem Dev.flag_snap (f : F) (i : Nat) (b : Bool) : (d.flag f i b).snap = d.snap := rfl
@[simp] theorem Dev.flag_caps (f : F) (i : Nat) (b : Bool) : (d.flag f i b).caps = d.caps := rfl
@[simp] theorem Dev.flag_mem (f : F) (i : Nat) (b : Bool) : (d.flag f i b).mem = d.mem := rfl
@[simp] theorem Dev.flag_flash (f : F) (i : Nat) (b : Bool) : (d.flag f i b).flash = d.flash := rfl
@[simp] theorem Dev.flag_free (f : F) (i : Nat) (b : Bool) : (d.flag f i b).free = d.free := rfl
@[simp] theorem Dev.flag_banks (f : F) (i : Nat) (b : Bool) : (d.flag f i b).banks = d.banks := rfl
@[simp] theorem Dev.flag_net (f : F) (i : Nat) (b : Bool) : (d.flag f i b).net = d.net := rfl
@[simp] theorem Dev.flag_stalled (f : F) (i : Nat) (b : Bool) : (d.flag f i b).stalled = d.stalled := rfl
@[simp] theorem Dev.flag_backlog (f : F) (i : Nat) (b : Bool) : (d.flag f i b).backlog = d.backlog := rfl
@[simp] theorem Dev.flag_entries (f : F) (i : Nat) (b : Bool) : (d.flag f i b).entries = d.entries := rfl
@[simp] theorem Dev.flag_readyq (f : F) (i : Nat) (b : Bool) : (d.flag f i b).readyq = d.readyq := rfl
@[simp] theorem Dev.flag_fates (f : F) (i : Nat) (b : Bool) : (d.flag f i b).fates = d.fates := rfl
@[simp] theorem Dev.flag_stageVals (f : F) (i : Nat) (b : Bool) : (d.flag f i b).stageVals = d.stageVals := rfl
@[simp] theorem Dev.flag_admq (f : F) (i : Nat) (b : Bool) : (d.flag f i b).admq = d.admq := rfl
@[simp] theorem Dev.flag_copies (f : F) (i : Nat) (b : Bool) : (d.flag f i b).copies = d.copies := rfl
@[simp] theorem Dev.flag_capFifo (f : F) (i : Nat) (b : Bool) : (d.flag f i b).capFifo = d.capFifo := rfl
@[simp] theorem Dev.flag_events (f : F) (i : Nat) (b : Bool) : (d.flag f i b).events = d.events := rfl
@[simp] theorem Dev.flag_tasks (f : F) (i : Nat) (b : Bool) : (d.flag f i b).tasks = d.tasks := rfl
@[simp] theorem Dev.flag_readyt (f : F) (i : Nat) (b : Bool) : (d.flag f i b).readyt = d.readyt := rfl
@[simp] theorem Dev.flag_waitq (f : F) (i : Nat) (b : Bool) : (d.flag f i b).waitq = d.waitq := rfl
@[simp] theorem Dev.flag_queues (f : F) (i : Nat) (b : Bool) : (d.flag f i b).queues = d.queues := rfl
@[simp] theorem Dev.flag_latches (f : F) (i : Nat) (b : Bool) : (d.flag f i b).latches = d.latches := rfl
@[simp] theorem Dev.flag_published (f : F) (i : Nat) (b : Bool) : (d.flag f i b).published = d.published := rfl
@[simp] theorem Dev.flag_changes (f : F) (i : Nat) (b : Bool) : (d.flag f i b).changes = d.changes := rfl
@[simp] theorem Dev.flag_pairOut (f : F) (i : Nat) (b : Bool) : (d.flag f i b).pairOut = d.pairOut := rfl
@[simp] theorem Dev.flag_hostOut (f : F) (i : Nat) (b : Bool) : (d.flag f i b).hostOut = d.hostOut := rfl
@[simp] theorem Dev.flag_plans (f : F) (i : Nat) (b : Bool) : (d.flag f i b).plans = d.plans := rfl
@[simp] theorem Dev.flag_paths (f : F) (i : Nat) (b : Bool) : (d.flag f i b).paths = d.paths := rfl
@[simp] theorem Dev.flag_sarq (f : F) (i : Nat) (b : Bool) : (d.flag f i b).sarq = d.sarq := rfl
@[simp] theorem Dev.flag_fsk (f : F) (i : Nat) (b : Bool) : (d.flag f i b).fsk = d.fsk := rfl
@[simp] theorem Dev.flag_olPend (f : F) (i : Nat) (b : Bool) : (d.flag f i b).olPend = d.olPend := rfl
@[simp] theorem Dev.flag_olSnap (f : F) (i : Nat) (b : Bool) : (d.flag f i b).olSnap = d.olSnap := rfl
@[simp] theorem Dev.flag_olRx (f : F) (i : Nat) (b : Bool) : (d.flag f i b).olRx = d.olRx := rfl
@[simp] theorem Dev.flag_olFrame (f : F) (i : Nat) (b : Bool) : (d.flag f i b).olFrame = d.olFrame := rfl
@[simp] theorem Dev.flag_ethTx (f : F) (i : Nat) (b : Bool) : (d.flag f i b).ethTx = d.ethTx := rfl
@[simp] theorem Dev.flag_ethTsq (f : F) (i : Nat) (b : Bool) : (d.flag f i b).ethTsq = d.ethTsq := rfl
@[simp] theorem Dev.flag_dcReady (f : F) (i : Nat) (b : Bool) : (d.flag f i b).dcReady = d.dcReady := rfl
@[simp] theorem Dev.flag_errHold (f : F) (i : Nat) (b : Bool) : (d.flag f i b).errHold = d.errHold := rfl
@[simp] theorem Dev.flag_sedHold (f : F) (i : Nat) (b : Bool) : (d.flag f i b).sedHold = d.sedHold := rfl
@[simp] theorem Dev.flag_sedOwn (f : F) (i : Nat) (b : Bool) : (d.flag f i b).sedOwn = d.sedOwn := rfl
@[simp] theorem Dev.flag_dirty (f : F) (i : Nat) (b : Bool) : (d.flag f i b).dirty = d.dirty := rfl
@[simp] theorem Dev.flag_carried (f : F) (i : Nat) (b : Bool) : (d.flag f i b).carried = d.carried := rfl
@[simp] theorem Dev.flag_psSet (f : F) (i : Nat) (b : Bool) : (d.flag f i b).psSet = d.psSet := rfl

/-! bump. -/

@[simp] theorem Dev.bump_shadow (f : F) (i n : Nat) : (d.bump f i n).shadow = d.shadow := rfl
@[simp] theorem Dev.bump_snap (f : F) (i n : Nat) : (d.bump f i n).snap = d.snap := rfl
@[simp] theorem Dev.bump_caps (f : F) (i n : Nat) : (d.bump f i n).caps = d.caps := rfl
@[simp] theorem Dev.bump_mem (f : F) (i n : Nat) : (d.bump f i n).mem = d.mem := rfl
@[simp] theorem Dev.bump_flash (f : F) (i n : Nat) : (d.bump f i n).flash = d.flash := rfl
@[simp] theorem Dev.bump_free (f : F) (i n : Nat) : (d.bump f i n).free = d.free := rfl
@[simp] theorem Dev.bump_banks (f : F) (i n : Nat) : (d.bump f i n).banks = d.banks := rfl
@[simp] theorem Dev.bump_net (f : F) (i n : Nat) : (d.bump f i n).net = d.net := rfl
@[simp] theorem Dev.bump_stalled (f : F) (i n : Nat) : (d.bump f i n).stalled = d.stalled := rfl
@[simp] theorem Dev.bump_backlog (f : F) (i n : Nat) : (d.bump f i n).backlog = d.backlog := rfl
@[simp] theorem Dev.bump_entries (f : F) (i n : Nat) : (d.bump f i n).entries = d.entries := rfl
@[simp] theorem Dev.bump_readyq (f : F) (i n : Nat) : (d.bump f i n).readyq = d.readyq := rfl
@[simp] theorem Dev.bump_fates (f : F) (i n : Nat) : (d.bump f i n).fates = d.fates := rfl
@[simp] theorem Dev.bump_stageVals (f : F) (i n : Nat) : (d.bump f i n).stageVals = d.stageVals := rfl
@[simp] theorem Dev.bump_admq (f : F) (i n : Nat) : (d.bump f i n).admq = d.admq := rfl
@[simp] theorem Dev.bump_copies (f : F) (i n : Nat) : (d.bump f i n).copies = d.copies := rfl
@[simp] theorem Dev.bump_capFifo (f : F) (i n : Nat) : (d.bump f i n).capFifo = d.capFifo := rfl
@[simp] theorem Dev.bump_events (f : F) (i n : Nat) : (d.bump f i n).events = d.events := rfl
@[simp] theorem Dev.bump_tasks (f : F) (i n : Nat) : (d.bump f i n).tasks = d.tasks := rfl
@[simp] theorem Dev.bump_readyt (f : F) (i n : Nat) : (d.bump f i n).readyt = d.readyt := rfl
@[simp] theorem Dev.bump_waitq (f : F) (i n : Nat) : (d.bump f i n).waitq = d.waitq := rfl
@[simp] theorem Dev.bump_queues (f : F) (i n : Nat) : (d.bump f i n).queues = d.queues := rfl
@[simp] theorem Dev.bump_latches (f : F) (i n : Nat) : (d.bump f i n).latches = d.latches := rfl
@[simp] theorem Dev.bump_published (f : F) (i n : Nat) : (d.bump f i n).published = d.published := rfl
@[simp] theorem Dev.bump_changes (f : F) (i n : Nat) : (d.bump f i n).changes = d.changes := rfl
@[simp] theorem Dev.bump_pairOut (f : F) (i n : Nat) : (d.bump f i n).pairOut = d.pairOut := rfl
@[simp] theorem Dev.bump_hostOut (f : F) (i n : Nat) : (d.bump f i n).hostOut = d.hostOut := rfl
@[simp] theorem Dev.bump_plans (f : F) (i n : Nat) : (d.bump f i n).plans = d.plans := rfl
@[simp] theorem Dev.bump_paths (f : F) (i n : Nat) : (d.bump f i n).paths = d.paths := rfl
@[simp] theorem Dev.bump_sarq (f : F) (i n : Nat) : (d.bump f i n).sarq = d.sarq := rfl
@[simp] theorem Dev.bump_fsk (f : F) (i n : Nat) : (d.bump f i n).fsk = d.fsk := rfl
@[simp] theorem Dev.bump_olPend (f : F) (i n : Nat) : (d.bump f i n).olPend = d.olPend := rfl
@[simp] theorem Dev.bump_olSnap (f : F) (i n : Nat) : (d.bump f i n).olSnap = d.olSnap := rfl
@[simp] theorem Dev.bump_olRx (f : F) (i n : Nat) : (d.bump f i n).olRx = d.olRx := rfl
@[simp] theorem Dev.bump_olFrame (f : F) (i n : Nat) : (d.bump f i n).olFrame = d.olFrame := rfl
@[simp] theorem Dev.bump_ethTx (f : F) (i n : Nat) : (d.bump f i n).ethTx = d.ethTx := rfl
@[simp] theorem Dev.bump_ethTsq (f : F) (i n : Nat) : (d.bump f i n).ethTsq = d.ethTsq := rfl
@[simp] theorem Dev.bump_dcReady (f : F) (i n : Nat) : (d.bump f i n).dcReady = d.dcReady := rfl
@[simp] theorem Dev.bump_errHold (f : F) (i n : Nat) : (d.bump f i n).errHold = d.errHold := rfl
@[simp] theorem Dev.bump_sedHold (f : F) (i n : Nat) : (d.bump f i n).sedHold = d.sedHold := rfl
@[simp] theorem Dev.bump_sedOwn (f : F) (i n : Nat) : (d.bump f i n).sedOwn = d.sedOwn := rfl
@[simp] theorem Dev.bump_dirty (f : F) (i n : Nat) : (d.bump f i n).dirty = d.dirty := rfl
@[simp] theorem Dev.bump_carried (f : F) (i n : Nat) : (d.bump f i n).carried = d.carried := rfl
@[simp] theorem Dev.bump_psSet (f : F) (i n : Nat) : (d.bump f i n).psSet = d.psSet := rfl

/-! setByte. -/

@[simp] theorem Dev.setByte_regs (a : Nat) (b : Byte) : (d.setByte a b).regs = d.regs := rfl
@[simp] theorem Dev.setByte_shadow (a : Nat) (b : Byte) : (d.setByte a b).shadow = d.shadow := rfl
@[simp] theorem Dev.setByte_snap (a : Nat) (b : Byte) : (d.setByte a b).snap = d.snap := rfl
@[simp] theorem Dev.setByte_caps (a : Nat) (b : Byte) : (d.setByte a b).caps = d.caps := rfl
@[simp] theorem Dev.setByte_flash (a : Nat) (b : Byte) : (d.setByte a b).flash = d.flash := rfl
@[simp] theorem Dev.setByte_free (a : Nat) (b : Byte) : (d.setByte a b).free = d.free := rfl
@[simp] theorem Dev.setByte_banks (a : Nat) (b : Byte) : (d.setByte a b).banks = d.banks := rfl
@[simp] theorem Dev.setByte_net (a : Nat) (b : Byte) : (d.setByte a b).net = d.net := rfl
@[simp] theorem Dev.setByte_stalled (a : Nat) (b : Byte) : (d.setByte a b).stalled = d.stalled := rfl
@[simp] theorem Dev.setByte_backlog (a : Nat) (b : Byte) : (d.setByte a b).backlog = d.backlog := rfl
@[simp] theorem Dev.setByte_entries (a : Nat) (b : Byte) : (d.setByte a b).entries = d.entries := rfl
@[simp] theorem Dev.setByte_readyq (a : Nat) (b : Byte) : (d.setByte a b).readyq = d.readyq := rfl
@[simp] theorem Dev.setByte_fates (a : Nat) (b : Byte) : (d.setByte a b).fates = d.fates := rfl
@[simp] theorem Dev.setByte_stageVals (a : Nat) (b : Byte) : (d.setByte a b).stageVals = d.stageVals := rfl
@[simp] theorem Dev.setByte_admq (a : Nat) (b : Byte) : (d.setByte a b).admq = d.admq := rfl
@[simp] theorem Dev.setByte_copies (a : Nat) (b : Byte) : (d.setByte a b).copies = d.copies := rfl
@[simp] theorem Dev.setByte_capFifo (a : Nat) (b : Byte) : (d.setByte a b).capFifo = d.capFifo := rfl
@[simp] theorem Dev.setByte_events (a : Nat) (b : Byte) : (d.setByte a b).events = d.events := rfl
@[simp] theorem Dev.setByte_tasks (a : Nat) (b : Byte) : (d.setByte a b).tasks = d.tasks := rfl
@[simp] theorem Dev.setByte_readyt (a : Nat) (b : Byte) : (d.setByte a b).readyt = d.readyt := rfl
@[simp] theorem Dev.setByte_waitq (a : Nat) (b : Byte) : (d.setByte a b).waitq = d.waitq := rfl
@[simp] theorem Dev.setByte_queues (a : Nat) (b : Byte) : (d.setByte a b).queues = d.queues := rfl
@[simp] theorem Dev.setByte_latches (a : Nat) (b : Byte) : (d.setByte a b).latches = d.latches := rfl
@[simp] theorem Dev.setByte_published (a : Nat) (b : Byte) : (d.setByte a b).published = d.published := rfl
@[simp] theorem Dev.setByte_changes (a : Nat) (b : Byte) : (d.setByte a b).changes = d.changes := rfl
@[simp] theorem Dev.setByte_pairOut (a : Nat) (b : Byte) : (d.setByte a b).pairOut = d.pairOut := rfl
@[simp] theorem Dev.setByte_hostOut (a : Nat) (b : Byte) : (d.setByte a b).hostOut = d.hostOut := rfl
@[simp] theorem Dev.setByte_plans (a : Nat) (b : Byte) : (d.setByte a b).plans = d.plans := rfl
@[simp] theorem Dev.setByte_paths (a : Nat) (b : Byte) : (d.setByte a b).paths = d.paths := rfl
@[simp] theorem Dev.setByte_sarq (a : Nat) (b : Byte) : (d.setByte a b).sarq = d.sarq := rfl
@[simp] theorem Dev.setByte_fsk (a : Nat) (b : Byte) : (d.setByte a b).fsk = d.fsk := rfl
@[simp] theorem Dev.setByte_olPend (a : Nat) (b : Byte) : (d.setByte a b).olPend = d.olPend := rfl
@[simp] theorem Dev.setByte_olSnap (a : Nat) (b : Byte) : (d.setByte a b).olSnap = d.olSnap := rfl
@[simp] theorem Dev.setByte_olRx (a : Nat) (b : Byte) : (d.setByte a b).olRx = d.olRx := rfl
@[simp] theorem Dev.setByte_olFrame (a : Nat) (b : Byte) : (d.setByte a b).olFrame = d.olFrame := rfl
@[simp] theorem Dev.setByte_ethTx (a : Nat) (b : Byte) : (d.setByte a b).ethTx = d.ethTx := rfl
@[simp] theorem Dev.setByte_ethTsq (a : Nat) (b : Byte) : (d.setByte a b).ethTsq = d.ethTsq := rfl
@[simp] theorem Dev.setByte_dcReady (a : Nat) (b : Byte) : (d.setByte a b).dcReady = d.dcReady := rfl
@[simp] theorem Dev.setByte_errHold (a : Nat) (b : Byte) : (d.setByte a b).errHold = d.errHold := rfl
@[simp] theorem Dev.setByte_sedHold (a : Nat) (b : Byte) : (d.setByte a b).sedHold = d.sedHold := rfl
@[simp] theorem Dev.setByte_sedOwn (a : Nat) (b : Byte) : (d.setByte a b).sedOwn = d.sedOwn := rfl
@[simp] theorem Dev.setByte_carried (a : Nat) (b : Byte) : (d.setByte a b).carried = d.carried := rfl
@[simp] theorem Dev.setByte_psSet (a : Nat) (b : Byte) : (d.setByte a b).psSet = d.psSet := rfl

/-! setFlash. -/

@[simp] theorem Dev.setFlash_regs (a v : Nat) : (d.setFlash a v).regs = d.regs := rfl
@[simp] theorem Dev.setFlash_shadow (a v : Nat) : (d.setFlash a v).shadow = d.shadow := rfl
@[simp] theorem Dev.setFlash_snap (a v : Nat) : (d.setFlash a v).snap = d.snap := rfl
@[simp] theorem Dev.setFlash_caps (a v : Nat) : (d.setFlash a v).caps = d.caps := rfl
@[simp] theorem Dev.setFlash_mem (a v : Nat) : (d.setFlash a v).mem = d.mem := rfl
@[simp] theorem Dev.setFlash_free (a v : Nat) : (d.setFlash a v).free = d.free := rfl
@[simp] theorem Dev.setFlash_banks (a v : Nat) : (d.setFlash a v).banks = d.banks := rfl
@[simp] theorem Dev.setFlash_net (a v : Nat) : (d.setFlash a v).net = d.net := rfl
@[simp] theorem Dev.setFlash_stalled (a v : Nat) : (d.setFlash a v).stalled = d.stalled := rfl
@[simp] theorem Dev.setFlash_backlog (a v : Nat) : (d.setFlash a v).backlog = d.backlog := rfl
@[simp] theorem Dev.setFlash_entries (a v : Nat) : (d.setFlash a v).entries = d.entries := rfl
@[simp] theorem Dev.setFlash_readyq (a v : Nat) : (d.setFlash a v).readyq = d.readyq := rfl
@[simp] theorem Dev.setFlash_fates (a v : Nat) : (d.setFlash a v).fates = d.fates := rfl
@[simp] theorem Dev.setFlash_stageVals (a v : Nat) : (d.setFlash a v).stageVals = d.stageVals := rfl
@[simp] theorem Dev.setFlash_admq (a v : Nat) : (d.setFlash a v).admq = d.admq := rfl
@[simp] theorem Dev.setFlash_copies (a v : Nat) : (d.setFlash a v).copies = d.copies := rfl
@[simp] theorem Dev.setFlash_capFifo (a v : Nat) : (d.setFlash a v).capFifo = d.capFifo := rfl
@[simp] theorem Dev.setFlash_events (a v : Nat) : (d.setFlash a v).events = d.events := rfl
@[simp] theorem Dev.setFlash_tasks (a v : Nat) : (d.setFlash a v).tasks = d.tasks := rfl
@[simp] theorem Dev.setFlash_readyt (a v : Nat) : (d.setFlash a v).readyt = d.readyt := rfl
@[simp] theorem Dev.setFlash_waitq (a v : Nat) : (d.setFlash a v).waitq = d.waitq := rfl
@[simp] theorem Dev.setFlash_queues (a v : Nat) : (d.setFlash a v).queues = d.queues := rfl
@[simp] theorem Dev.setFlash_latches (a v : Nat) : (d.setFlash a v).latches = d.latches := rfl
@[simp] theorem Dev.setFlash_published (a v : Nat) : (d.setFlash a v).published = d.published := rfl
@[simp] theorem Dev.setFlash_changes (a v : Nat) : (d.setFlash a v).changes = d.changes := rfl
@[simp] theorem Dev.setFlash_pairOut (a v : Nat) : (d.setFlash a v).pairOut = d.pairOut := rfl
@[simp] theorem Dev.setFlash_hostOut (a v : Nat) : (d.setFlash a v).hostOut = d.hostOut := rfl
@[simp] theorem Dev.setFlash_plans (a v : Nat) : (d.setFlash a v).plans = d.plans := rfl
@[simp] theorem Dev.setFlash_paths (a v : Nat) : (d.setFlash a v).paths = d.paths := rfl
@[simp] theorem Dev.setFlash_sarq (a v : Nat) : (d.setFlash a v).sarq = d.sarq := rfl
@[simp] theorem Dev.setFlash_fsk (a v : Nat) : (d.setFlash a v).fsk = d.fsk := rfl
@[simp] theorem Dev.setFlash_olPend (a v : Nat) : (d.setFlash a v).olPend = d.olPend := rfl
@[simp] theorem Dev.setFlash_olSnap (a v : Nat) : (d.setFlash a v).olSnap = d.olSnap := rfl
@[simp] theorem Dev.setFlash_olRx (a v : Nat) : (d.setFlash a v).olRx = d.olRx := rfl
@[simp] theorem Dev.setFlash_olFrame (a v : Nat) : (d.setFlash a v).olFrame = d.olFrame := rfl
@[simp] theorem Dev.setFlash_ethTx (a v : Nat) : (d.setFlash a v).ethTx = d.ethTx := rfl
@[simp] theorem Dev.setFlash_ethTsq (a v : Nat) : (d.setFlash a v).ethTsq = d.ethTsq := rfl
@[simp] theorem Dev.setFlash_dcReady (a v : Nat) : (d.setFlash a v).dcReady = d.dcReady := rfl
@[simp] theorem Dev.setFlash_errHold (a v : Nat) : (d.setFlash a v).errHold = d.errHold := rfl
@[simp] theorem Dev.setFlash_sedHold (a v : Nat) : (d.setFlash a v).sedHold = d.sedHold := rfl
@[simp] theorem Dev.setFlash_sedOwn (a v : Nat) : (d.setFlash a v).sedOwn = d.sedOwn := rfl
@[simp] theorem Dev.setFlash_dirty (a v : Nat) : (d.setFlash a v).dirty = d.dirty := rfl
@[simp] theorem Dev.setFlash_carried (a v : Nat) : (d.setFlash a v).carried = d.carried := rfl
@[simp] theorem Dev.setFlash_psSet (a v : Nat) : (d.setFlash a v).psSet = d.psSet := rfl

/-! fresh. -/

@[simp] theorem Dev.fresh_regs : (d.fresh.2).regs = d.regs := rfl
@[simp] theorem Dev.fresh_shadow : (d.fresh.2).shadow = d.shadow := rfl
@[simp] theorem Dev.fresh_snap : (d.fresh.2).snap = d.snap := rfl
@[simp] theorem Dev.fresh_caps : (d.fresh.2).caps = d.caps := rfl
@[simp] theorem Dev.fresh_mem : (d.fresh.2).mem = d.mem := rfl
@[simp] theorem Dev.fresh_flash : (d.fresh.2).flash = d.flash := rfl
@[simp] theorem Dev.fresh_banks : (d.fresh.2).banks = d.banks := rfl
@[simp] theorem Dev.fresh_net : (d.fresh.2).net = d.net := rfl
@[simp] theorem Dev.fresh_stalled : (d.fresh.2).stalled = d.stalled := rfl
@[simp] theorem Dev.fresh_backlog : (d.fresh.2).backlog = d.backlog := rfl
@[simp] theorem Dev.fresh_entries : (d.fresh.2).entries = d.entries := rfl
@[simp] theorem Dev.fresh_readyq : (d.fresh.2).readyq = d.readyq := rfl
@[simp] theorem Dev.fresh_fates : (d.fresh.2).fates = d.fates := rfl
@[simp] theorem Dev.fresh_stageVals : (d.fresh.2).stageVals = d.stageVals := rfl
@[simp] theorem Dev.fresh_admq : (d.fresh.2).admq = d.admq := rfl
@[simp] theorem Dev.fresh_copies : (d.fresh.2).copies = d.copies := rfl
@[simp] theorem Dev.fresh_capFifo : (d.fresh.2).capFifo = d.capFifo := rfl
@[simp] theorem Dev.fresh_events : (d.fresh.2).events = d.events := rfl
@[simp] theorem Dev.fresh_tasks : (d.fresh.2).tasks = d.tasks := rfl
@[simp] theorem Dev.fresh_readyt : (d.fresh.2).readyt = d.readyt := rfl
@[simp] theorem Dev.fresh_waitq : (d.fresh.2).waitq = d.waitq := rfl
@[simp] theorem Dev.fresh_queues : (d.fresh.2).queues = d.queues := rfl
@[simp] theorem Dev.fresh_latches : (d.fresh.2).latches = d.latches := rfl
@[simp] theorem Dev.fresh_published : (d.fresh.2).published = d.published := rfl
@[simp] theorem Dev.fresh_changes : (d.fresh.2).changes = d.changes := rfl
@[simp] theorem Dev.fresh_pairOut : (d.fresh.2).pairOut = d.pairOut := rfl
@[simp] theorem Dev.fresh_hostOut : (d.fresh.2).hostOut = d.hostOut := rfl
@[simp] theorem Dev.fresh_plans : (d.fresh.2).plans = d.plans := rfl
@[simp] theorem Dev.fresh_paths : (d.fresh.2).paths = d.paths := rfl
@[simp] theorem Dev.fresh_sarq : (d.fresh.2).sarq = d.sarq := rfl
@[simp] theorem Dev.fresh_fsk : (d.fresh.2).fsk = d.fsk := rfl
@[simp] theorem Dev.fresh_olPend : (d.fresh.2).olPend = d.olPend := rfl
@[simp] theorem Dev.fresh_olSnap : (d.fresh.2).olSnap = d.olSnap := rfl
@[simp] theorem Dev.fresh_olRx : (d.fresh.2).olRx = d.olRx := rfl
@[simp] theorem Dev.fresh_olFrame : (d.fresh.2).olFrame = d.olFrame := rfl
@[simp] theorem Dev.fresh_ethTx : (d.fresh.2).ethTx = d.ethTx := rfl
@[simp] theorem Dev.fresh_ethTsq : (d.fresh.2).ethTsq = d.ethTsq := rfl
@[simp] theorem Dev.fresh_dcReady : (d.fresh.2).dcReady = d.dcReady := rfl
@[simp] theorem Dev.fresh_errHold : (d.fresh.2).errHold = d.errHold := rfl
@[simp] theorem Dev.fresh_sedHold : (d.fresh.2).sedHold = d.sedHold := rfl
@[simp] theorem Dev.fresh_sedOwn : (d.fresh.2).sedOwn = d.sedOwn := rfl
@[simp] theorem Dev.fresh_dirty : (d.fresh.2).dirty = d.dirty := rfl
@[simp] theorem Dev.fresh_carried : (d.fresh.2).carried = d.carried := rfl
@[simp] theorem Dev.fresh_psSet : (d.fresh.2).psSet = d.psSet := rfl

/-! setBank. -/

@[simp] theorem Dev.setBank_regs (c b : Nat) (x : Bank) : (d.setBank c b x).regs = d.regs := rfl
@[simp] theorem Dev.setBank_shadow (c b : Nat) (x : Bank) : (d.setBank c b x).shadow = d.shadow := rfl
@[simp] theorem Dev.setBank_snap (c b : Nat) (x : Bank) : (d.setBank c b x).snap = d.snap := rfl
@[simp] theorem Dev.setBank_caps (c b : Nat) (x : Bank) : (d.setBank c b x).caps = d.caps := rfl
@[simp] theorem Dev.setBank_mem (c b : Nat) (x : Bank) : (d.setBank c b x).mem = d.mem := rfl
@[simp] theorem Dev.setBank_flash (c b : Nat) (x : Bank) : (d.setBank c b x).flash = d.flash := rfl
@[simp] theorem Dev.setBank_free (c b : Nat) (x : Bank) : (d.setBank c b x).free = d.free := rfl
@[simp] theorem Dev.setBank_net (c b : Nat) (x : Bank) : (d.setBank c b x).net = d.net := rfl
@[simp] theorem Dev.setBank_stalled (c b : Nat) (x : Bank) : (d.setBank c b x).stalled = d.stalled := rfl
@[simp] theorem Dev.setBank_backlog (c b : Nat) (x : Bank) : (d.setBank c b x).backlog = d.backlog := rfl
@[simp] theorem Dev.setBank_entries (c b : Nat) (x : Bank) : (d.setBank c b x).entries = d.entries := rfl
@[simp] theorem Dev.setBank_readyq (c b : Nat) (x : Bank) : (d.setBank c b x).readyq = d.readyq := rfl
@[simp] theorem Dev.setBank_fates (c b : Nat) (x : Bank) : (d.setBank c b x).fates = d.fates := rfl
@[simp] theorem Dev.setBank_stageVals (c b : Nat) (x : Bank) : (d.setBank c b x).stageVals = d.stageVals := rfl
@[simp] theorem Dev.setBank_admq (c b : Nat) (x : Bank) : (d.setBank c b x).admq = d.admq := rfl
@[simp] theorem Dev.setBank_copies (c b : Nat) (x : Bank) : (d.setBank c b x).copies = d.copies := rfl
@[simp] theorem Dev.setBank_capFifo (c b : Nat) (x : Bank) : (d.setBank c b x).capFifo = d.capFifo := rfl
@[simp] theorem Dev.setBank_events (c b : Nat) (x : Bank) : (d.setBank c b x).events = d.events := rfl
@[simp] theorem Dev.setBank_tasks (c b : Nat) (x : Bank) : (d.setBank c b x).tasks = d.tasks := rfl
@[simp] theorem Dev.setBank_readyt (c b : Nat) (x : Bank) : (d.setBank c b x).readyt = d.readyt := rfl
@[simp] theorem Dev.setBank_waitq (c b : Nat) (x : Bank) : (d.setBank c b x).waitq = d.waitq := rfl
@[simp] theorem Dev.setBank_queues (c b : Nat) (x : Bank) : (d.setBank c b x).queues = d.queues := rfl
@[simp] theorem Dev.setBank_latches (c b : Nat) (x : Bank) : (d.setBank c b x).latches = d.latches := rfl
@[simp] theorem Dev.setBank_published (c b : Nat) (x : Bank) : (d.setBank c b x).published = d.published := rfl
@[simp] theorem Dev.setBank_changes (c b : Nat) (x : Bank) : (d.setBank c b x).changes = d.changes := rfl
@[simp] theorem Dev.setBank_pairOut (c b : Nat) (x : Bank) : (d.setBank c b x).pairOut = d.pairOut := rfl
@[simp] theorem Dev.setBank_hostOut (c b : Nat) (x : Bank) : (d.setBank c b x).hostOut = d.hostOut := rfl
@[simp] theorem Dev.setBank_plans (c b : Nat) (x : Bank) : (d.setBank c b x).plans = d.plans := rfl
@[simp] theorem Dev.setBank_paths (c b : Nat) (x : Bank) : (d.setBank c b x).paths = d.paths := rfl
@[simp] theorem Dev.setBank_sarq (c b : Nat) (x : Bank) : (d.setBank c b x).sarq = d.sarq := rfl
@[simp] theorem Dev.setBank_fsk (c b : Nat) (x : Bank) : (d.setBank c b x).fsk = d.fsk := rfl
@[simp] theorem Dev.setBank_olPend (c b : Nat) (x : Bank) : (d.setBank c b x).olPend = d.olPend := rfl
@[simp] theorem Dev.setBank_olSnap (c b : Nat) (x : Bank) : (d.setBank c b x).olSnap = d.olSnap := rfl
@[simp] theorem Dev.setBank_olRx (c b : Nat) (x : Bank) : (d.setBank c b x).olRx = d.olRx := rfl
@[simp] theorem Dev.setBank_olFrame (c b : Nat) (x : Bank) : (d.setBank c b x).olFrame = d.olFrame := rfl
@[simp] theorem Dev.setBank_ethTx (c b : Nat) (x : Bank) : (d.setBank c b x).ethTx = d.ethTx := rfl
@[simp] theorem Dev.setBank_ethTsq (c b : Nat) (x : Bank) : (d.setBank c b x).ethTsq = d.ethTsq := rfl
@[simp] theorem Dev.setBank_dcReady (c b : Nat) (x : Bank) : (d.setBank c b x).dcReady = d.dcReady := rfl
@[simp] theorem Dev.setBank_errHold (c b : Nat) (x : Bank) : (d.setBank c b x).errHold = d.errHold := rfl
@[simp] theorem Dev.setBank_sedHold (c b : Nat) (x : Bank) : (d.setBank c b x).sedHold = d.sedHold := rfl
@[simp] theorem Dev.setBank_sedOwn (c b : Nat) (x : Bank) : (d.setBank c b x).sedOwn = d.sedOwn := rfl
@[simp] theorem Dev.setBank_dirty (c b : Nat) (x : Bank) : (d.setBank c b x).dirty = d.dirty := rfl
@[simp] theorem Dev.setBank_carried (c b : Nat) (x : Bank) : (d.setBank c b x).carried = d.carried := rfl
@[simp] theorem Dev.setBank_psSet (c b : Nat) (x : Bank) : (d.setBank c b x).psSet = d.psSet := rfl

/-! setCtx. -/

@[simp] theorem Dev.setCtx_regs (n : Nat) (c : TaskCtx) : (d.setCtx n c).regs = d.regs := rfl
@[simp] theorem Dev.setCtx_shadow (n : Nat) (c : TaskCtx) : (d.setCtx n c).shadow = d.shadow := rfl
@[simp] theorem Dev.setCtx_snap (n : Nat) (c : TaskCtx) : (d.setCtx n c).snap = d.snap := rfl
@[simp] theorem Dev.setCtx_caps (n : Nat) (c : TaskCtx) : (d.setCtx n c).caps = d.caps := rfl
@[simp] theorem Dev.setCtx_mem (n : Nat) (c : TaskCtx) : (d.setCtx n c).mem = d.mem := rfl
@[simp] theorem Dev.setCtx_flash (n : Nat) (c : TaskCtx) : (d.setCtx n c).flash = d.flash := rfl
@[simp] theorem Dev.setCtx_free (n : Nat) (c : TaskCtx) : (d.setCtx n c).free = d.free := rfl
@[simp] theorem Dev.setCtx_banks (n : Nat) (c : TaskCtx) : (d.setCtx n c).banks = d.banks := rfl
@[simp] theorem Dev.setCtx_net (n : Nat) (c : TaskCtx) : (d.setCtx n c).net = d.net := rfl
@[simp] theorem Dev.setCtx_stalled (n : Nat) (c : TaskCtx) : (d.setCtx n c).stalled = d.stalled := rfl
@[simp] theorem Dev.setCtx_backlog (n : Nat) (c : TaskCtx) : (d.setCtx n c).backlog = d.backlog := rfl
@[simp] theorem Dev.setCtx_entries (n : Nat) (c : TaskCtx) : (d.setCtx n c).entries = d.entries := rfl
@[simp] theorem Dev.setCtx_readyq (n : Nat) (c : TaskCtx) : (d.setCtx n c).readyq = d.readyq := rfl
@[simp] theorem Dev.setCtx_fates (n : Nat) (c : TaskCtx) : (d.setCtx n c).fates = d.fates := rfl
@[simp] theorem Dev.setCtx_stageVals (n : Nat) (c : TaskCtx) : (d.setCtx n c).stageVals = d.stageVals := rfl
@[simp] theorem Dev.setCtx_admq (n : Nat) (c : TaskCtx) : (d.setCtx n c).admq = d.admq := rfl
@[simp] theorem Dev.setCtx_copies (n : Nat) (c : TaskCtx) : (d.setCtx n c).copies = d.copies := rfl
@[simp] theorem Dev.setCtx_capFifo (n : Nat) (c : TaskCtx) : (d.setCtx n c).capFifo = d.capFifo := rfl
@[simp] theorem Dev.setCtx_events (n : Nat) (c : TaskCtx) : (d.setCtx n c).events = d.events := rfl
@[simp] theorem Dev.setCtx_readyt (n : Nat) (c : TaskCtx) : (d.setCtx n c).readyt = d.readyt := rfl
@[simp] theorem Dev.setCtx_waitq (n : Nat) (c : TaskCtx) : (d.setCtx n c).waitq = d.waitq := rfl
@[simp] theorem Dev.setCtx_queues (n : Nat) (c : TaskCtx) : (d.setCtx n c).queues = d.queues := rfl
@[simp] theorem Dev.setCtx_latches (n : Nat) (c : TaskCtx) : (d.setCtx n c).latches = d.latches := rfl
@[simp] theorem Dev.setCtx_published (n : Nat) (c : TaskCtx) : (d.setCtx n c).published = d.published := rfl
@[simp] theorem Dev.setCtx_changes (n : Nat) (c : TaskCtx) : (d.setCtx n c).changes = d.changes := rfl
@[simp] theorem Dev.setCtx_pairOut (n : Nat) (c : TaskCtx) : (d.setCtx n c).pairOut = d.pairOut := rfl
@[simp] theorem Dev.setCtx_hostOut (n : Nat) (c : TaskCtx) : (d.setCtx n c).hostOut = d.hostOut := rfl
@[simp] theorem Dev.setCtx_plans (n : Nat) (c : TaskCtx) : (d.setCtx n c).plans = d.plans := rfl
@[simp] theorem Dev.setCtx_paths (n : Nat) (c : TaskCtx) : (d.setCtx n c).paths = d.paths := rfl
@[simp] theorem Dev.setCtx_sarq (n : Nat) (c : TaskCtx) : (d.setCtx n c).sarq = d.sarq := rfl
@[simp] theorem Dev.setCtx_fsk (n : Nat) (c : TaskCtx) : (d.setCtx n c).fsk = d.fsk := rfl
@[simp] theorem Dev.setCtx_olPend (n : Nat) (c : TaskCtx) : (d.setCtx n c).olPend = d.olPend := rfl
@[simp] theorem Dev.setCtx_olSnap (n : Nat) (c : TaskCtx) : (d.setCtx n c).olSnap = d.olSnap := rfl
@[simp] theorem Dev.setCtx_olRx (n : Nat) (c : TaskCtx) : (d.setCtx n c).olRx = d.olRx := rfl
@[simp] theorem Dev.setCtx_olFrame (n : Nat) (c : TaskCtx) : (d.setCtx n c).olFrame = d.olFrame := rfl
@[simp] theorem Dev.setCtx_ethTx (n : Nat) (c : TaskCtx) : (d.setCtx n c).ethTx = d.ethTx := rfl
@[simp] theorem Dev.setCtx_ethTsq (n : Nat) (c : TaskCtx) : (d.setCtx n c).ethTsq = d.ethTsq := rfl
@[simp] theorem Dev.setCtx_dcReady (n : Nat) (c : TaskCtx) : (d.setCtx n c).dcReady = d.dcReady := rfl
@[simp] theorem Dev.setCtx_errHold (n : Nat) (c : TaskCtx) : (d.setCtx n c).errHold = d.errHold := rfl
@[simp] theorem Dev.setCtx_sedHold (n : Nat) (c : TaskCtx) : (d.setCtx n c).sedHold = d.sedHold := rfl
@[simp] theorem Dev.setCtx_sedOwn (n : Nat) (c : TaskCtx) : (d.setCtx n c).sedOwn = d.sedOwn := rfl
@[simp] theorem Dev.setCtx_dirty (n : Nat) (c : TaskCtx) : (d.setCtx n c).dirty = d.dirty := rfl
@[simp] theorem Dev.setCtx_carried (n : Nat) (c : TaskCtx) : (d.setCtx n c).carried = d.carried := rfl
@[simp] theorem Dev.setCtx_psSet (n : Nat) (c : TaskCtx) : (d.setCtx n c).psSet = d.psSet := rfl

/-! setQueue. -/

@[simp] theorem Dev.setQueue_regs (q : Nat) (x : Queue) : (d.setQueue q x).regs = d.regs := rfl
@[simp] theorem Dev.setQueue_shadow (q : Nat) (x : Queue) : (d.setQueue q x).shadow = d.shadow := rfl
@[simp] theorem Dev.setQueue_snap (q : Nat) (x : Queue) : (d.setQueue q x).snap = d.snap := rfl
@[simp] theorem Dev.setQueue_caps (q : Nat) (x : Queue) : (d.setQueue q x).caps = d.caps := rfl
@[simp] theorem Dev.setQueue_mem (q : Nat) (x : Queue) : (d.setQueue q x).mem = d.mem := rfl
@[simp] theorem Dev.setQueue_flash (q : Nat) (x : Queue) : (d.setQueue q x).flash = d.flash := rfl
@[simp] theorem Dev.setQueue_free (q : Nat) (x : Queue) : (d.setQueue q x).free = d.free := rfl
@[simp] theorem Dev.setQueue_banks (q : Nat) (x : Queue) : (d.setQueue q x).banks = d.banks := rfl
@[simp] theorem Dev.setQueue_net (q : Nat) (x : Queue) : (d.setQueue q x).net = d.net := rfl
@[simp] theorem Dev.setQueue_stalled (q : Nat) (x : Queue) : (d.setQueue q x).stalled = d.stalled := rfl
@[simp] theorem Dev.setQueue_backlog (q : Nat) (x : Queue) : (d.setQueue q x).backlog = d.backlog := rfl
@[simp] theorem Dev.setQueue_entries (q : Nat) (x : Queue) : (d.setQueue q x).entries = d.entries := rfl
@[simp] theorem Dev.setQueue_readyq (q : Nat) (x : Queue) : (d.setQueue q x).readyq = d.readyq := rfl
@[simp] theorem Dev.setQueue_fates (q : Nat) (x : Queue) : (d.setQueue q x).fates = d.fates := rfl
@[simp] theorem Dev.setQueue_stageVals (q : Nat) (x : Queue) : (d.setQueue q x).stageVals = d.stageVals := rfl
@[simp] theorem Dev.setQueue_admq (q : Nat) (x : Queue) : (d.setQueue q x).admq = d.admq := rfl
@[simp] theorem Dev.setQueue_copies (q : Nat) (x : Queue) : (d.setQueue q x).copies = d.copies := rfl
@[simp] theorem Dev.setQueue_capFifo (q : Nat) (x : Queue) : (d.setQueue q x).capFifo = d.capFifo := rfl
@[simp] theorem Dev.setQueue_events (q : Nat) (x : Queue) : (d.setQueue q x).events = d.events := rfl
@[simp] theorem Dev.setQueue_tasks (q : Nat) (x : Queue) : (d.setQueue q x).tasks = d.tasks := rfl
@[simp] theorem Dev.setQueue_readyt (q : Nat) (x : Queue) : (d.setQueue q x).readyt = d.readyt := rfl
@[simp] theorem Dev.setQueue_waitq (q : Nat) (x : Queue) : (d.setQueue q x).waitq = d.waitq := rfl
@[simp] theorem Dev.setQueue_latches (q : Nat) (x : Queue) : (d.setQueue q x).latches = d.latches := rfl
@[simp] theorem Dev.setQueue_published (q : Nat) (x : Queue) : (d.setQueue q x).published = d.published := rfl
@[simp] theorem Dev.setQueue_changes (q : Nat) (x : Queue) : (d.setQueue q x).changes = d.changes := rfl
@[simp] theorem Dev.setQueue_pairOut (q : Nat) (x : Queue) : (d.setQueue q x).pairOut = d.pairOut := rfl
@[simp] theorem Dev.setQueue_hostOut (q : Nat) (x : Queue) : (d.setQueue q x).hostOut = d.hostOut := rfl
@[simp] theorem Dev.setQueue_plans (q : Nat) (x : Queue) : (d.setQueue q x).plans = d.plans := rfl
@[simp] theorem Dev.setQueue_paths (q : Nat) (x : Queue) : (d.setQueue q x).paths = d.paths := rfl
@[simp] theorem Dev.setQueue_sarq (q : Nat) (x : Queue) : (d.setQueue q x).sarq = d.sarq := rfl
@[simp] theorem Dev.setQueue_fsk (q : Nat) (x : Queue) : (d.setQueue q x).fsk = d.fsk := rfl
@[simp] theorem Dev.setQueue_olPend (q : Nat) (x : Queue) : (d.setQueue q x).olPend = d.olPend := rfl
@[simp] theorem Dev.setQueue_olSnap (q : Nat) (x : Queue) : (d.setQueue q x).olSnap = d.olSnap := rfl
@[simp] theorem Dev.setQueue_olRx (q : Nat) (x : Queue) : (d.setQueue q x).olRx = d.olRx := rfl
@[simp] theorem Dev.setQueue_olFrame (q : Nat) (x : Queue) : (d.setQueue q x).olFrame = d.olFrame := rfl
@[simp] theorem Dev.setQueue_ethTx (q : Nat) (x : Queue) : (d.setQueue q x).ethTx = d.ethTx := rfl
@[simp] theorem Dev.setQueue_ethTsq (q : Nat) (x : Queue) : (d.setQueue q x).ethTsq = d.ethTsq := rfl
@[simp] theorem Dev.setQueue_dcReady (q : Nat) (x : Queue) : (d.setQueue q x).dcReady = d.dcReady := rfl
@[simp] theorem Dev.setQueue_errHold (q : Nat) (x : Queue) : (d.setQueue q x).errHold = d.errHold := rfl
@[simp] theorem Dev.setQueue_sedHold (q : Nat) (x : Queue) : (d.setQueue q x).sedHold = d.sedHold := rfl
@[simp] theorem Dev.setQueue_sedOwn (q : Nat) (x : Queue) : (d.setQueue q x).sedOwn = d.sedOwn := rfl
@[simp] theorem Dev.setQueue_dirty (q : Nat) (x : Queue) : (d.setQueue q x).dirty = d.dirty := rfl
@[simp] theorem Dev.setQueue_carried (q : Nat) (x : Queue) : (d.setQueue q x).carried = d.carried := rfl
@[simp] theorem Dev.setQueue_psSet (q : Nat) (x : Queue) : (d.setQueue q x).psSet = d.psSet := rfl

/-! setPlan. -/

@[simp] theorem Dev.setPlan_regs (a : Nat) (p : Plan) : (d.setPlan a p).regs = d.regs := rfl
@[simp] theorem Dev.setPlan_shadow (a : Nat) (p : Plan) : (d.setPlan a p).shadow = d.shadow := rfl
@[simp] theorem Dev.setPlan_snap (a : Nat) (p : Plan) : (d.setPlan a p).snap = d.snap := rfl
@[simp] theorem Dev.setPlan_caps (a : Nat) (p : Plan) : (d.setPlan a p).caps = d.caps := rfl
@[simp] theorem Dev.setPlan_mem (a : Nat) (p : Plan) : (d.setPlan a p).mem = d.mem := rfl
@[simp] theorem Dev.setPlan_flash (a : Nat) (p : Plan) : (d.setPlan a p).flash = d.flash := rfl
@[simp] theorem Dev.setPlan_free (a : Nat) (p : Plan) : (d.setPlan a p).free = d.free := rfl
@[simp] theorem Dev.setPlan_banks (a : Nat) (p : Plan) : (d.setPlan a p).banks = d.banks := rfl
@[simp] theorem Dev.setPlan_net (a : Nat) (p : Plan) : (d.setPlan a p).net = d.net := rfl
@[simp] theorem Dev.setPlan_stalled (a : Nat) (p : Plan) : (d.setPlan a p).stalled = d.stalled := rfl
@[simp] theorem Dev.setPlan_backlog (a : Nat) (p : Plan) : (d.setPlan a p).backlog = d.backlog := rfl
@[simp] theorem Dev.setPlan_entries (a : Nat) (p : Plan) : (d.setPlan a p).entries = d.entries := rfl
@[simp] theorem Dev.setPlan_readyq (a : Nat) (p : Plan) : (d.setPlan a p).readyq = d.readyq := rfl
@[simp] theorem Dev.setPlan_fates (a : Nat) (p : Plan) : (d.setPlan a p).fates = d.fates := rfl
@[simp] theorem Dev.setPlan_stageVals (a : Nat) (p : Plan) : (d.setPlan a p).stageVals = d.stageVals := rfl
@[simp] theorem Dev.setPlan_admq (a : Nat) (p : Plan) : (d.setPlan a p).admq = d.admq := rfl
@[simp] theorem Dev.setPlan_copies (a : Nat) (p : Plan) : (d.setPlan a p).copies = d.copies := rfl
@[simp] theorem Dev.setPlan_capFifo (a : Nat) (p : Plan) : (d.setPlan a p).capFifo = d.capFifo := rfl
@[simp] theorem Dev.setPlan_events (a : Nat) (p : Plan) : (d.setPlan a p).events = d.events := rfl
@[simp] theorem Dev.setPlan_tasks (a : Nat) (p : Plan) : (d.setPlan a p).tasks = d.tasks := rfl
@[simp] theorem Dev.setPlan_readyt (a : Nat) (p : Plan) : (d.setPlan a p).readyt = d.readyt := rfl
@[simp] theorem Dev.setPlan_waitq (a : Nat) (p : Plan) : (d.setPlan a p).waitq = d.waitq := rfl
@[simp] theorem Dev.setPlan_queues (a : Nat) (p : Plan) : (d.setPlan a p).queues = d.queues := rfl
@[simp] theorem Dev.setPlan_latches (a : Nat) (p : Plan) : (d.setPlan a p).latches = d.latches := rfl
@[simp] theorem Dev.setPlan_published (a : Nat) (p : Plan) : (d.setPlan a p).published = d.published := rfl
@[simp] theorem Dev.setPlan_changes (a : Nat) (p : Plan) : (d.setPlan a p).changes = d.changes := rfl
@[simp] theorem Dev.setPlan_pairOut (a : Nat) (p : Plan) : (d.setPlan a p).pairOut = d.pairOut := rfl
@[simp] theorem Dev.setPlan_hostOut (a : Nat) (p : Plan) : (d.setPlan a p).hostOut = d.hostOut := rfl
@[simp] theorem Dev.setPlan_paths (a : Nat) (p : Plan) : (d.setPlan a p).paths = d.paths := rfl
@[simp] theorem Dev.setPlan_sarq (a : Nat) (p : Plan) : (d.setPlan a p).sarq = d.sarq := rfl
@[simp] theorem Dev.setPlan_fsk (a : Nat) (p : Plan) : (d.setPlan a p).fsk = d.fsk := rfl
@[simp] theorem Dev.setPlan_olPend (a : Nat) (p : Plan) : (d.setPlan a p).olPend = d.olPend := rfl
@[simp] theorem Dev.setPlan_olSnap (a : Nat) (p : Plan) : (d.setPlan a p).olSnap = d.olSnap := rfl
@[simp] theorem Dev.setPlan_olRx (a : Nat) (p : Plan) : (d.setPlan a p).olRx = d.olRx := rfl
@[simp] theorem Dev.setPlan_olFrame (a : Nat) (p : Plan) : (d.setPlan a p).olFrame = d.olFrame := rfl
@[simp] theorem Dev.setPlan_ethTx (a : Nat) (p : Plan) : (d.setPlan a p).ethTx = d.ethTx := rfl
@[simp] theorem Dev.setPlan_ethTsq (a : Nat) (p : Plan) : (d.setPlan a p).ethTsq = d.ethTsq := rfl
@[simp] theorem Dev.setPlan_dcReady (a : Nat) (p : Plan) : (d.setPlan a p).dcReady = d.dcReady := rfl
@[simp] theorem Dev.setPlan_errHold (a : Nat) (p : Plan) : (d.setPlan a p).errHold = d.errHold := rfl
@[simp] theorem Dev.setPlan_sedHold (a : Nat) (p : Plan) : (d.setPlan a p).sedHold = d.sedHold := rfl
@[simp] theorem Dev.setPlan_sedOwn (a : Nat) (p : Plan) : (d.setPlan a p).sedOwn = d.sedOwn := rfl
@[simp] theorem Dev.setPlan_dirty (a : Nat) (p : Plan) : (d.setPlan a p).dirty = d.dirty := rfl
@[simp] theorem Dev.setPlan_carried (a : Nat) (p : Plan) : (d.setPlan a p).carried = d.carried := rfl
@[simp] theorem Dev.setPlan_psSet (a : Nat) (p : Plan) : (d.setPlan a p).psSet = d.psSet := rfl

/-! setPath. -/

@[simp] theorem Dev.setPath_regs (g : Nat) (p : Path) : (d.setPath g p).regs = d.regs := rfl
@[simp] theorem Dev.setPath_shadow (g : Nat) (p : Path) : (d.setPath g p).shadow = d.shadow := rfl
@[simp] theorem Dev.setPath_snap (g : Nat) (p : Path) : (d.setPath g p).snap = d.snap := rfl
@[simp] theorem Dev.setPath_caps (g : Nat) (p : Path) : (d.setPath g p).caps = d.caps := rfl
@[simp] theorem Dev.setPath_mem (g : Nat) (p : Path) : (d.setPath g p).mem = d.mem := rfl
@[simp] theorem Dev.setPath_flash (g : Nat) (p : Path) : (d.setPath g p).flash = d.flash := rfl
@[simp] theorem Dev.setPath_free (g : Nat) (p : Path) : (d.setPath g p).free = d.free := rfl
@[simp] theorem Dev.setPath_banks (g : Nat) (p : Path) : (d.setPath g p).banks = d.banks := rfl
@[simp] theorem Dev.setPath_net (g : Nat) (p : Path) : (d.setPath g p).net = d.net := rfl
@[simp] theorem Dev.setPath_stalled (g : Nat) (p : Path) : (d.setPath g p).stalled = d.stalled := rfl
@[simp] theorem Dev.setPath_backlog (g : Nat) (p : Path) : (d.setPath g p).backlog = d.backlog := rfl
@[simp] theorem Dev.setPath_entries (g : Nat) (p : Path) : (d.setPath g p).entries = d.entries := rfl
@[simp] theorem Dev.setPath_readyq (g : Nat) (p : Path) : (d.setPath g p).readyq = d.readyq := rfl
@[simp] theorem Dev.setPath_fates (g : Nat) (p : Path) : (d.setPath g p).fates = d.fates := rfl
@[simp] theorem Dev.setPath_stageVals (g : Nat) (p : Path) : (d.setPath g p).stageVals = d.stageVals := rfl
@[simp] theorem Dev.setPath_admq (g : Nat) (p : Path) : (d.setPath g p).admq = d.admq := rfl
@[simp] theorem Dev.setPath_copies (g : Nat) (p : Path) : (d.setPath g p).copies = d.copies := rfl
@[simp] theorem Dev.setPath_capFifo (g : Nat) (p : Path) : (d.setPath g p).capFifo = d.capFifo := rfl
@[simp] theorem Dev.setPath_events (g : Nat) (p : Path) : (d.setPath g p).events = d.events := rfl
@[simp] theorem Dev.setPath_tasks (g : Nat) (p : Path) : (d.setPath g p).tasks = d.tasks := rfl
@[simp] theorem Dev.setPath_readyt (g : Nat) (p : Path) : (d.setPath g p).readyt = d.readyt := rfl
@[simp] theorem Dev.setPath_waitq (g : Nat) (p : Path) : (d.setPath g p).waitq = d.waitq := rfl
@[simp] theorem Dev.setPath_queues (g : Nat) (p : Path) : (d.setPath g p).queues = d.queues := rfl
@[simp] theorem Dev.setPath_latches (g : Nat) (p : Path) : (d.setPath g p).latches = d.latches := rfl
@[simp] theorem Dev.setPath_published (g : Nat) (p : Path) : (d.setPath g p).published = d.published := rfl
@[simp] theorem Dev.setPath_changes (g : Nat) (p : Path) : (d.setPath g p).changes = d.changes := rfl
@[simp] theorem Dev.setPath_pairOut (g : Nat) (p : Path) : (d.setPath g p).pairOut = d.pairOut := rfl
@[simp] theorem Dev.setPath_hostOut (g : Nat) (p : Path) : (d.setPath g p).hostOut = d.hostOut := rfl
@[simp] theorem Dev.setPath_plans (g : Nat) (p : Path) : (d.setPath g p).plans = d.plans := rfl
@[simp] theorem Dev.setPath_sarq (g : Nat) (p : Path) : (d.setPath g p).sarq = d.sarq := rfl
@[simp] theorem Dev.setPath_fsk (g : Nat) (p : Path) : (d.setPath g p).fsk = d.fsk := rfl
@[simp] theorem Dev.setPath_olPend (g : Nat) (p : Path) : (d.setPath g p).olPend = d.olPend := rfl
@[simp] theorem Dev.setPath_olSnap (g : Nat) (p : Path) : (d.setPath g p).olSnap = d.olSnap := rfl
@[simp] theorem Dev.setPath_olRx (g : Nat) (p : Path) : (d.setPath g p).olRx = d.olRx := rfl
@[simp] theorem Dev.setPath_olFrame (g : Nat) (p : Path) : (d.setPath g p).olFrame = d.olFrame := rfl
@[simp] theorem Dev.setPath_ethTx (g : Nat) (p : Path) : (d.setPath g p).ethTx = d.ethTx := rfl
@[simp] theorem Dev.setPath_ethTsq (g : Nat) (p : Path) : (d.setPath g p).ethTsq = d.ethTsq := rfl
@[simp] theorem Dev.setPath_dcReady (g : Nat) (p : Path) : (d.setPath g p).dcReady = d.dcReady := rfl
@[simp] theorem Dev.setPath_errHold (g : Nat) (p : Path) : (d.setPath g p).errHold = d.errHold := rfl
@[simp] theorem Dev.setPath_sedHold (g : Nat) (p : Path) : (d.setPath g p).sedHold = d.sedHold := rfl
@[simp] theorem Dev.setPath_sedOwn (g : Nat) (p : Path) : (d.setPath g p).sedOwn = d.sedOwn := rfl
@[simp] theorem Dev.setPath_dirty (g : Nat) (p : Path) : (d.setPath g p).dirty = d.dirty := rfl
@[simp] theorem Dev.setPath_carried (g : Nat) (p : Path) : (d.setPath g p).carried = d.carried := rfl
@[simp] theorem Dev.setPath_psSet (g : Nat) (p : Path) : (d.setPath g p).psSet = d.psSet := rfl

/-! setFsk. -/

@[simp] theorem Dev.setFsk_regs (b : Nat) (x : Fsk) : (d.setFsk b x).regs = d.regs := rfl
@[simp] theorem Dev.setFsk_shadow (b : Nat) (x : Fsk) : (d.setFsk b x).shadow = d.shadow := rfl
@[simp] theorem Dev.setFsk_snap (b : Nat) (x : Fsk) : (d.setFsk b x).snap = d.snap := rfl
@[simp] theorem Dev.setFsk_caps (b : Nat) (x : Fsk) : (d.setFsk b x).caps = d.caps := rfl
@[simp] theorem Dev.setFsk_mem (b : Nat) (x : Fsk) : (d.setFsk b x).mem = d.mem := rfl
@[simp] theorem Dev.setFsk_flash (b : Nat) (x : Fsk) : (d.setFsk b x).flash = d.flash := rfl
@[simp] theorem Dev.setFsk_free (b : Nat) (x : Fsk) : (d.setFsk b x).free = d.free := rfl
@[simp] theorem Dev.setFsk_banks (b : Nat) (x : Fsk) : (d.setFsk b x).banks = d.banks := rfl
@[simp] theorem Dev.setFsk_net (b : Nat) (x : Fsk) : (d.setFsk b x).net = d.net := rfl
@[simp] theorem Dev.setFsk_stalled (b : Nat) (x : Fsk) : (d.setFsk b x).stalled = d.stalled := rfl
@[simp] theorem Dev.setFsk_backlog (b : Nat) (x : Fsk) : (d.setFsk b x).backlog = d.backlog := rfl
@[simp] theorem Dev.setFsk_entries (b : Nat) (x : Fsk) : (d.setFsk b x).entries = d.entries := rfl
@[simp] theorem Dev.setFsk_readyq (b : Nat) (x : Fsk) : (d.setFsk b x).readyq = d.readyq := rfl
@[simp] theorem Dev.setFsk_fates (b : Nat) (x : Fsk) : (d.setFsk b x).fates = d.fates := rfl
@[simp] theorem Dev.setFsk_stageVals (b : Nat) (x : Fsk) : (d.setFsk b x).stageVals = d.stageVals := rfl
@[simp] theorem Dev.setFsk_admq (b : Nat) (x : Fsk) : (d.setFsk b x).admq = d.admq := rfl
@[simp] theorem Dev.setFsk_copies (b : Nat) (x : Fsk) : (d.setFsk b x).copies = d.copies := rfl
@[simp] theorem Dev.setFsk_capFifo (b : Nat) (x : Fsk) : (d.setFsk b x).capFifo = d.capFifo := rfl
@[simp] theorem Dev.setFsk_events (b : Nat) (x : Fsk) : (d.setFsk b x).events = d.events := rfl
@[simp] theorem Dev.setFsk_tasks (b : Nat) (x : Fsk) : (d.setFsk b x).tasks = d.tasks := rfl
@[simp] theorem Dev.setFsk_readyt (b : Nat) (x : Fsk) : (d.setFsk b x).readyt = d.readyt := rfl
@[simp] theorem Dev.setFsk_waitq (b : Nat) (x : Fsk) : (d.setFsk b x).waitq = d.waitq := rfl
@[simp] theorem Dev.setFsk_queues (b : Nat) (x : Fsk) : (d.setFsk b x).queues = d.queues := rfl
@[simp] theorem Dev.setFsk_latches (b : Nat) (x : Fsk) : (d.setFsk b x).latches = d.latches := rfl
@[simp] theorem Dev.setFsk_published (b : Nat) (x : Fsk) : (d.setFsk b x).published = d.published := rfl
@[simp] theorem Dev.setFsk_changes (b : Nat) (x : Fsk) : (d.setFsk b x).changes = d.changes := rfl
@[simp] theorem Dev.setFsk_pairOut (b : Nat) (x : Fsk) : (d.setFsk b x).pairOut = d.pairOut := rfl
@[simp] theorem Dev.setFsk_hostOut (b : Nat) (x : Fsk) : (d.setFsk b x).hostOut = d.hostOut := rfl
@[simp] theorem Dev.setFsk_plans (b : Nat) (x : Fsk) : (d.setFsk b x).plans = d.plans := rfl
@[simp] theorem Dev.setFsk_paths (b : Nat) (x : Fsk) : (d.setFsk b x).paths = d.paths := rfl
@[simp] theorem Dev.setFsk_sarq (b : Nat) (x : Fsk) : (d.setFsk b x).sarq = d.sarq := rfl
@[simp] theorem Dev.setFsk_olPend (b : Nat) (x : Fsk) : (d.setFsk b x).olPend = d.olPend := rfl
@[simp] theorem Dev.setFsk_olSnap (b : Nat) (x : Fsk) : (d.setFsk b x).olSnap = d.olSnap := rfl
@[simp] theorem Dev.setFsk_olRx (b : Nat) (x : Fsk) : (d.setFsk b x).olRx = d.olRx := rfl
@[simp] theorem Dev.setFsk_olFrame (b : Nat) (x : Fsk) : (d.setFsk b x).olFrame = d.olFrame := rfl
@[simp] theorem Dev.setFsk_ethTx (b : Nat) (x : Fsk) : (d.setFsk b x).ethTx = d.ethTx := rfl
@[simp] theorem Dev.setFsk_ethTsq (b : Nat) (x : Fsk) : (d.setFsk b x).ethTsq = d.ethTsq := rfl
@[simp] theorem Dev.setFsk_dcReady (b : Nat) (x : Fsk) : (d.setFsk b x).dcReady = d.dcReady := rfl
@[simp] theorem Dev.setFsk_errHold (b : Nat) (x : Fsk) : (d.setFsk b x).errHold = d.errHold := rfl
@[simp] theorem Dev.setFsk_sedHold (b : Nat) (x : Fsk) : (d.setFsk b x).sedHold = d.sedHold := rfl
@[simp] theorem Dev.setFsk_sedOwn (b : Nat) (x : Fsk) : (d.setFsk b x).sedOwn = d.sedOwn := rfl
@[simp] theorem Dev.setFsk_dirty (b : Nat) (x : Fsk) : (d.setFsk b x).dirty = d.dirty := rfl
@[simp] theorem Dev.setFsk_carried (b : Nat) (x : Fsk) : (d.setFsk b x).carried = d.carried := rfl
@[simp] theorem Dev.setFsk_psSet (b : Nat) (x : Fsk) : (d.setFsk b x).psSet = d.psSet := rfl

/-! setTsq. -/

@[simp] theorem Dev.setTsq_regs (p : Nat) (l : List (Nat × Nat)) : (d.setTsq p l).regs = d.regs := rfl
@[simp] theorem Dev.setTsq_shadow (p : Nat) (l : List (Nat × Nat)) : (d.setTsq p l).shadow = d.shadow := rfl
@[simp] theorem Dev.setTsq_snap (p : Nat) (l : List (Nat × Nat)) : (d.setTsq p l).snap = d.snap := rfl
@[simp] theorem Dev.setTsq_caps (p : Nat) (l : List (Nat × Nat)) : (d.setTsq p l).caps = d.caps := rfl
@[simp] theorem Dev.setTsq_mem (p : Nat) (l : List (Nat × Nat)) : (d.setTsq p l).mem = d.mem := rfl
@[simp] theorem Dev.setTsq_flash (p : Nat) (l : List (Nat × Nat)) : (d.setTsq p l).flash = d.flash := rfl
@[simp] theorem Dev.setTsq_free (p : Nat) (l : List (Nat × Nat)) : (d.setTsq p l).free = d.free := rfl
@[simp] theorem Dev.setTsq_banks (p : Nat) (l : List (Nat × Nat)) : (d.setTsq p l).banks = d.banks := rfl
@[simp] theorem Dev.setTsq_net (p : Nat) (l : List (Nat × Nat)) : (d.setTsq p l).net = d.net := rfl
@[simp] theorem Dev.setTsq_stalled (p : Nat) (l : List (Nat × Nat)) : (d.setTsq p l).stalled = d.stalled := rfl
@[simp] theorem Dev.setTsq_backlog (p : Nat) (l : List (Nat × Nat)) : (d.setTsq p l).backlog = d.backlog := rfl
@[simp] theorem Dev.setTsq_entries (p : Nat) (l : List (Nat × Nat)) : (d.setTsq p l).entries = d.entries := rfl
@[simp] theorem Dev.setTsq_readyq (p : Nat) (l : List (Nat × Nat)) : (d.setTsq p l).readyq = d.readyq := rfl
@[simp] theorem Dev.setTsq_fates (p : Nat) (l : List (Nat × Nat)) : (d.setTsq p l).fates = d.fates := rfl
@[simp] theorem Dev.setTsq_stageVals (p : Nat) (l : List (Nat × Nat)) : (d.setTsq p l).stageVals = d.stageVals := rfl
@[simp] theorem Dev.setTsq_admq (p : Nat) (l : List (Nat × Nat)) : (d.setTsq p l).admq = d.admq := rfl
@[simp] theorem Dev.setTsq_copies (p : Nat) (l : List (Nat × Nat)) : (d.setTsq p l).copies = d.copies := rfl
@[simp] theorem Dev.setTsq_capFifo (p : Nat) (l : List (Nat × Nat)) : (d.setTsq p l).capFifo = d.capFifo := rfl
@[simp] theorem Dev.setTsq_events (p : Nat) (l : List (Nat × Nat)) : (d.setTsq p l).events = d.events := rfl
@[simp] theorem Dev.setTsq_tasks (p : Nat) (l : List (Nat × Nat)) : (d.setTsq p l).tasks = d.tasks := rfl
@[simp] theorem Dev.setTsq_readyt (p : Nat) (l : List (Nat × Nat)) : (d.setTsq p l).readyt = d.readyt := rfl
@[simp] theorem Dev.setTsq_waitq (p : Nat) (l : List (Nat × Nat)) : (d.setTsq p l).waitq = d.waitq := rfl
@[simp] theorem Dev.setTsq_queues (p : Nat) (l : List (Nat × Nat)) : (d.setTsq p l).queues = d.queues := rfl
@[simp] theorem Dev.setTsq_latches (p : Nat) (l : List (Nat × Nat)) : (d.setTsq p l).latches = d.latches := rfl
@[simp] theorem Dev.setTsq_published (p : Nat) (l : List (Nat × Nat)) : (d.setTsq p l).published = d.published := rfl
@[simp] theorem Dev.setTsq_changes (p : Nat) (l : List (Nat × Nat)) : (d.setTsq p l).changes = d.changes := rfl
@[simp] theorem Dev.setTsq_pairOut (p : Nat) (l : List (Nat × Nat)) : (d.setTsq p l).pairOut = d.pairOut := rfl
@[simp] theorem Dev.setTsq_hostOut (p : Nat) (l : List (Nat × Nat)) : (d.setTsq p l).hostOut = d.hostOut := rfl
@[simp] theorem Dev.setTsq_plans (p : Nat) (l : List (Nat × Nat)) : (d.setTsq p l).plans = d.plans := rfl
@[simp] theorem Dev.setTsq_paths (p : Nat) (l : List (Nat × Nat)) : (d.setTsq p l).paths = d.paths := rfl
@[simp] theorem Dev.setTsq_sarq (p : Nat) (l : List (Nat × Nat)) : (d.setTsq p l).sarq = d.sarq := rfl
@[simp] theorem Dev.setTsq_fsk (p : Nat) (l : List (Nat × Nat)) : (d.setTsq p l).fsk = d.fsk := rfl
@[simp] theorem Dev.setTsq_olPend (p : Nat) (l : List (Nat × Nat)) : (d.setTsq p l).olPend = d.olPend := rfl
@[simp] theorem Dev.setTsq_olSnap (p : Nat) (l : List (Nat × Nat)) : (d.setTsq p l).olSnap = d.olSnap := rfl
@[simp] theorem Dev.setTsq_olRx (p : Nat) (l : List (Nat × Nat)) : (d.setTsq p l).olRx = d.olRx := rfl
@[simp] theorem Dev.setTsq_olFrame (p : Nat) (l : List (Nat × Nat)) : (d.setTsq p l).olFrame = d.olFrame := rfl
@[simp] theorem Dev.setTsq_ethTx (p : Nat) (l : List (Nat × Nat)) : (d.setTsq p l).ethTx = d.ethTx := rfl
@[simp] theorem Dev.setTsq_dcReady (p : Nat) (l : List (Nat × Nat)) : (d.setTsq p l).dcReady = d.dcReady := rfl
@[simp] theorem Dev.setTsq_errHold (p : Nat) (l : List (Nat × Nat)) : (d.setTsq p l).errHold = d.errHold := rfl
@[simp] theorem Dev.setTsq_sedHold (p : Nat) (l : List (Nat × Nat)) : (d.setTsq p l).sedHold = d.sedHold := rfl
@[simp] theorem Dev.setTsq_sedOwn (p : Nat) (l : List (Nat × Nat)) : (d.setTsq p l).sedOwn = d.sedOwn := rfl
@[simp] theorem Dev.setTsq_dirty (p : Nat) (l : List (Nat × Nat)) : (d.setTsq p l).dirty = d.dirty := rfl
@[simp] theorem Dev.setTsq_carried (p : Nat) (l : List (Nat × Nat)) : (d.setTsq p l).carried = d.carried := rfl
@[simp] theorem Dev.setTsq_psSet (p : Nat) (l : List (Nat × Nat)) : (d.setTsq p l).psSet = d.psSet := rfl

/-! postHost. -/

@[simp] theorem Dev.postHost_regs (addr len v : Nat) : (d.postHost addr len v).regs = d.regs := rfl
@[simp] theorem Dev.postHost_shadow (addr len v : Nat) : (d.postHost addr len v).shadow = d.shadow := rfl
@[simp] theorem Dev.postHost_snap (addr len v : Nat) : (d.postHost addr len v).snap = d.snap := rfl
@[simp] theorem Dev.postHost_caps (addr len v : Nat) : (d.postHost addr len v).caps = d.caps := rfl
@[simp] theorem Dev.postHost_mem (addr len v : Nat) : (d.postHost addr len v).mem = d.mem := rfl
@[simp] theorem Dev.postHost_flash (addr len v : Nat) : (d.postHost addr len v).flash = d.flash := rfl
@[simp] theorem Dev.postHost_free (addr len v : Nat) : (d.postHost addr len v).free = d.free := rfl
@[simp] theorem Dev.postHost_banks (addr len v : Nat) : (d.postHost addr len v).banks = d.banks := rfl
@[simp] theorem Dev.postHost_net (addr len v : Nat) : (d.postHost addr len v).net = d.net := rfl
@[simp] theorem Dev.postHost_stalled (addr len v : Nat) : (d.postHost addr len v).stalled = d.stalled := rfl
@[simp] theorem Dev.postHost_backlog (addr len v : Nat) : (d.postHost addr len v).backlog = d.backlog := rfl
@[simp] theorem Dev.postHost_entries (addr len v : Nat) : (d.postHost addr len v).entries = d.entries := rfl
@[simp] theorem Dev.postHost_readyq (addr len v : Nat) : (d.postHost addr len v).readyq = d.readyq := rfl
@[simp] theorem Dev.postHost_fates (addr len v : Nat) : (d.postHost addr len v).fates = d.fates := rfl
@[simp] theorem Dev.postHost_stageVals (addr len v : Nat) : (d.postHost addr len v).stageVals = d.stageVals := rfl
@[simp] theorem Dev.postHost_admq (addr len v : Nat) : (d.postHost addr len v).admq = d.admq := rfl
@[simp] theorem Dev.postHost_copies (addr len v : Nat) : (d.postHost addr len v).copies = d.copies := rfl
@[simp] theorem Dev.postHost_capFifo (addr len v : Nat) : (d.postHost addr len v).capFifo = d.capFifo := rfl
@[simp] theorem Dev.postHost_events (addr len v : Nat) : (d.postHost addr len v).events = d.events := rfl
@[simp] theorem Dev.postHost_tasks (addr len v : Nat) : (d.postHost addr len v).tasks = d.tasks := rfl
@[simp] theorem Dev.postHost_readyt (addr len v : Nat) : (d.postHost addr len v).readyt = d.readyt := rfl
@[simp] theorem Dev.postHost_waitq (addr len v : Nat) : (d.postHost addr len v).waitq = d.waitq := rfl
@[simp] theorem Dev.postHost_queues (addr len v : Nat) : (d.postHost addr len v).queues = d.queues := rfl
@[simp] theorem Dev.postHost_latches (addr len v : Nat) : (d.postHost addr len v).latches = d.latches := rfl
@[simp] theorem Dev.postHost_published (addr len v : Nat) : (d.postHost addr len v).published = d.published := rfl
@[simp] theorem Dev.postHost_changes (addr len v : Nat) : (d.postHost addr len v).changes = d.changes := rfl
@[simp] theorem Dev.postHost_pairOut (addr len v : Nat) : (d.postHost addr len v).pairOut = d.pairOut := rfl
@[simp] theorem Dev.postHost_plans (addr len v : Nat) : (d.postHost addr len v).plans = d.plans := rfl
@[simp] theorem Dev.postHost_paths (addr len v : Nat) : (d.postHost addr len v).paths = d.paths := rfl
@[simp] theorem Dev.postHost_sarq (addr len v : Nat) : (d.postHost addr len v).sarq = d.sarq := rfl
@[simp] theorem Dev.postHost_fsk (addr len v : Nat) : (d.postHost addr len v).fsk = d.fsk := rfl
@[simp] theorem Dev.postHost_olPend (addr len v : Nat) : (d.postHost addr len v).olPend = d.olPend := rfl
@[simp] theorem Dev.postHost_olSnap (addr len v : Nat) : (d.postHost addr len v).olSnap = d.olSnap := rfl
@[simp] theorem Dev.postHost_olRx (addr len v : Nat) : (d.postHost addr len v).olRx = d.olRx := rfl
@[simp] theorem Dev.postHost_olFrame (addr len v : Nat) : (d.postHost addr len v).olFrame = d.olFrame := rfl
@[simp] theorem Dev.postHost_ethTx (addr len v : Nat) : (d.postHost addr len v).ethTx = d.ethTx := rfl
@[simp] theorem Dev.postHost_ethTsq (addr len v : Nat) : (d.postHost addr len v).ethTsq = d.ethTsq := rfl
@[simp] theorem Dev.postHost_dcReady (addr len v : Nat) : (d.postHost addr len v).dcReady = d.dcReady := rfl
@[simp] theorem Dev.postHost_errHold (addr len v : Nat) : (d.postHost addr len v).errHold = d.errHold := rfl
@[simp] theorem Dev.postHost_sedHold (addr len v : Nat) : (d.postHost addr len v).sedHold = d.sedHold := rfl
@[simp] theorem Dev.postHost_sedOwn (addr len v : Nat) : (d.postHost addr len v).sedOwn = d.sedOwn := rfl
@[simp] theorem Dev.postHost_dirty (addr len v : Nat) : (d.postHost addr len v).dirty = d.dirty := rfl
@[simp] theorem Dev.postHost_carried (addr len v : Nat) : (d.postHost addr len v).carried = d.carried := rfl
@[simp] theorem Dev.postHost_psSet (addr len v : Nat) : (d.postHost addr len v).psSet = d.psSet := rfl

/-! sendPair. -/

@[simp] theorem Dev.sendPair_regs (m : PairMsg) : (d.sendPair m).regs = d.regs := rfl
@[simp] theorem Dev.sendPair_shadow (m : PairMsg) : (d.sendPair m).shadow = d.shadow := rfl
@[simp] theorem Dev.sendPair_snap (m : PairMsg) : (d.sendPair m).snap = d.snap := rfl
@[simp] theorem Dev.sendPair_caps (m : PairMsg) : (d.sendPair m).caps = d.caps := rfl
@[simp] theorem Dev.sendPair_mem (m : PairMsg) : (d.sendPair m).mem = d.mem := rfl
@[simp] theorem Dev.sendPair_flash (m : PairMsg) : (d.sendPair m).flash = d.flash := rfl
@[simp] theorem Dev.sendPair_free (m : PairMsg) : (d.sendPair m).free = d.free := rfl
@[simp] theorem Dev.sendPair_banks (m : PairMsg) : (d.sendPair m).banks = d.banks := rfl
@[simp] theorem Dev.sendPair_net (m : PairMsg) : (d.sendPair m).net = d.net := rfl
@[simp] theorem Dev.sendPair_stalled (m : PairMsg) : (d.sendPair m).stalled = d.stalled := rfl
@[simp] theorem Dev.sendPair_backlog (m : PairMsg) : (d.sendPair m).backlog = d.backlog := rfl
@[simp] theorem Dev.sendPair_entries (m : PairMsg) : (d.sendPair m).entries = d.entries := rfl
@[simp] theorem Dev.sendPair_readyq (m : PairMsg) : (d.sendPair m).readyq = d.readyq := rfl
@[simp] theorem Dev.sendPair_fates (m : PairMsg) : (d.sendPair m).fates = d.fates := rfl
@[simp] theorem Dev.sendPair_stageVals (m : PairMsg) : (d.sendPair m).stageVals = d.stageVals := rfl
@[simp] theorem Dev.sendPair_admq (m : PairMsg) : (d.sendPair m).admq = d.admq := rfl
@[simp] theorem Dev.sendPair_copies (m : PairMsg) : (d.sendPair m).copies = d.copies := rfl
@[simp] theorem Dev.sendPair_capFifo (m : PairMsg) : (d.sendPair m).capFifo = d.capFifo := rfl
@[simp] theorem Dev.sendPair_events (m : PairMsg) : (d.sendPair m).events = d.events := rfl
@[simp] theorem Dev.sendPair_tasks (m : PairMsg) : (d.sendPair m).tasks = d.tasks := rfl
@[simp] theorem Dev.sendPair_readyt (m : PairMsg) : (d.sendPair m).readyt = d.readyt := rfl
@[simp] theorem Dev.sendPair_waitq (m : PairMsg) : (d.sendPair m).waitq = d.waitq := rfl
@[simp] theorem Dev.sendPair_queues (m : PairMsg) : (d.sendPair m).queues = d.queues := rfl
@[simp] theorem Dev.sendPair_latches (m : PairMsg) : (d.sendPair m).latches = d.latches := rfl
@[simp] theorem Dev.sendPair_published (m : PairMsg) : (d.sendPair m).published = d.published := rfl
@[simp] theorem Dev.sendPair_changes (m : PairMsg) : (d.sendPair m).changes = d.changes := rfl
@[simp] theorem Dev.sendPair_hostOut (m : PairMsg) : (d.sendPair m).hostOut = d.hostOut := rfl
@[simp] theorem Dev.sendPair_plans (m : PairMsg) : (d.sendPair m).plans = d.plans := rfl
@[simp] theorem Dev.sendPair_paths (m : PairMsg) : (d.sendPair m).paths = d.paths := rfl
@[simp] theorem Dev.sendPair_sarq (m : PairMsg) : (d.sendPair m).sarq = d.sarq := rfl
@[simp] theorem Dev.sendPair_fsk (m : PairMsg) : (d.sendPair m).fsk = d.fsk := rfl
@[simp] theorem Dev.sendPair_olPend (m : PairMsg) : (d.sendPair m).olPend = d.olPend := rfl
@[simp] theorem Dev.sendPair_olSnap (m : PairMsg) : (d.sendPair m).olSnap = d.olSnap := rfl
@[simp] theorem Dev.sendPair_olRx (m : PairMsg) : (d.sendPair m).olRx = d.olRx := rfl
@[simp] theorem Dev.sendPair_olFrame (m : PairMsg) : (d.sendPair m).olFrame = d.olFrame := rfl
@[simp] theorem Dev.sendPair_ethTx (m : PairMsg) : (d.sendPair m).ethTx = d.ethTx := rfl
@[simp] theorem Dev.sendPair_ethTsq (m : PairMsg) : (d.sendPair m).ethTsq = d.ethTsq := rfl
@[simp] theorem Dev.sendPair_dcReady (m : PairMsg) : (d.sendPair m).dcReady = d.dcReady := rfl
@[simp] theorem Dev.sendPair_errHold (m : PairMsg) : (d.sendPair m).errHold = d.errHold := rfl
@[simp] theorem Dev.sendPair_sedHold (m : PairMsg) : (d.sendPair m).sedHold = d.sedHold := rfl
@[simp] theorem Dev.sendPair_sedOwn (m : PairMsg) : (d.sendPair m).sedOwn = d.sedOwn := rfl
@[simp] theorem Dev.sendPair_dirty (m : PairMsg) : (d.sendPair m).dirty = d.dirty := rfl
@[simp] theorem Dev.sendPair_carried (m : PairMsg) : (d.sendPair m).carried = d.carried := rfl
@[simp] theorem Dev.sendPair_psSet (m : PairMsg) : (d.sendPair m).psSet = d.psSet := rfl

/-! capture. -/

@[simp] theorem Dev.capture_regs (l : List (F × Nat × Nat)) : (d.capture l).regs = d.regs := rfl
@[simp] theorem Dev.capture_shadow (l : List (F × Nat × Nat)) : (d.capture l).shadow = d.shadow := rfl
@[simp] theorem Dev.capture_snap (l : List (F × Nat × Nat)) : (d.capture l).snap = d.snap := rfl
@[simp] theorem Dev.capture_mem (l : List (F × Nat × Nat)) : (d.capture l).mem = d.mem := rfl
@[simp] theorem Dev.capture_flash (l : List (F × Nat × Nat)) : (d.capture l).flash = d.flash := rfl
@[simp] theorem Dev.capture_free (l : List (F × Nat × Nat)) : (d.capture l).free = d.free := rfl
@[simp] theorem Dev.capture_banks (l : List (F × Nat × Nat)) : (d.capture l).banks = d.banks := rfl
@[simp] theorem Dev.capture_net (l : List (F × Nat × Nat)) : (d.capture l).net = d.net := rfl
@[simp] theorem Dev.capture_stalled (l : List (F × Nat × Nat)) : (d.capture l).stalled = d.stalled := rfl
@[simp] theorem Dev.capture_backlog (l : List (F × Nat × Nat)) : (d.capture l).backlog = d.backlog := rfl
@[simp] theorem Dev.capture_entries (l : List (F × Nat × Nat)) : (d.capture l).entries = d.entries := rfl
@[simp] theorem Dev.capture_readyq (l : List (F × Nat × Nat)) : (d.capture l).readyq = d.readyq := rfl
@[simp] theorem Dev.capture_fates (l : List (F × Nat × Nat)) : (d.capture l).fates = d.fates := rfl
@[simp] theorem Dev.capture_stageVals (l : List (F × Nat × Nat)) : (d.capture l).stageVals = d.stageVals := rfl
@[simp] theorem Dev.capture_admq (l : List (F × Nat × Nat)) : (d.capture l).admq = d.admq := rfl
@[simp] theorem Dev.capture_copies (l : List (F × Nat × Nat)) : (d.capture l).copies = d.copies := rfl
@[simp] theorem Dev.capture_capFifo (l : List (F × Nat × Nat)) : (d.capture l).capFifo = d.capFifo := rfl
@[simp] theorem Dev.capture_events (l : List (F × Nat × Nat)) : (d.capture l).events = d.events := rfl
@[simp] theorem Dev.capture_tasks (l : List (F × Nat × Nat)) : (d.capture l).tasks = d.tasks := rfl
@[simp] theorem Dev.capture_readyt (l : List (F × Nat × Nat)) : (d.capture l).readyt = d.readyt := rfl
@[simp] theorem Dev.capture_waitq (l : List (F × Nat × Nat)) : (d.capture l).waitq = d.waitq := rfl
@[simp] theorem Dev.capture_queues (l : List (F × Nat × Nat)) : (d.capture l).queues = d.queues := rfl
@[simp] theorem Dev.capture_latches (l : List (F × Nat × Nat)) : (d.capture l).latches = d.latches := rfl
@[simp] theorem Dev.capture_published (l : List (F × Nat × Nat)) : (d.capture l).published = d.published := rfl
@[simp] theorem Dev.capture_changes (l : List (F × Nat × Nat)) : (d.capture l).changes = d.changes := rfl
@[simp] theorem Dev.capture_pairOut (l : List (F × Nat × Nat)) : (d.capture l).pairOut = d.pairOut := rfl
@[simp] theorem Dev.capture_hostOut (l : List (F × Nat × Nat)) : (d.capture l).hostOut = d.hostOut := rfl
@[simp] theorem Dev.capture_plans (l : List (F × Nat × Nat)) : (d.capture l).plans = d.plans := rfl
@[simp] theorem Dev.capture_paths (l : List (F × Nat × Nat)) : (d.capture l).paths = d.paths := rfl
@[simp] theorem Dev.capture_sarq (l : List (F × Nat × Nat)) : (d.capture l).sarq = d.sarq := rfl
@[simp] theorem Dev.capture_fsk (l : List (F × Nat × Nat)) : (d.capture l).fsk = d.fsk := rfl
@[simp] theorem Dev.capture_olPend (l : List (F × Nat × Nat)) : (d.capture l).olPend = d.olPend := rfl
@[simp] theorem Dev.capture_olSnap (l : List (F × Nat × Nat)) : (d.capture l).olSnap = d.olSnap := rfl
@[simp] theorem Dev.capture_olRx (l : List (F × Nat × Nat)) : (d.capture l).olRx = d.olRx := rfl
@[simp] theorem Dev.capture_olFrame (l : List (F × Nat × Nat)) : (d.capture l).olFrame = d.olFrame := rfl
@[simp] theorem Dev.capture_ethTx (l : List (F × Nat × Nat)) : (d.capture l).ethTx = d.ethTx := rfl
@[simp] theorem Dev.capture_ethTsq (l : List (F × Nat × Nat)) : (d.capture l).ethTsq = d.ethTsq := rfl
@[simp] theorem Dev.capture_dcReady (l : List (F × Nat × Nat)) : (d.capture l).dcReady = d.dcReady := rfl
@[simp] theorem Dev.capture_errHold (l : List (F × Nat × Nat)) : (d.capture l).errHold = d.errHold := rfl
@[simp] theorem Dev.capture_sedHold (l : List (F × Nat × Nat)) : (d.capture l).sedHold = d.sedHold := rfl
@[simp] theorem Dev.capture_sedOwn (l : List (F × Nat × Nat)) : (d.capture l).sedOwn = d.sedOwn := rfl
@[simp] theorem Dev.capture_dirty (l : List (F × Nat × Nat)) : (d.capture l).dirty = d.dirty := rfl
@[simp] theorem Dev.capture_carried (l : List (F × Nat × Nat)) : (d.capture l).carried = d.carried := rfl
@[simp] theorem Dev.capture_psSet (l : List (F × Nat × Nat)) : (d.capture l).psSet = d.psSet := rfl

/-! report. -/

@[simp] theorem Dev.report_shadow (sev src code data : Nat) : (d.report sev src code data).shadow = d.shadow := rfl
@[simp] theorem Dev.report_snap (sev src code data : Nat) : (d.report sev src code data).snap = d.snap := rfl
@[simp] theorem Dev.report_caps (sev src code data : Nat) : (d.report sev src code data).caps = d.caps := rfl
@[simp] theorem Dev.report_mem (sev src code data : Nat) : (d.report sev src code data).mem = d.mem := rfl
@[simp] theorem Dev.report_flash (sev src code data : Nat) : (d.report sev src code data).flash = d.flash := rfl
@[simp] theorem Dev.report_free (sev src code data : Nat) : (d.report sev src code data).free = d.free := rfl
@[simp] theorem Dev.report_banks (sev src code data : Nat) : (d.report sev src code data).banks = d.banks := rfl
@[simp] theorem Dev.report_net (sev src code data : Nat) : (d.report sev src code data).net = d.net := rfl
@[simp] theorem Dev.report_stalled (sev src code data : Nat) : (d.report sev src code data).stalled = d.stalled := rfl
@[simp] theorem Dev.report_backlog (sev src code data : Nat) : (d.report sev src code data).backlog = d.backlog := rfl
@[simp] theorem Dev.report_entries (sev src code data : Nat) : (d.report sev src code data).entries = d.entries := rfl
@[simp] theorem Dev.report_readyq (sev src code data : Nat) : (d.report sev src code data).readyq = d.readyq := rfl
@[simp] theorem Dev.report_fates (sev src code data : Nat) : (d.report sev src code data).fates = d.fates := rfl
@[simp] theorem Dev.report_stageVals (sev src code data : Nat) : (d.report sev src code data).stageVals = d.stageVals := rfl
@[simp] theorem Dev.report_admq (sev src code data : Nat) : (d.report sev src code data).admq = d.admq := rfl
@[simp] theorem Dev.report_copies (sev src code data : Nat) : (d.report sev src code data).copies = d.copies := rfl
@[simp] theorem Dev.report_capFifo (sev src code data : Nat) : (d.report sev src code data).capFifo = d.capFifo := rfl
@[simp] theorem Dev.report_tasks (sev src code data : Nat) : (d.report sev src code data).tasks = d.tasks := rfl
@[simp] theorem Dev.report_readyt (sev src code data : Nat) : (d.report sev src code data).readyt = d.readyt := rfl
@[simp] theorem Dev.report_waitq (sev src code data : Nat) : (d.report sev src code data).waitq = d.waitq := rfl
@[simp] theorem Dev.report_queues (sev src code data : Nat) : (d.report sev src code data).queues = d.queues := rfl
@[simp] theorem Dev.report_latches (sev src code data : Nat) : (d.report sev src code data).latches = d.latches := rfl
@[simp] theorem Dev.report_published (sev src code data : Nat) : (d.report sev src code data).published = d.published := rfl
@[simp] theorem Dev.report_changes (sev src code data : Nat) : (d.report sev src code data).changes = d.changes := rfl
@[simp] theorem Dev.report_pairOut (sev src code data : Nat) : (d.report sev src code data).pairOut = d.pairOut := rfl
@[simp] theorem Dev.report_hostOut (sev src code data : Nat) : (d.report sev src code data).hostOut = d.hostOut := rfl
@[simp] theorem Dev.report_plans (sev src code data : Nat) : (d.report sev src code data).plans = d.plans := rfl
@[simp] theorem Dev.report_paths (sev src code data : Nat) : (d.report sev src code data).paths = d.paths := rfl
@[simp] theorem Dev.report_sarq (sev src code data : Nat) : (d.report sev src code data).sarq = d.sarq := rfl
@[simp] theorem Dev.report_fsk (sev src code data : Nat) : (d.report sev src code data).fsk = d.fsk := rfl
@[simp] theorem Dev.report_olPend (sev src code data : Nat) : (d.report sev src code data).olPend = d.olPend := rfl
@[simp] theorem Dev.report_olSnap (sev src code data : Nat) : (d.report sev src code data).olSnap = d.olSnap := rfl
@[simp] theorem Dev.report_olRx (sev src code data : Nat) : (d.report sev src code data).olRx = d.olRx := rfl
@[simp] theorem Dev.report_olFrame (sev src code data : Nat) : (d.report sev src code data).olFrame = d.olFrame := rfl
@[simp] theorem Dev.report_ethTx (sev src code data : Nat) : (d.report sev src code data).ethTx = d.ethTx := rfl
@[simp] theorem Dev.report_ethTsq (sev src code data : Nat) : (d.report sev src code data).ethTsq = d.ethTsq := rfl
@[simp] theorem Dev.report_dcReady (sev src code data : Nat) : (d.report sev src code data).dcReady = d.dcReady := rfl
@[simp] theorem Dev.report_errHold (sev src code data : Nat) : (d.report sev src code data).errHold = d.errHold := rfl
@[simp] theorem Dev.report_sedHold (sev src code data : Nat) : (d.report sev src code data).sedHold = d.sedHold := rfl
@[simp] theorem Dev.report_sedOwn (sev src code data : Nat) : (d.report sev src code data).sedOwn = d.sedOwn := rfl
@[simp] theorem Dev.report_dirty (sev src code data : Nat) : (d.report sev src code data).dirty = d.dirty := rfl
@[simp] theorem Dev.report_carried (sev src code data : Nat) : (d.report sev src code data).carried = d.carried := rfl
@[simp] theorem Dev.report_psSet (sev src code data : Nat) : (d.report sev src code data).psSet = d.psSet := rfl

/-! The state. -/

@[simp] theorem State.setDev_dev (s : State) (x : Dev) : (s.setDev x).dev = x := rfl
@[simp] theorem State.setDev_pending (s : State) (x : Dev) : (s.setDev x).pending = s.pending := rfl
@[simp] theorem State.setDev_setDev (s : State) (x y : Dev) : (s.setDev x).setDev y = s.setDev y := rfl
@[simp] theorem State.setDev_self (s : State) : s.setDev s.dev = s := rfl

end Sys2Proof.Machine
end

