-- ==== Sys2Proof/Laws/Ops.lean ====
section
/-!
SUPPORT. What the named operations do: reads after writes of registers, memory, flash and the maps of the device.
-/

namespace Sys2Proof.Machine

/-! Register fields. -/

theorem Dev.get_put (d : Dev) (f g : F) (i j v : Nat) :
    (d.put f i v).get g j = if g = f ∧ j = i then f.fit v else d.get g j := by
  unfold Dev.get Dev.put
  simp only [mapFind_mapSet, Prod.mk.injEq]
  by_cases h : g = f ∧ j = i
  · obtain ⟨rfl, rfl⟩ := h
    by_cases hv : g.fit v = g.resetAt j
    · simp [hv]
    · simp [hv]
  · simp [h]

@[simp] theorem Dev.get_put_same (d : Dev) (f : F) (i v : Nat) : (d.put f i v).get f i = f.fit v := by simp [Dev.get_put]

theorem Dev.get_put_ne (d : Dev) {f g : F} {i j : Nat} (v : Nat) (h : g ≠ f ∨ j ≠ i) : (d.put f i v).get g j = d.get g j := by
  rw [Dev.get_put, if_neg]
  rintro ⟨rfl, rfl⟩
  simp at h

/-- The register file is all that a field's value depends on. -/
theorem Dev.get_regs {d e : Dev} (h : e.regs = d.regs) (f : F) (i : Nat) : e.get f i = d.get f i := by
  unfold Dev.get; rw [h]

theorem Dev.get_flag (d : Dev) (f g : F) (i j : Nat) (b : Bool) :
    (d.flag f i b).get g j = if g = f ∧ j = i then f.fit (if b then 1 else 0) else d.get g j := by
  rw [Dev.flag, Dev.get_put]

theorem Dev.get_bump (d : Dev) (f g : F) (i j n : Nat) :
    (d.bump f i n).get g j = if g = f ∧ j = i then f.fit (d.get f i + n) else d.get g j := by
  rw [Dev.bump, Dev.get_put]

theorem Dev.get_bumpSat (d : Dev) (f g : F) (i j : Nat) :
    (d.bumpSat f i).get g j =
      if g = f ∧ j = i ∧ d.get f i + 1 < 2 ^ f.desc.width then f.fit (d.get f i + 1) else d.get g j := by
  unfold Dev.bumpSat
  split <;> rename_i h
  · rw [Dev.get_put]; simp [h]
  · simp [h]

theorem Dev.get_report (d : Dev) (sev src code data : Nat) (g : F) (j : Nat) :
    (d.report sev src code data).get g j = if g = .x_MSI_PEND ∧ j = 33 then 1 else d.get g j := by
  have h : (d.report sev src code data).get g j = (d.put .x_MSI_PEND 33 1).get g j := rfl
  rw [h, Dev.get_put]; rfl

@[simp] theorem Dev.get_setByte (d : Dev) (a : Nat) (b : Byte) (f0 : F) (j : Nat) : (d.setByte a b).get f0 j = d.get f0 j := rfl
@[simp] theorem Dev.get_setFlash (d : Dev) (a v : Nat) (f0 : F) (j : Nat) : (d.setFlash a v).get f0 j = d.get f0 j := rfl
@[simp] theorem Dev.get_fresh (d : Dev) (f0 : F) (j : Nat) : (d.fresh.2).get f0 j = d.get f0 j := rfl
@[simp] theorem Dev.get_setBank (d : Dev) (c b : Nat) (x : Bank) (f0 : F) (j : Nat) : (d.setBank c b x).get f0 j = d.get f0 j := rfl
@[simp] theorem Dev.get_setCtx (d : Dev) (n : Nat) (c : TaskCtx) (f0 : F) (j : Nat) : (d.setCtx n c).get f0 j = d.get f0 j := rfl
@[simp] theorem Dev.get_setQueue (d : Dev) (q : Nat) (x : Queue) (f0 : F) (j : Nat) : (d.setQueue q x).get f0 j = d.get f0 j := rfl
@[simp] theorem Dev.get_setPlan (d : Dev) (a : Nat) (p : Plan) (f0 : F) (j : Nat) : (d.setPlan a p).get f0 j = d.get f0 j := rfl
@[simp] theorem Dev.get_setPath (d : Dev) (g : Nat) (p : Path) (f0 : F) (j : Nat) : (d.setPath g p).get f0 j = d.get f0 j := rfl
@[simp] theorem Dev.get_setFsk (d : Dev) (b : Nat) (x : Fsk) (f0 : F) (j : Nat) : (d.setFsk b x).get f0 j = d.get f0 j := rfl
@[simp] theorem Dev.get_setTsq (d : Dev) (p : Nat) (l : List (Nat × Nat)) (f0 : F) (j : Nat) : (d.setTsq p l).get f0 j = d.get f0 j := rfl
@[simp] theorem Dev.get_postHost (d : Dev) (addr len v : Nat) (f0 : F) (j : Nat) : (d.postHost addr len v).get f0 j = d.get f0 j := rfl
@[simp] theorem Dev.get_sendPair (d : Dev) (m : PairMsg) (f0 : F) (j : Nat) : (d.sendPair m).get f0 j = d.get f0 j := rfl
@[simp] theorem Dev.get_capture (d : Dev) (l : List (F × Nat × Nat)) (f0 : F) (j : Nat) : (d.capture l).get f0 j = d.get f0 j := rfl

theorem Dev.on_put (d : Dev) (f g : F) (i j v : Nat) :
    (d.put f i v).on g j = if g = f ∧ j = i then decide (f.fit v ≠ 0) else d.on g j := by
  unfold Dev.on
  rw [Dev.get_put]
  split <;> rfl

/-- Several puts, from the last one back. -/
theorem Dev.puts_nil (d : Dev) : d.puts [] = d := rfl

theorem Dev.puts_cons (d : Dev) (f : F) (i v : Nat) (l : List (F × Nat × Nat)) : d.puts ((f, i, v) :: l) = (d.put f i v).puts l := rfl

/-- A put of what a field holds changes nothing in the canonical form's reading. -/
theorem Dev.get_put_get (d : Dev) (f g : F) (i j : Nat) (h : f.fit (d.get f i) = d.get f i) : (d.put f i (d.get f i)).get g j = d.get g j := by
  rw [Dev.get_put]
  split <;> rename_i hc
  · obtain ⟨rfl, rfl⟩ := hc; exact h
  · rfl

/-! Memory. -/

theorem Dev.byte_setByte (d : Dev) (a x : Nat) (b : Byte) : (d.setByte a b).byte x = if x = a then b else d.byte x := by
  unfold Dev.byte Dev.setByte
  simp only [mapFind_mapSet]
  by_cases h : x = a
  · subst h
    by_cases hv : b = memReset x <;> simp [hv]
  · simp [h]

@[simp] theorem Dev.byte_put (d : Dev) (f : F) (i v x : Nat) : (d.put f i v).byte x = d.byte x := rfl

/-- A little-endian write leaves byte k of the value at the k-th address, and every other byte as it was. -/
theorem Dev.byte_wr (d : Dev) (a n v x : Nat) :
    (d.wr a n v).byte x = if a ≤ x ∧ x < a + n then BitVec.ofNat 8 (v / 256 ^ (x - a)) else d.byte x := by
  induction n generalizing d a v with
  | zero => simp [Dev.wr]
  | succ n ih =>
    unfold Dev.wr
    rw [ih, Dev.byte_setByte]
    by_cases h1 : x = a
    · subst h1
      simp
    · by_cases h2 : a + 1 ≤ x ∧ x < a + 1 + n
      · have h3 : a ≤ x ∧ x < a + (n + 1) := by omega
        rw [if_pos h2, if_pos h3]
        have h4 : x - a = (x - (a + 1)) + 1 := by omega
        rw [h4, Nat.pow_succ, Nat.div_div_eq_div_mul, Nat.mul_comm]
      · have h3 : ¬(a ≤ x ∧ x < a + (n + 1)) := by omega
        rw [if_neg h2, if_neg h3, if_neg h1]

/-- A read depends on the bytes it covers alone. -/
theorem Dev.rd_congr (d e : Dev) (a n : Nat) (h : ∀ k, k < n → d.byte (a + k) = e.byte (a + k)) : d.rd a n = e.rd a n := by
  induction n generalizing a with
  | zero => rfl
  | succ n ih =>
    unfold Dev.rd
    have h0 := h 0 (Nat.succ_pos n)
    rw [Nat.add_zero] at h0
    rw [h0, ih]
    intro k hk
    have := h (k + 1) (by omega)
    rwa [show a + 1 + k = a + (k + 1) by omega]

theorem Dev.wr_regs (d : Dev) (a n v : Nat) : (d.wr a n v).regs = d.regs := by
  induction n generalizing d a v with
  | zero => rfl
  | succ n ih => unfold Dev.wr; rw [ih]; rfl

@[simp] theorem Dev.get_wr (d : Dev) (a n v : Nat) (f : F) (i : Nat) : (d.wr a n v).get f i = d.get f i := Dev.get_regs (d.wr_regs a n v) f i

/-! The other maps. -/

theorem Dev.bank_setBank (d : Dev) (c b c' b' : Nat) (x : Bank) :
    (d.setBank c b x).bank c' b' = if 2 * c' + b' = 2 * c + b then x else d.bank c' b' := natGet_natSet _ _ _ _ _

theorem Dev.ctx_setCtx (d : Dev) (n m : Nat) (c : TaskCtx) : (d.setCtx n c).ctx m = if m = n then c else d.ctx m := natGet_natSet _ _ _ _ _

theorem Dev.queue_setQueue (d : Dev) (q r : Nat) (x : Queue) : (d.setQueue q x).queue r = if r = q then x else d.queue r := natGet_natSet _ _ _ _ _

@[simp] theorem Dev.ctx_put (d : Dev) (f : F) (i v n : Nat) : (d.put f i v).ctx n = d.ctx n := rfl
@[simp] theorem Dev.bank_put (d : Dev) (f : F) (i v c b : Nat) : (d.put f i v).bank c b = d.bank c b := rfl
@[simp] theorem Dev.queue_put (d : Dev) (f : F) (i v q : Nat) : (d.put f i v).queue q = d.queue q := rfl

/-! Loops. -/

@[simp] theorem forN_nothing (f : Dev → Nat → Dev) (d : Dev) : forN 0 f d = d := rfl

theorem forN_succ (n : Nat) (f : Dev → Nat → Dev) (d : Dev) : forN (n + 1) f d = f (forN n f d) n := by
  unfold forN; rw [List.range_succ, List.foldl_append]; rfl

/-- A loop whose body changes nothing below the bound changes nothing. -/
theorem forN_id (n : Nat) (f : Dev → Nat → Dev) (d : Dev) (h : ∀ i, i < n → f d i = d) : forN n f d = d := by
  induction n with
  | zero => rfl
  | succ n ih => rw [forN_succ, ih (fun i hi => h i (by omega)), h n (by omega)]

/-- What every turn of a loop keeps, the loop keeps. -/
theorem forN_keeps (p : Dev → Prop) (n : Nat) (f : Dev → Nat → Dev) (d : Dev) (h : ∀ e i, p e → p (f e i)) (hd : p d) : p (forN n f d) := by
  induction n with
  | zero => exact hd
  | succ n ih => rw [forN_succ]; exact h _ _ ih

theorem foldl_keeps {α : Type} (p : Dev → Prop) (f : Dev → α → Dev) (l : List α) (d : Dev) (h : ∀ e x, p e → p (f e x)) (hd : p d) :
    p (l.foldl f d) := by
  induction l generalizing d with
  | nil => exact hd
  | cons x t ih => exact ih _ (h _ _ hd)

/-- A loop that puts one field at each number below its bound. -/
theorem get_forN_put (n : Nat) (f g : F) (v : Nat → Nat) (d : Dev) (j : Nat) :
    (forN n (fun d i => d.put f i (v i)) d).get g j = if g = f ∧ j < n then f.fit (v j) else d.get g j := by
  induction n with
  | zero => simp
  | succ n ih =>
    rw [forN_succ, Dev.get_put, ih]
    by_cases h1 : g = f
    · subst h1
      by_cases h2 : j = n
      · subst h2; simp
      · have h3 : j < n + 1 ↔ j < n := by omega
        simp [h2, h3]
    · simp [h1]

end Sys2Proof.Machine
end

