-- ==== Sys2Proof/Laws/Issue.lean ====
section
/-!
SUPPORT. What issuing an instruction does, once for every cell instruction and once for every task instruction.
-/

namespace Sys2Proof.Machine

/-! Cells (R41, R48, R52, R59). -/

/-- A ready cell issues a legal instruction whose mode has it: the effect, on the bank with PC, cycles and hazards advanced. -/
theorem Dev.issue_ready (d : Dev) (c : Nat) (i : Issue) (eff : Dev → Bank → Dev × Bank) (n : Nat) (h : d.cellReady c)
    (hl : i.legal = true) (hn : i.cy.cycles (d.get .C_STAT_MODE c) = some n) :
    d.issue c i eff = (eff d ((d.cur c).issued (n + i.stall (d.cur c).hz) i.wr)).1.setBank c (d.actBank c)
      (eff d ((d.cur c).issued (n + i.stall (d.cur c).hz) i.wr)).2 := by
  obtain ⟨h1, h2⟩ := h
  unfold Dev.cur at h2
  simp [Dev.issue, h1, hl, hn, h2, timesN, Bank.issued, Dev.cur, Nat.add_left_comm, Nat.add_comm]

/-- The same for an instruction that touches registers only. -/
theorem Dev.issueR_ready (d : Dev) (c : Nat) (i : Issue) (eff : Bank → Bank) (n : Nat) (h : d.cellReady c)
    (hl : i.legal = true) (hn : i.cy.cycles (d.get .C_STAT_MODE c) = some n) :
    d.issueR c i eff = d.setBank c (d.actBank c) (eff ((d.cur c).issued (n + i.stall (d.cur c).hz) i.wr)) :=
  Dev.issue_ready d c i _ n h hl hn

/-- A cell that issues nothing now is unchanged. -/
theorem Dev.issue_waits (d : Dev) (c : Nat) (i : Issue) (eff : Dev → Bank → Dev × Bank) (h : d.canIssue c = false) :
    d.issue c i eff = d := by simp [Dev.issue, h]

/-- An illegal word aborts the firing with 0x01. -/
theorem Dev.issue_illegal (d : Dev) (c : Nat) (i : Issue) (eff : Dev → Bank → Dev × Bank) (h : d.canIssue c = true) (hl : i.legal = false) :
    d.issue c i eff = d.abort c 0x01 (d.cur c).pc := by simp [Dev.issue, h, hl, Dev.cur]

/-- An instruction that the mode lacks aborts the firing with 0x02. -/
theorem Dev.issue_lacking (d : Dev) (c : Nat) (i : Issue) (eff : Dev → Bank → Dev × Bank) (h : d.canIssue c = true) (hl : i.legal = true)
    (hn : i.cy.cycles (d.get .C_STAT_MODE c) = none) : d.issue c i eff = d.abort c 0x02 (d.cur c).pc := by
  simp [Dev.issue, h, hl, hn, Dev.cur]

/-- An instruction that may not be repeated aborts the firing with 0x03 after a REP. -/
theorem Dev.issue_unrepeatable (d : Dev) (c : Nat) (i : Issue) (eff : Dev → Bank → Dev × Bank) (n : Nat) (h : d.canIssue c = true)
    (hl : i.legal = true) (hn : i.cy.cycles (d.get .C_STAT_MODE c) = some n) (hr : (d.cur c).rep ≠ 0) (hi : i.rep = false) :
    d.issue c i eff = d.abort c 0x03 ((d.cur c).pc - 1#13) := by
  unfold Dev.cur at hr
  simp [Dev.issue, h, hl, hn, hr, hi, Dev.cur]

/-! Tasks (R111, R114, R115). -/

/-- A ready core issues a legal instruction: its effect, after PC and RUN. -/
theorem Dev.issueT_ready (d : Dev) (k n cyc : Nat) (eff : Nat → Dev → Dev) (h : d.taskReady k n) :
    d.issueT k true cyc eff = eff n (d.stepped n cyc) := by
  obtain ⟨h1, h2, h3⟩ := h
  simp [Dev.issueT, h1, h2, h3, Dev.stepped]

/-- The same for an instruction that changes only the task's registers. -/
theorem Dev.issueX_ready (d : Dev) (k n cyc : Nat) (eff : TaskCtx → TaskCtx) (h : d.taskReady k n) :
    d.issueX k true cyc eff = (d.stepped n cyc).setCtx n (eff (d.ctx n)) := by
  rw [Dev.issueX, Dev.issueT_ready _ _ _ _ _ h]; rfl

/-- An illegal instruction is a task fault with cause 0x01. -/
theorem Dev.issueT_illegal (d : Dev) (k n cyc : Nat) (eff : Nat → Dev → Dev) (h : d.taskReady k n) :
    d.issueT k false cyc eff = d.taskFault n 0x01 := by
  obtain ⟨h1, h2, h3⟩ := h
  simp [Dev.issueT, h1, h2, h3]

/-- A core that issues nothing now is unchanged. -/
theorem Dev.issueT_waits (d : Dev) (k cyc : Nat) (legal : Bool) (eff : Nat → Dev → Dev) (h : d.canIssueT k = false) :
    d.issueT k legal cyc eff = d := by simp [Dev.issueT, h]

end Sys2Proof.Machine
end

section
/-!
SUPPORT. The outcome of a cell instruction that touches registers only: issued, illegal, or an arithmetic function; and the cycle that
R52 adds to a multiply.
-/

namespace Sys2Proof.Machine

/-! A cell that issues. -/

/-- Cell 3 executes a firing: the loop region is released from reset and the cell runs its active bank. -/
def State.executing : State :=
  State.reset.setDev (Dev.reset.puts [(.x_HELD, 0, 0), (.x_RUNB, 3, 1)])

/-- The hypothesis of the laws below, and of the statements about a cell's instructions, is met. -/
theorem State.executing_cellReady : State.executing.dev.cellReady 3 := ⟨by decide, by decide⟩

/-! Cycles that R52 adds. -/

/-- A multiply waits a cycle for either operand that the instruction before it loaded. -/
theorem Issue.stall_multiply (legal : Bool) (cy : CyKind) (x y : Nat) (h : Hazard) :
    Issue.stall { legal := legal, cy := cy, mulD := [x, y] } h = oneIf (h.d.contains x || h.d.contains y) := by
  simp [Issue.stall, oneIf]

/-! Outcomes. -/

/-- The outcome of an action, by the device it leaves. -/
theorem act_of_eq {s : State} {f : Dev → Dev} {d : Dev} (h : f s.dev = d) : act s f = .next (s.setDev d) :=
  congrArg (fun d => Host.Outcome.next (s.setDev d)) h

/-- An instruction that touches registers only leaves its effect on the executing bank. -/
theorem act_issueR_ready (s : State) (c : Nat) (i : Issue) (eff : Bank → Bank) (n : Nat) (h : s.dev.cellReady c)
    (hl : i.legal = true) (hn : i.cy.cycles (s.dev.get .C_STAT_MODE c) = some n) :
    act s (fun d => d.issueR c i eff) =
      .next (s.setCur c (eff ((s.dev.cur c).issued (n + i.stall (s.dev.cur c).hz) i.wr))) :=
  act_of_eq (Dev.issueR_ready _ _ _ _ _ h hl hn)

/-- The same for one cycle that reads and writes nothing of R52. -/
theorem act_issueR_plain (s : State) (c : Nat) (eff : Bank → Bank) (h : s.dev.cellReady c) :
    act s (fun d => d.issueR c ({} : Issue) eff) = .next (s.setCur c (eff ((s.dev.cur c).issued 1 noHz))) :=
  act_issueR_ready s c {} eff 1 h rfl rfl

/-- An illegal instruction aborts the firing with 0x01 at its own address (R48). -/
theorem act_issueR_illegal (s : State) (c : Nat) (i : Issue) (eff : Bank → Bank) (h : s.dev.canIssue c = true) (hl : i.legal = false) :
    act s (fun d => d.issueR c i eff) = .next (s.setDev (s.dev.abort c 0x01 (s.dev.cur c).pc)) :=
  act_of_eq (Dev.issue_illegal _ _ _ _ h hl)

/-! Arithmetic functions (R44, R66). -/

/-- The bank after an arithmetic function with the outcome `o`: DD and SR written. -/
def Bank.aluDone (b : Bank) (dd : BitVec 4) (o : AluOut 32) : Bank := { b.wD dd o.res with sr := aluSr b.sr o }

/-- A function without C and V writes N and Z of SR, and SV when it saturated. -/
theorem Bank.aluDone_withoutCV (b : Bank) (dd : BitVec 4) (r : Word) (sat : Bool) :
    b.aluDone dd { res := r, cv := none, sat := sat } =
      { b.wD dd r with sr := stick (srSet b.sr [(srN, r.msb), (srZ, decide (r = 0#32))]) srSV sat } := rfl

theorem act_cellAlu_ready (s : State) (c : Nat) (i : Issue) (dd da db : BitVec 4) (f : Word → Word → AluOut 32) (n : Nat)
    (h : s.dev.cellReady c) (hl : i.legal = true) (hn : i.cy.cycles (s.dev.get .C_STAT_MODE c) = some n) :
    act s (fun d => d.cellAlu c i dd da db f) =
      .next (s.setCur c (((s.dev.cur c).issued (n + i.stall (s.dev.cur c).hz) i.wr).aluDone dd
        (f ((s.dev.cur c).rD da) ((s.dev.cur c).rD db)))) :=
  act_issueR_ready s c i _ n h hl hn

theorem act_cellAlu1_ready (s : State) (c : Nat) (i : Issue) (dd da : BitVec 4) (f : Word → AluOut 32) (n : Nat)
    (h : s.dev.cellReady c) (hl : i.legal = true) (hn : i.cy.cycles (s.dev.get .C_STAT_MODE c) = some n) :
    act s (fun d => d.cellAlu1 c i dd da f) =
      .next (s.setCur c (((s.dev.cur c).issued (n + i.stall (s.dev.cur c).hz) i.wr).aluDone dd (f ((s.dev.cur c).rD da)))) :=
  act_issueR_ready s c i _ n h hl hn

end Sys2Proof.Machine
end

section
/-!
PROOFS. MULQ and RCPQ (R67).
-/

namespace Sys2Proof.Machine

theorem opRcpq_zero : opRcpq 0#32 = { res := 0x7FFFFFFF#32, cv := none, sat := true } := rfl

theorem opRcpq_nonzero {x : Word} (hx : x ≠ 0#32) :
    opRcpq x = { res := (satS 32 (rneInt (2 ^ 46) x.toInt)).1, cv := none, sat := (satS 32 (rneInt (2 ^ 46) x.toInt)).2 } :=
  if_neg hx

/-- MULQ at a legal shift: the same in each mode. -/
theorem exec_mulq_ready (s : State) (c : Fin 24) (dd da db : BitVec 4) (sh : BitVec 5) (h : s.dev.cellReady c) (hsh : sh.toNat ≤ 16) :
    exec (.mulq c dd da db sh) s =
      .next (s.setCur c (((s.dev.cur c).issued
        (1 + oneIf ((s.dev.cur c).hz.d.contains da.toNat || (s.dev.cur c).hz.d.contains db.toNat)) noHz).aluDone dd
          (opMulq sh.toNat ((s.dev.cur c).rD da) ((s.dev.cur c).rD db)))) := by
  rw [← Issue.stall_multiply (decide (sh.toNat ≤ 16)) .one]
  exact act_cellAlu_ready s c _ dd da db (opMulq sh.toNat) 1 h (decide_eq_true hsh) rfl

/-- RCPQ takes four cycles in each mode. -/
theorem exec_rcpq_ready (s : State) (c : Fin 24) (dd da : BitVec 4) (h : s.dev.cellReady c) :
    exec (.rcpq c dd da) s =
      .next (s.setCur c (((s.dev.cur c).issued 4 noHz).aluDone dd (opRcpq ((s.dev.cur c).rD da)))) :=
  act_cellAlu1_ready s c { cy := .rcpq } dd da opRcpq 4 h rfl rfl

/-- Settles O3: the issue of each instruction, with the exact result of R67 by the cases of the divisor. -/
theorem cellFixedPointResult : Obligations.CellFixedPointResult := by
  unfold Obligations.CellFixedPointResult
  intro s c dd da db sh h b x y nz cy
  refine ⟨fun hsh => exec_mulq_ready s c dd da db sh h hsh, fun hx => ?_, fun hx => ?_⟩
  · rw [exec_rcpq_ready s c dd da h, opRcpq_nonzero hx, Bank.aluDone_withoutCV]
    rfl
  · rw [exec_rcpq_ready s c dd da h, show (s.dev.cur c).rD da = 0#32 from hx, opRcpq_zero, Bank.aluDone_withoutCV]
    rfl

end Sys2Proof.Machine
end

section
/-!
PROOFS. Control flow, REP, MFS, MTS and NOP of a cell (R43, R47, R48, R59, R60, R399).
-/

namespace Sys2Proof.Machine

/-! Condition codes (R47). -/

theorem condLegal_of_le {cond : BitVec 4} (h : cond.toNat ≤ 12) : condLegal cond = true := decide_eq_true h

theorem condLegal_of_gt {cond : BitVec 4} (h : 12 < cond.toNat) : condLegal cond = false := decide_eq_false (Nat.not_le.mpr h)

/-- The rows of R47: each legal code with what it says of SR. -/
theorem condHolds_of_row (sr : Word) (code : BitVec 4) (holds : Bool)
    (row : (code, holds) ∈ [(0x0#4, true), (0x1#4, bitOf sr srZ), (0x2#4, !bitOf sr srZ), (0x3#4, bitOf sr srN != bitOf sr srV),
      (0x4#4, bitOf sr srN == bitOf sr srV), (0x5#4, !bitOf sr srZ && (bitOf sr srN == bitOf sr srV)),
      (0x6#4, bitOf sr srZ || (bitOf sr srN != bitOf sr srV)), (0x7#4, bitOf sr srC), (0x8#4, !bitOf sr srC), (0x9#4, bitOf sr srT),
      (0xA#4, !bitOf sr srT), (0xB#4, bitOf sr srN), (0xC#4, !bitOf sr srN)]) :
    condHolds sr code = holds := by
  simp only [List.mem_cons, Prod.mk.injEq, List.not_mem_nil, or_false] at row
  rcases row with ⟨rfl, rfl⟩ | ⟨rfl, rfl⟩ | ⟨rfl, rfl⟩ | ⟨rfl, rfl⟩ | ⟨rfl, rfl⟩ | ⟨rfl, rfl⟩ | ⟨rfl, rfl⟩ | ⟨rfl, rfl⟩ | ⟨rfl, rfl⟩ |
    ⟨rfl, rfl⟩ | ⟨rfl, rfl⟩ | ⟨rfl, rfl⟩ | ⟨rfl, rfl⟩ <;> rfl

/-! Branches and the return stack. -/

section
variable (s : State) (c : Fin 24) (cond : BitVec 4) (target : BitVec 13)

theorem exec_br_illegal (h : s.dev.canIssue c = true) (hc : 12 < cond.toNat) :
    exec (.br c cond target) s = .next (s.setDev (s.dev.abort c 0x01 (s.dev.cur c).pc)) :=
  act_issueR_illegal s c { legal := condLegal cond, cy := .branch } _ h (condLegal_of_gt hc)

theorem exec_br_ready (h : s.dev.cellReady c) (hc : cond.toNat ≤ 12) :
    let b := s.dev.cur c
    exec (.br c cond target) s =
      .next (s.setCur c (if condHolds b.sr cond then { b.issued 2 noHz with pc := target } else b.issued 1 noHz)) :=
  act_issueR_ready s c { legal := condLegal cond, cy := .branch } _ 1 h (condLegal_of_le hc) rfl

theorem exec_call_ready (h : s.dev.cellReady c) (hs : (s.dev.cur c).stack.length < 4) :
    exec (.call c target) s = .next (s.setCur c { (s.dev.cur c).issued 2 noHz with
      pc := target, stack := ((s.dev.cur c).pc + 1#13) :: (s.dev.cur c).stack }) := by
  have room : (s.dev.canIssue c && decide ((s.dev.cur c).stack.length ≥ 4)) = false := by simp [hs]
  refine Eq.trans ?_ (act_issueR_ready s c { cy := .call } (fun b => { b with stack := b.pc :: b.stack, pc := target }) 2 h rfl rfl)
  exact congrArg (fun d => Host.Outcome.next (s.setDev d)) (if_neg (Bool.eq_false_iff.mp room))

theorem exec_call_full (h : s.dev.canIssue c = true) (hs : 4 ≤ (s.dev.cur c).stack.length) :
    exec (.call c target) s = .next (s.setDev (s.dev.abort c 0x05 (s.dev.cur c).pc)) := by
  have full : (s.dev.canIssue c && decide ((s.dev.cur c).stack.length ≥ 4)) = true := by simp [h, hs]
  exact congrArg (fun d => Host.Outcome.next (s.setDev d)) (if_pos full)

/-- What RET does to the bank: a jump to the address it takes, and a cycle more. -/
def Bank.returns (cond : BitVec 4) (b : Bank) : Bank :=
  if condHolds b.sr cond then
    match b.stack with
    | r :: t => { b with pc := r, stack := t, cycles := b.cycles + 1 }
    | [] => b
  else b

theorem Bank.returns_untaken {b : Bank} {cond : BitVec 4} (h : condHolds b.sr cond = false) : b.returns cond = b := by
  simp [Bank.returns, h]

theorem Bank.returns_taken {b : Bank} {cond : BitVec 4} {r : BitVec 13} {t : List (BitVec 13)} (h : condHolds b.sr cond = true)
    (hs : b.stack = r :: t) : b.returns cond = { b with pc := r, stack := t, cycles := b.cycles + 1 } := by
  simp [Bank.returns, h, hs]

/-- RET issues unless it is legal and taken with nothing on the return stack. -/
theorem exec_ret_issues
    (hno : (s.dev.canIssue c && condLegal cond && condHolds (s.dev.cur c).sr cond && (s.dev.cur c).stack.isEmpty) = false) :
    exec (.ret c cond) s = act s (fun d => d.issueR c { legal := condLegal cond, cy := .branch } (Bank.returns cond)) :=
  congrArg (fun d => Host.Outcome.next (s.setDev d)) (if_neg (Bool.eq_false_iff.mp hno))

theorem exec_ret_illegal (h : s.dev.canIssue c = true) (hc : 12 < cond.toNat) :
    exec (.ret c cond) s = .next (s.setDev (s.dev.abort c 0x01 (s.dev.cur c).pc)) := by
  rw [exec_ret_issues _ _ _ (by simp [condLegal_of_gt hc])]
  exact act_issueR_illegal s c _ _ h (condLegal_of_gt hc)

theorem exec_ret_untaken (h : s.dev.cellReady c) (hc : cond.toNat ≤ 12) (ht : condHolds (s.dev.cur c).sr cond = false) :
    exec (.ret c cond) s = .next (s.setCur c ((s.dev.cur c).issued 1 noHz)) := by
  rw [exec_ret_issues _ _ _ (by simp [ht]), act_issueR_ready s c _ _ 1 h (condLegal_of_le hc) rfl]
  exact congrArg (fun b => Host.Outcome.next (s.setCur c b)) (Bank.returns_untaken ht)

theorem exec_ret_taken (h : s.dev.cellReady c) (hc : cond.toNat ≤ 12) (ht : condHolds (s.dev.cur c).sr cond = true)
    (r : BitVec 13) (t : List (BitVec 13)) (hs : (s.dev.cur c).stack = r :: t) :
    exec (.ret c cond) s = .next (s.setCur c { (s.dev.cur c).issued 2 noHz with pc := r, stack := t }) := by
  rw [exec_ret_issues _ _ _ (by simp [hs]), act_issueR_ready s c _ _ 1 h (condLegal_of_le hc) rfl]
  exact congrArg (fun b => Host.Outcome.next (s.setCur c b)) (Bank.returns_taken ht hs)

theorem exec_ret_empty (h : s.dev.canIssue c = true) (hc : cond.toNat ≤ 12) (ht : condHolds (s.dev.cur c).sr cond = true)
    (hs : (s.dev.cur c).stack = []) : exec (.ret c cond) s = .next (s.setDev (s.dev.abort c 0x06 (s.dev.cur c).pc)) := by
  have empty : (s.dev.canIssue c && condLegal cond && condHolds (s.dev.cur c).sr cond && (s.dev.cur c).stack.isEmpty) = true := by
    simp [h, condLegal_of_le hc, ht, hs]
  exact congrArg (fun d => Host.Outcome.next (s.setDev d)) (if_pos empty)

end

/-! REP (R59, R60, R399). -/

/-- A REP whose next word passes leaves its count in the bank. -/
theorem Dev.rep_passes (d : Dev) (c : Nat) (count : Bank → Nat) (word : Word) (h : d.cellReady c)
    (hw : repCheck (d.get .C_STAT_MODE c) (count (d.cur c)) word = none) :
    d.rep c count word = d.setBank c (d.actBank c) { (d.cur c).issued 1 noHz with rep := count (d.cur c) } := by
  have hi := h.1
  refine Eq.trans ?_ (d.issueR_ready c {} (fun x => { x with rep := count (d.cur c) }) 1 h rfl rfl)
  unfold Dev.cur at hw ⊢
  simp only [Dev.rep, hi, hw, if_true]

/-- A REP whose next word fails aborts the firing with the cause and address of R399. -/
theorem Dev.rep_aborts (d : Dev) (c : Nat) (count : Bank → Nat) (word : Word) (cause : Nat) (atNext : Bool) (h : d.canIssue c = true)
    (hw : repCheck (d.get .C_STAT_MODE c) (count (d.cur c)) word = some (cause, atNext)) :
    d.rep c count word = d.abort c cause (if atNext then (d.cur c).pc + 1#13 else (d.cur c).pc) := by
  unfold Dev.cur at hw ⊢
  simp only [Dev.rep, h, hw, if_true]

/-- Settles O9: R47 row by row, then each instruction by its legality, its condition and the state of the return stack. -/
theorem cellControlFlow : Obligations.CellControlFlow := by
  unfold Obligations.CellControlFlow
  intro s c cond dd ds target cnt word hi b next ill fl
  refine ⟨condHolds_of_row b.sr, fun hc => ⟨exec_br_illegal s c cond target hi hc, exec_ret_illegal s c cond hi hc⟩, fun hrep => ?_⟩
  have ready : s.dev.cellReady c := ⟨hi, hrep⟩
  refine ⟨fun hc => ⟨exec_br_ready s c cond target ready hc, exec_ret_untaken s c cond ready hc, exec_ret_taken s c cond ready hc,
    exec_ret_empty s c cond hi hc⟩, exec_call_ready s c target ready, exec_call_full s c target hi, ?repN, ?repDs, ?repAborts,
    ?mfsSr, ?mfsFst, ?mts, ?nop⟩
  case repN => exact fun hw => act_of_eq (s.dev.rep_passes c (fun _ => cnt.toNat + 1) word ready hw)
  case repDs => exact fun hw => act_of_eq (s.dev.rep_passes c (fun b => (b.rD ds).toNat) word ready hw)
  case repAborts => exact fun cause at_ hw => act_of_eq (s.dev.rep_aborts c (fun _ => cnt.toNat + 1) word cause at_ hi hw)
  case mfsSr => exact act_issueR_plain s c (fun b => b.wD dd b.sr) ready
  case mfsFst => exact act_issueR_plain s c (fun b => b.wD dd b.fst) ready
  case mts => exact act_issueR_plain s c (fun b => { b with sr := b.rD dd &&& 0x3FCF#32 }) ready
  case nop => exact act_issueR_plain s c (fun b => b) ready

end Sys2Proof.Machine
end

section
/-!
PROOFS. TOK and TOKT, the place that frees in a token port, and a token at its result register (R132 to R135).
-/

namespace Sys2Proof.Machine

/-! Bit fields of a register. -/

/-- The model cuts a field out of a register's value by division, the statement by position. -/
theorem ofNat_div_two_pow {w : Nat} (x : BitVec w) (lo len : Nat) : BitVec.ofNat len (x.toNat / 2 ^ lo) = x.extractLsb' lo len := by
  rw [BitVec.extractLsb', Nat.shiftRight_eq_div_pow]

theorem toNat_extractLsb'_div {w : Nat} (x : BitVec w) (lo len : Nat) : (x.extractLsb' lo len).toNat = x.toNat / 2 ^ lo % 2 ^ len := by
  rw [← ofNat_div_two_pow, BitVec.toNat_ofNat]

theorem ofNat_toNat_extractLsb' {w : Nat} (x : BitVec w) (len : Nat) : BitVec.ofNat len x.toNat = x.extractLsb' 0 len := by
  rw [← ofNat_div_two_pow, pow_zero, Nat.div_one]

theorem tyValid_iff (ty : Nat) : tyValid ty = true ↔ 1 ≤ ty ∧ ty ≤ 4 := by simp [tyValid]

/-! What an issued instruction of a task leaves. -/

theorem Dev.get_stepped_ne (d : Dev) (n cyc : Nat) {f : F} (i : Nat) (hpc : f ≠ .TASK_STAT_PC) (hrun : f ≠ .TASK_RUN) :
    (d.stepped n cyc).get f i = d.get f i := by
  rw [Dev.stepped, Dev.bump, Dev.get_put_ne _ _ (.inl hrun), Dev.get_put_ne _ _ (.inl hpc)]

@[simp] theorem Dev.tick_stepped (d : Dev) (n cyc : Nat) : (d.stepped n cyc).tick = d.tick := by
  rw [Dev.tick, Dev.tick, Dev.now, Dev.now, Dev.get_stepped_ne _ _ _ _ (by decide) (by decide)]

/-! TOK and TOKT (R132, R133). -/

/-- The token of R132 that XA and XB of a task describe, with its firing tag. -/
def TaskCtx.token (x : TaskCtx) (xa xb : BitVec 5) (tag : BitVec 16) : Token :=
  { dest := (x.rX xb).extractLsb' 16 16, ty := (x.rX xb).extractLsb' 8 8, qual := (x.rX xb).extractLsb' 0 8,
    val := (x.rX xa).extractLsb' 0 32, ftag := tag }

/-- The token with its fields cut out as the model does. -/
theorem TaskCtx.token_eq_div (x : TaskCtx) (xa xb : BitVec 5) (tag : BitVec 16) :
    x.token xa xb tag =
      { dest := BitVec.ofNat 16 ((x.rX xb).toNat / 2 ^ 16), ty := BitVec.ofNat 8 ((x.rX xb).toNat / 2 ^ 8),
        qual := BitVec.ofNat 8 (x.rX xb).toNat, val := (x.rX xa).setWidth 32, ftag := tag } := by
  rw [ofNat_div_two_pow, ofNat_div_two_pow, ofNat_toNat_extractLsb', ← BitVec.ofNat_toNat, ofNat_toNat_extractLsb']
  rfl

/-- A ready core executes TOK or TOKT: a fault, a wait or a launch, by the token's TYPE and the room in the port. -/
theorem Dev.tok_ready (d : Dev) (k n : Nat) (xa xb : BitVec 5) (tag : Dev → Nat → Nat) (h : d.taskReady k n) :
    let t := (d.ctx n).token xa xb (BitVec.ofNat 16 (tag (d.stepped n 4) n))
    d.tok k xa xb tag =
      if !tyValid t.ty.toNat then (d.stepped n 4).faultBack n 0x01
      else if 16 ≤ d.waitingAt (.port k) then (d.stepped n 4).block n tsWaitQueue (.port t)
      else (d.stepped n 4).portLaunch k t := by
  intro t
  have hty : t.ty.toNat = ((d.ctx n).rX xb).toNat / 256 % 256 := toNat_extractLsb'_div _ 8 8
  rw [Dev.tok, Dev.issueT_ready _ _ _ _ _ h, hty, show t = _ from TaskCtx.token_eq_div ..]
  rfl

section
variable {d : Dev} {k n : Nat} {xa xb : BitVec 5} {tag : Dev → Nat → Nat} (h : d.taskReady k n)
include h

/-- A TYPE that R21 reserves is a task fault. -/
theorem Dev.tok_reserved (hty : (((d.ctx n).rX xb).extractLsb' 8 8).toNat = 0 ∨ 4 < (((d.ctx n).rX xb).extractLsb' 8 8).toNat) :
    d.tok k xa xb tag = (d.stepped n 4).faultBack n 0x01 := by
  have bad : ¬ tyValid (((d.ctx n).rX xb).extractLsb' 8 8).toNat = true := by rw [tyValid_iff]; omega
  rw [Dev.tok_ready d k n xa xb tag h, if_pos (by simpa [TaskCtx.token] using bad)]

/-- With a free place in the port the token is launched. -/
theorem Dev.tok_launches {ftag : BitVec 16} (lo : 1 ≤ (((d.ctx n).rX xb).extractLsb' 8 8).toNat)
    (hi : (((d.ctx n).rX xb).extractLsb' 8 8).toNat ≤ 4) (room : d.waitingAt (.port k) < 16)
    (hft : BitVec.ofNat 16 (tag (d.stepped n 4) n) = ftag) :
    d.tok k xa xb tag = (d.stepped n 4).portLaunch k ((d.ctx n).token xa xb ftag) := by
  have ok := (tyValid_iff _).mpr ⟨lo, hi⟩
  subst hft
  rw [Dev.tok_ready d k n xa xb tag h, if_neg (by simpa [TaskCtx.token] using ok), if_neg (Nat.not_le.mpr room)]

/-- With sixteen tokens at the port the task waits, and its token with it. -/
theorem Dev.tok_waits {ftag : BitVec 16} (lo : 1 ≤ (((d.ctx n).rX xb).extractLsb' 8 8).toNat)
    (hi : (((d.ctx n).rX xb).extractLsb' 8 8).toNat ≤ 4) (full : 16 ≤ d.waitingAt (.port k))
    (hft : BitVec.ofNat 16 (tag (d.stepped n 4) n) = ftag) :
    d.tok k xa xb tag = (d.stepped n 4).block n tsWaitQueue (.port ((d.ctx n).token xa xb ftag)) := by
  have ok := (tyValid_iff _).mpr ⟨lo, hi⟩
  subst hft
  rw [Dev.tok_ready d k n xa xb tag h, if_neg (by simpa [TaskCtx.token] using ok), if_pos full]

end

section
variable {s : State} {k : Fin 4} {xa xb xc : BitVec 5} {d : Dev}

/-- TOK tags its token with the next tick. -/
theorem exec_tok_of_eq (h : s.dev.tok k xa xb (fun d _ => d.tick + 1) = d) : exec (.tok k xa xb) s = .next (s.setDev d) :=
  act_of_eq (f := fun d => d.tok k xa xb _) h

/-- TOKT tags its token with XC. -/
theorem exec_tokt_of_eq (h : s.dev.tok k xa xb (fun d n => ((d.ctx n).rX xc).toNat) = d) :
    exec (.tokt k xa xb xc) s = .next (s.setDev d) :=
  act_of_eq (f := fun d => d.tok k xa xb _) h

end

/-! A place frees in the token port (R133). -/

/-- The one task that waits with a token launches it and becomes READY. -/
theorem exec_tokenPortPlaceFreed_waiter (s : State) (k : Fin 4) (n : Nat) (t : Token) (hq : s.dev.waitq = [n])
    (hw : (s.dev.ctx n).wait = .port t) (hcore : s.dev.get .TASK_CTL_CORE n = k) (hruns : s.dev.progRuns = true)
    (room : s.dev.waitingAt (.port k) < 16) :
    exec (.tokenPortPlaceFreed k) s = .next (s.setDev ((s.dev.portLaunch k t).ready n)) := by
  have arm : exec (.tokenPortPlaceFreed k) s = execTokenPortPlaceFreed k s := rfl
  rw [arm, execTokenPortPlaceFreed]
  exact act_of_eq (by simp [hq, hw, hcore, hruns, room])

/-! A token at its result register (R134, R135). -/

/-- The result register r holds the fields of the token t and has counted it. -/
def Dev.resultWritten (d : Dev) (r : Nat) (t : Token) : Dev :=
  d.puts [(.TR_VAL, r, t.val.toNat), (.TR_INFO_FTAG, r, t.ftag.toNat), (.TR_INFO_TYPE, r, t.ty.toNat), (.TR_INFO_QUAL, r, t.qual.toNat),
    (.TR_CNT, r, d.get .TR_CNT r + 1)]

/-- A result register takes a token into its five fields alone. -/
theorem Dev.get_resultWritten_ne (d : Dev) (r : Nat) (t : Token) {f : F} (i : Nat)
    (h : f ∉ [F.TR_VAL, .TR_INFO_FTAG, .TR_INFO_TYPE, .TR_INFO_QUAL, .TR_CNT]) : (d.resultWritten r t).get f i = d.get f i := by
  simp only [List.mem_cons, List.not_mem_nil, or_false, not_or] at h
  obtain ⟨hval, hftag, hty, hqual, hcnt⟩ := h
  simp only [Dev.resultWritten, Dev.puts_cons, Dev.puts_nil]
  rw [Dev.get_put_ne _ _ (.inl hcnt), Dev.get_put_ne _ _ (.inl hqual), Dev.get_put_ne _ _ (.inl hty), Dev.get_put_ne _ _ (.inl hftag),
    Dev.get_put_ne _ _ (.inl hval)]

/-- The count of R134 is taken from the register as the token found it. -/
theorem Dev.resultWritten_eq_bump (d : Dev) (r : Nat) (t : Token) :
    d.resultWritten r t = ((((d.put .TR_VAL r t.val.toNat).put .TR_INFO_FTAG r t.ftag.toNat).put .TR_INFO_TYPE r t.ty.toNat).put
      .TR_INFO_QUAL r t.qual.toNat).bump .TR_CNT r 1 := by
  simp [Dev.resultWritten, Dev.puts_cons, Dev.puts_nil, Dev.bump, Dev.get_put]

/-- A region out of reset takes every flag set for a task. -/
theorem Dev.setFlags_unheld (d : Dev) (n bits : Nat) (h : d.held 1 = false) :
    d.setFlags n bits = d.put .TASK_FLAGS n (d.get .TASK_FLAGS n ||| bits) := by simp [Dev.setFlags, h]

/-- The token that arrives leaves the network for its result register, which notifies its task where it is enabled to. -/
theorem Dev.tokenAtResult_arrival (d : Dev) (j : Nat) (f : Flight) (hheld : d.held 1 = false)
    (harr : d.arrival j (fun f => decide (f.tok.dest.toNat / 4096 = 2)) = some f) :
    let r := f.tok.dest.toNat % 512
    let e := { d with net := d.net.eraseIdx j }.resultWritten r f.tok
    d.tokenAtResult j =
      if d.on .TR_NOTE_EN r then
        e.put .TASK_FLAGS (d.get .TR_NOTE_TASK r) (d.get .TASK_FLAGS (d.get .TR_NOTE_TASK r) ||| 2 ^ d.get .TR_NOTE_FLAG r)
      else e := by
  intro r e
  have keeps : ∀ g i, g ∉ [F.TR_VAL, .TR_INFO_FTAG, .TR_INFO_TYPE, .TR_INFO_QUAL, .TR_CNT] → e.get g i = d.get g i :=
    fun _ i hf => Dev.get_resultWritten_ne _ r f.tok i hf
  have unheld : e.held 1 = false := by
    rw [← hheld, Dev.held, Dev.held, Dev.on, Dev.on, keeps .x_HELD 1 (by decide)]
  have taken : d.tokenAtResult j =
      if e.on .TR_NOTE_EN r then e.setFlags (e.get .TR_NOTE_TASK r) (2 ^ e.get .TR_NOTE_FLAG r) else e := by
    simp only [Dev.tokenAtResult, hheld, harr, e, Dev.resultWritten_eq_bump]
    rfl
  rw [taken, Dev.setFlags_unheld _ _ _ unheld, Dev.on, Dev.on, keeps .TR_NOTE_EN r (by decide), keeps .TR_NOTE_TASK r (by decide),
    keeps .TR_NOTE_FLAG r (by decide), keeps .TASK_FLAGS _ (by decide)]

/-! States that meet the hypotheses. -/

/-- A token for result register 7. -/
def Token.toResult7 : Token := { dest := 0x2007#16, ty := 1#8, qual := 0#8, val := 42#32, ftag := 1#16 }

/-- Core 1 runs task 5 from address 0 of program memory; X1 and X2 describe the token for result register 7, X3 is 0. -/
def State.tasking : State :=
  State.reset.setDev ((Dev.reset.puts [(.x_HELD, 1, 0), (.x_RUNT, 1, 6), (.TASK_CTL_CORE, 5, 1)]).setCtx 5
    ((TaskCtx.start.wX 1 42#64).wX 2 0x20070100#64))

/-- The same with sixteen tokens at the port of core 1. -/
def State.taskingFull : State :=
  State.tasking.setDev { State.tasking.dev with stalled := List.replicate 16 { tok := Token.toResult7, prod := .port 1, slot := 256, tick := 0 } }

theorem State.tasking_taskReady : State.tasking.dev.taskReady 1 5 := ⟨by decide, by decide, by decide⟩

theorem State.taskingFull_taskReady : State.taskingFull.dev.taskReady 1 5 := ⟨by decide, by decide, by decide⟩

theorem State.tasking_tok_reserved :
    exec (.tok 1 1 3) State.tasking = .next (State.tasking.setDev ((State.tasking.dev.stepped 5 4).faultBack 5 0x01)) :=
  exec_tok_of_eq (Dev.tok_reserved State.tasking_taskReady (by decide))

theorem State.tasking_tok_launches :
    exec (.tok 1 1 2) State.tasking = .next (State.tasking.setDev ((State.tasking.dev.stepped 5 4).portLaunch 1 Token.toResult7)) :=
  exec_tok_of_eq (Dev.tok_launches State.tasking_taskReady (by decide) (by decide) (by decide) rfl)

theorem State.taskingFull_tok_waits :
    exec (.tok 1 1 2) State.taskingFull =
      .next (State.taskingFull.setDev ((State.taskingFull.dev.stepped 5 4).block 5 tsWaitQueue (.port Token.toResult7))) :=
  exec_tok_of_eq (Dev.tok_waits State.taskingFull_taskReady (by decide) (by decide) (by decide) rfl)

/-- Task 5 waits with its token, and the port of core 1 has room. -/
theorem State.tasking_placeFreed :
    let s := State.tasking.setDev (State.tasking.dev.block 5 tsWaitQueue (.port Token.toResult7))
    exec (.tokenPortPlaceFreed 1) s = .next (s.setDev ((s.dev.portLaunch 1 Token.toResult7).ready 5)) :=
  exec_tokenPortPlaceFreed_waiter _ 1 5 _ (by decide) (by decide) (by decide) (by decide) (by decide)

/-- The token that core 1 launched is the first of the network and due at its result register. -/
theorem State.tasking_arrival :
    (State.tasking.dev.portLaunch 1 Token.toResult7).arrival 0 (fun f => decide (f.tok.dest.toNat / 4096 = 2)) =
      some { tok := Token.toResult7, prod := .port 1, slot := 256, tick := 0 } := by decide

/-! The statement. -/

/-- Settles O25: TOK and TOKT by the TYPE of the token and the room in the port, the sole waiter at a port, and the arrival at a result
register by its five fields and its notification. -/
theorem taskTokens : Obligations.TaskTokens := by
  unfold Obligations.TaskTokens
  intro s k n xa xb xc
  refine ⟨fun h => ?issued, fun t hq hw hcore hruns room => exec_tokenPortPlaceFreed_waiter s k n t hq hw hcore hruns room,
    fun j f hheld harr => act_of_eq (f := fun d => d.tokenAtResult j) (s.dev.tokenAtResult_arrival j f hheld harr)⟩
  case issued =>
    have tagNow : BitVec.ofNat 16 ((s.dev.stepped n 4).tick + 1) = BitVec.ofNat 16 (s.dev.tick + 1) := by rw [Dev.tick_stepped]
    have tagXc : BitVec.ofNat 16 ((((s.dev.stepped n 4).ctx n).rX xc).toNat) = ((s.dev.ctx n).rX xc).extractLsb' 0 16 :=
      ofNat_toNat_extractLsb' _ 16
    exact ⟨fun hty => ⟨exec_tok_of_eq (Dev.tok_reserved h hty), exec_tokt_of_eq (Dev.tok_reserved h hty)⟩,
      fun lo hi room => ⟨exec_tok_of_eq (Dev.tok_launches h lo hi room tagNow), exec_tokt_of_eq (Dev.tok_launches h lo hi room tagXc)⟩,
      fun lo hi full => ⟨exec_tok_of_eq (Dev.tok_waits h lo hi full tagNow), exec_tokt_of_eq (Dev.tok_waits h lo hi full tagXc)⟩⟩

end Sys2Proof.Machine
end
